-- ==== Sys2Proof/Word.lean ====
section
/-! DEFINITION. The words of the ST480: bytes, station addresses and the bound of trunk time. -/

namespace Sys2Proof

/-- A byte of the trunk line, of the spill log or of the site port. -/
abbrev Byte := BitVec 8

/-- A station address: the branch number in the upper byte, the station number in the lower (1.3.4, R29). -/
abbrev Addr := BitVec 16

/-- Trunk time lies in 0..2^48 - 1 (1.3.2, R48). -/
def maxTime : Nat := 2 ^ 48 - 1

/-- The bound of the 32-bit litres, depths and counts: 2^32 - 1. -/
def maxU32 : Nat := 2 ^ 32 - 1

end Sys2Proof
end

