-- ==== Sys2Proof/Syntax.lean ====
section
/-! DEFINITION. The commands: one constructor for each row of spec/opcode_table.json, with the row's operands. -/

namespace Sys2Proof

/-- The five digital inputs, numbered 0 to 4 in this order (5.1). -/
inductive DigitalIn where
  | rainTip | gateOpenLimit | gateClosedLimit | spillFloat | pumpRunning
  deriving DecidableEq, Repr

/-- One raw count 0..4095 for each gauge channel, as one sample instant converts them (R66). -/
structure GaugeCounts where
  sewer    : BitVec 12
  tank     : BitVec 12
  overflow : BitVec 12
  deriving DecidableEq, Repr

/-- A command: an event that the host, the line, the field, the oscillator or a timer gives the part. Each is one
whole and indivisible step (spec/95). -/
inductive Instr where
  /-- R23, R46, R63, R78, R105, R120, R137, R161, R181, R191: power-on or the reset pin. -/
  | fullReset
  /-- R184: select is released. `gathered` are the bytes received, `clocked` is how many bytes the part sent,
  `counts` what the gauges convert to if the request taken is a COMMIT that enters RUN. -/
  | transaction (gathered : List Byte) (clocked : Nat) (counts : GaugeCounts)
  /-- R188. `place` is the item's number of the place among its places. -/
  | loadItem (item place : Byte) (value : List Byte)
  /-- R189, R190. `counts` is the first sample of the RUN (R80 b). -/
  | commit (counts : GaugeCounts)
  | readStatus
  | readPeer (index : Byte)
  | readLogSlot (slot : Byte)
  | releaseRecord (number : BitVec 32)
  | readOpenEvent
  | readPending
  | readTotals
  | readRain
  | readCapture (input : Byte)
  | readEvents
  | setEventMask (mask : BitVec 16)
  | setTime (ms : BitVec 64)
  | gateMode (mode : Byte)
  | drainMode (mode : Byte)
  | sendLimit (capacity validity : BitVec 16)
  | silence
  | rejoin
  | clearFaultGate
  | clearFaultPump
  | restart
  | loopTest
  /-- R192 d, e: `gathered` is the bulletin as it came out of the internal path. -/
  | loopTestGathered (gathered : List Byte)
  | loopTestTimeout
  | lineFree
  | deferralExpiry
  /-- R8: `atByte` is the index of the byte the own transmitter is driving, if it is sending. -/
  | collision (atByte : Nat)
  | lastByteDriven
  | backoffExpiry
  | byteReceived (b : Byte)
  | presenceIntervalExpiry
  | cutoffHoldExpiry
  | claimPartStale (peer : Addr)
  | claimPartRemoved (peer : Addr)
  | rainLifetimeExpiry (peer : Addr)
  | forgetTimeExpiry (peer : Addr)
  | limitValidityExpiry
  | anchorPreferenceLapse
  | trunkTimeTick
  | adjust
  | sample (counts : GaugeCounts)
  /-- R70: the contact of `input` goes to the level `asserted`. -/
  | rawTransition (input : DigitalIn) (asserted : Bool)
  | filterExpiry (input : DigitalIn)
  | releaseTimerExpiry
  | gateTravelExpiry
  | retryWaitExpiry
  | reversalPauseExpiry
  | startDebounceExpiry
  | stopDebounceExpiry
  | minuteEnd
  | alertHoldExpiry
  | rainRepeatExpiry
  | claimTimerExpiry
  | startTimeoutExpiry
  | stopTimeoutExpiry
  | restTimerExpiry
  | blockNominalEnd
  deriving DecidableEq, Repr

end Sys2Proof
end

