-- ==== Sys2Proof/Decode.lean ====
section
/-! DEFINITION. Decoding a table word. No row of spec/opcode_table.json has bits (every row has an empty list of
fields and no fixed bits), so no word spells a command. The site port's request frames are decoded in
Sys2Proof/Machine/SitePort.lean. -/

namespace Sys2Proof

/-- The command that a word spells by the table's bits: none, since no row gives any. -/
def decodeTableWord (_nbits _w : Nat) : Option Instr := none

end Sys2Proof
end

