-- ==== Sys2Proof/Config.lean ====
section
/-! DEFINITION. The free values: what the manual leaves to chance or gives no order for. None has a body, so no
proof can rest on one of their values; each is applied to a counter of State, for a fresh value each time. -/

namespace Sys2Proof

/-- R7: the deferral drawn before an attempt, 0..3 backoff slots, each with equal chance (log 4). -/
opaque Config.deferralDraw : Nat → BitVec 2

/-- R14: the five chance bits from which a backoff of 0..2^m - 1 slots is taken (log 4). -/
opaque Config.backoffDraw : Nat → BitVec 5

/-- Whether the first of two notices to different blocks, whose order the manual does not give, is taken first
(1.3.6, R44, R69, R114a, R134; log 5). -/
opaque Config.firstTaken : Nat → Bool

end Sys2Proof
end

