-- ==== Sys2Proof/Machine/Items.lean ====
section
/-! DEFINITION. The configuration items of the table in 11.3: their types, their places and their defaults. -/

namespace Sys2Proof.Machine

/-- The three gauge channels, numbered 0, 1, 2 in this order (5.1). -/
inductive Gauge where
  | sewer | tank | overflow
  deriving DecidableEq, Repr

/-- One value for each gauge channel. -/
structure PerGauge (α : Type) where
  sewer    : α
  tank     : α
  overflow : α
  deriving DecidableEq, Repr

/-- One value for each digital input. -/
structure PerInput (α : Type) where
  rainTip         : α
  gateOpenLimit   : α
  gateClosedLimit : α
  spillFloat      : α
  pumpRunning     : α
  deriving DecidableEq, Repr

/-- The value of one gauge channel. -/
def PerGauge.get {α : Type} (p : PerGauge α) : Gauge → α
  | .sewer => p.sewer
  | .tank => p.tank
  | .overflow => p.overflow

/-- The value of one gauge channel replaced. -/
def PerGauge.set {α : Type} (p : PerGauge α) (g : Gauge) (a : α) : PerGauge α :=
  match g with
  | .sewer => { p with sewer := a }
  | .tank => { p with tank := a }
  | .overflow => { p with overflow := a }

/-- The value of one digital input. -/
def PerInput.get {α : Type} (p : PerInput α) : DigitalIn → α
  | .rainTip => p.rainTip
  | .gateOpenLimit => p.gateOpenLimit
  | .gateClosedLimit => p.gateClosedLimit
  | .spillFloat => p.spillFloat
  | .pumpRunning => p.pumpRunning

/-- The value of one digital input replaced. -/
def PerInput.set {α : Type} (p : PerInput α) (i : DigitalIn) (a : α) : PerInput α :=
  match i with
  | .rainTip => { p with rainTip := a }
  | .gateOpenLimit => { p with gateOpenLimit := a }
  | .gateClosedLimit => { p with gateClosedLimit := a }
  | .spillFloat => { p with spillFloat := a }
  | .pumpRunning => { p with pumpRunning := a }

/-- The uses of an acceptance entry (R29). -/
structure Uses where
  claim : Bool
  rain  : Bool
  time  : Bool
  limit : Bool
  deriving DecidableEq, Repr

/-- An acceptance entry: a value-and-mask pair over the sender address, with its uses (R29). -/
structure AcceptEntry where
  value : Addr
  mask  : BitVec 16
  uses  : Uses
  deriving DecidableEq, Repr

/-- The four acceptance entries, numbered 0 to 3 (R29). -/
structure AcceptTable where
  e0 : AcceptEntry
  e1 : AcceptEntry
  e2 : AcceptEntry
  e3 : AcceptEntry
  deriving DecidableEq, Repr

/-- The mode of a capture record (R72). -/
inductive CaptureMode where
  | off | single | continuous
  deriving DecidableEq, Repr

/-- The capture modes of one digital input, one for each direction (R72). -/
structure CaptureModes where
  rising  : CaptureMode
  falling : CaptureMode
  deriving DecidableEq, Repr

/-- A point of the stage-volume table (level in mm, volume in m³) or of the weir table (head in mm, flow in L/s)
(R81, R107). -/
structure Point where
  x : Nat
  y : Nat
  deriving DecidableEq, Repr

/-- The value of every configuration item, in the order of the table in 11.3. -/
structure Items where
  stationAddress   : Option Addr
  priorityWeight   : Nat
  claimPeriod      : Nat
  claimSpacing     : Nat
  presenceInterval : Nat
  forgetTime       : Nat
  accept           : AcceptTable
  cutoffHold       : Nat
  lineDelay        : Nat
  clockDepth       : Nat
  stepLimit        : Nat
  anchor           : Bool
  samplePeriod     : Nat
  span             : PerGauge Nat
  datum            : PerGauge Nat
  filter           : PerInput Nat
  capture          : PerInput CaptureModes
  stage            : List Point
  emptyVolume      : Nat
  admitLevel       : Nat
  admitHyst        : Nat
  admitHold        : Nat
  returnLevel      : Nat
  returnHyst       : Nat
  gateTravel       : Nat
  gateRetries      : Nat
  pumpMax          : Nat
  pumpMin          : Nat
  pumpStartTimeout : Nat
  pumpStopTimeout  : Nat
  pumpRest         : Nat
  setpointDeadband : Nat
  silentAllowance  : Nat
  fallbackCapacity : Nat
  margin           : Nat
  crest            : Nat
  spillDeadband    : Nat
  spillStartDebounce : Nat
  spillStopDebounce  : Nat
  weir             : List Point
  tipDepth         : Nat
  tipMinSpacing    : Nat
  shortWindow      : Nat
  tWatch           : Nat
  tWarn            : Nat
  tSevere          : Nat
  alertHold        : Nat
  rainRepeat       : Nat
  rainLifetime     : Nat
  blockFirst       : Nat
  blockNext        : Nat
  deriving DecidableEq, Repr

/-- An acceptance entry with empty uses (R46); value and mask 0 (log 27). -/
def emptyAccept : AcceptEntry := ⟨0, 0, ⟨false, false, false, false⟩⟩

/-- The default capture modes of an input, CONTINUOUS in both directions (11.3, R78). -/
def defaultCapture : CaptureModes := ⟨.continuous, .continuous⟩

/-- Every item at its default, the last column of the table in 11.3. -/
def factoryItems : Items where
  stationAddress := none
  priorityWeight := 1
  claimPeriod := 10
  claimSpacing := 250
  presenceInterval := 30
  forgetTime := 180
  accept := ⟨emptyAccept, emptyAccept, emptyAccept, emptyAccept⟩
  cutoffHold := 120
  lineDelay := 2
  clockDepth := 3
  stepLimit := 5000
  anchor := false
  samplePeriod := 2
  span := ⟨5000, 5000, 5000⟩
  datum := ⟨0, 0, 0⟩
  filter := ⟨100, 100, 100, 100, 100⟩
  capture := ⟨defaultCapture, defaultCapture, defaultCapture, defaultCapture, defaultCapture⟩
  stage := [⟨0, 0⟩, ⟨4000, 1000⟩]
  emptyVolume := 5
  admitLevel := 2000
  admitHyst := 50
  admitHold := 600
  returnLevel := 1000
  returnHyst := 50
  gateTravel := 90
  gateRetries := 2
  pumpMax := 100
  pumpMin := 20
  pumpStartTimeout := 20
  pumpStopTimeout := 30
  pumpRest := 120
  setpointDeadband := 20
  silentAllowance := 0
  fallbackCapacity := 0
  margin := 50
  crest := 3000
  spillDeadband := 10
  spillStartDebounce := 60
  spillStopDebounce := 300
  weir := [⟨0, 0⟩, ⟨500, 1000⟩]
  tipDepth := 2
  tipMinSpacing := 2
  shortWindow := 5
  tWatch := 40
  tWarn := 150
  tSevere := 400
  alertHold := 30
  rainRepeat := 5
  rainLifetime := 20
  blockFirst := 12
  blockNext := 24

/-- The items in force before the first COMMIT: no table is committed (R105, R120) and no address (log 27). -/
def noneCommitted : Items := { factoryItems with stage := [], weir := [] }

end Sys2Proof.Machine
end

