-- ==== Sys2Proof/Machine/State.lean ====
section
/-! DEFINITION. The state of the ST480, block by block, as plain data, and the state after a full reset. Instants are
elapsed milliseconds; stamps are trunk time. A running timer is held as the elapsed instant of its expiry. -/

namespace Sys2Proof.Machine

/-- Why the machine stops with a fault: never. The manual names no condition that stops the part (INVENTORY, Faults),
so the type has no constructor. -/
inductive Fault where
  deriving DecidableEq, Repr

/-- Why a command has no meaning. -/
inductive Refusal where
  /-- Raised by exec's arm for a command that has no meaning yet; no arm raises it now. Safe: the model stops. -/
  | notModelled (mnemonic : String)
  deriving DecidableEq, Repr

/-- An elapsed instant with the trunk time of that instant. -/
structure Stamped where
  instant : Nat
  stamp   : Nat
  deriving DecidableEq, Repr

/-- The four clock states, with their codes 0 to 3 in this order (2.2, 4.1). -/
inductive ClockState where
  | unset | following | settled | anchored
  deriving DecidableEq, Repr

/-- The alert levels CLEAR 0, WATCH 1, WARNING 2, SEVERE 3 (1.5). -/
inductive AlertLevel where
  | clear | watch | warning | severe
  deriving DecidableEq, Repr

/-! ### Trunk Interface (chapter 2) -/

/-- The four bulletin kinds (2.2). -/
inductive Kind where
  | claim | rain | limit | presence
  deriving DecidableEq, Repr

/-- The body of a CLAIM, its fields as sent (2.2, 3.1). -/
structure ClaimBody where
  requested : Nat
  drawn     : Nat
  fill      : Nat
  weight    : Nat
  urgency   : Nat
  period    : Nat
  deriving DecidableEq, Repr

/-- The body of a RAIN, its fields as sent (2.2, 3.1). -/
structure RainBody where
  level : Nat
  short : Nat
  long  : Nat
  age   : Nat
  deriving DecidableEq, Repr

/-- The body of a LIMIT, its fields as sent (2.2, 3.1). -/
structure LimitBody where
  capacity : Nat
  validity : Nat
  deriving DecidableEq, Repr

/-- A bulletin body. -/
inductive Body where
  | claim (c : ClaimBody)
  | rain (r : RainBody)
  | limit (l : LimitBody)
  | presence
  deriving DecidableEq, Repr

/-- A transmit slot (R4). -/
inductive Slot where
  | empty
  | waiting (body : Body) (count : Nat)
  | sending (body : Body) (count : Nat) (next : Option Body)
  deriving DecidableEq, Repr

/-- The four transmit slots, one for each kind (R4). -/
structure Slots where
  claim    : Slot
  rain     : Slot
  limit    : Slot
  presence : Slot
  deriving DecidableEq, Repr

/-- The transmitter states (2.4). -/
inductive TxState where
  | idle | waitLine | defer | send | backoff
  deriving DecidableEq, Repr

/-- The attempt in flight (R8): the slot's kind and body, the bulletin composed (R2), the stamp of its first sync
byte (R61 e), the echo once it is gathered whole and valid (R8), whether R24 disregards its outcome, and the elapsed
instant at which it began, from which its L byte-times run (R1). -/
structure Attempt where
  kind        : Kind
  body        : Body
  bytes       : List Byte
  stamp       : Nat
  echo        : Option (List Byte)
  disregarded : Bool
  began       : Nat
  deriving DecidableEq, Repr

/-- A bulletin being gathered (R15): its bytes so far, its arrival stamp, whether it is the own echo, and whether T
was stepped after the stamp was given (R50 d). -/
structure Gathering where
  bytes   : List Byte
  stamp   : Nat
  echo    : Bool
  stepped : Bool
  deriving DecidableEq, Repr

/-- The receiver (R15, R23). -/
inductive Receiver where
  | off
  | listen
  | frame (g : Gathering)
  | discard
  deriving DecidableEq, Repr

/-- The cause of CUT_OFF (R18, R20). -/
inductive CutCause where
  | score | clash
  deriving DecidableEq, Repr

/-- Standing (R19). -/
inductive Standing where
  | normal | warned | quiet
  | cutOff (cause : CutCause)
  | silenced
  deriving DecidableEq, Repr

structure Trunk where
  slots        : Slots
  tx           : TxState
  txUntil      : Option Nat
  attempt      : Option Attempt
  rx           : Receiver
  lineFree     : Bool
  lastActivity : Nat
  txScore      : Nat
  rxScore      : Nat
  standing     : Standing
  cutoffHold   : Option Nat
  presence     : Option Nat
  deriving DecidableEq, Repr

/-! ### Peer Table (chapter 3) -/

/-- A claim part (R35): the clamped body, its arrival, and whether it is FRESH (else STALE). -/
structure ClaimPart where
  requested : Nat
  drawn     : Nat
  fill      : Nat
  weight    : Nat
  spilling  : Bool
  period    : Nat
  arrival   : Nat
  fresh     : Bool
  deriving DecidableEq, Repr

/-- A rain part (R37). -/
structure RainPart where
  level   : AlertLevel
  short   : Nat
  long    : Nat
  age     : Nat
  arrival : Nat
  deriving DecidableEq, Repr

/-- A peer entry (R32); `accepted` is the acceptance instant of its latest bulletin. -/
structure PeerEntry where
  address    : Addr
  hit        : Nat
  firstHeard : Nat
  lastHeard  : Nat
  lastClock  : ClockState
  lastQuiet  : Bool
  claim      : Option ClaimPart
  rain       : Option RainPart
  accepted   : Nat
  deriving DecidableEq, Repr

/-- The limit record once a LIMIT has been applied (R41). -/
structure LimitRecord where
  capacity : Nat
  validity : Nat
  sender   : Addr
  arrival  : Stamped
  fresh    : Bool
  deriving DecidableEq, Repr

structure Peers where
  entries : List PeerEntry
  limit   : Option LimitRecord
  deriving DecidableEq, Repr

/-! ### Time Unit (chapter 4) -/

/-- The outcome of a taken sample (R52). -/
inductive SampleOutcome where
  | step | outlier | used
  deriving DecidableEq, Repr

/-- The last sample record (R52). -/
structure LastSample where
  sender  : Addr
  value   : Int
  outcome : SampleOutcome
  taken   : Nat
  deriving DecidableEq, Repr

structure TimeUnit where
  t          : Nat
  clock      : ClockState
  e          : Int
  settleRun  : Nat
  outlierRun : Nat
  anchorPref : Option Nat
  lastSample : Option LastSample
  nextAdjust : Option Nat
  withheld   : Bool
  deriving DecidableEq, Repr

/-! ### Input Unit (chapter 5) -/

/-- The status of a gauge channel (R67, R68). -/
inductive ChannelStatus where
  | good | held | failed
  deriving DecidableEq, Repr

/-- A gauge channel (5.1); `previous` is its previous sample instant in this RUN. -/
structure GaugeChannel where
  level    : Nat
  status   : ChannelStatus
  run      : Nat
  proven   : Bool
  raw      : BitVec 12
  previous : Option Nat
  deriving DecidableEq, Repr

/-- A candidate: a level differing from the recognised one, with the stamp and instant of its transition (R70). -/
structure Candidate where
  level : Bool
  since : Stamped
  deriving DecidableEq, Repr

/-- A capture record (R72). -/
structure Capture where
  captured : Bool
  lost     : Bool
  stamp    : Nat
  deriving DecidableEq, Repr

/-- A digital input (5.1); true is asserted, and a recognised level of none is undetermined. -/
structure DigitalInput where
  raw        : Bool
  recognised : Option Bool
  candidate  : Option Candidate
  rising     : Capture
  falling    : Capture
  deriving DecidableEq, Repr

/-- The gate drive state OFF, OPEN, CLOSE: the two outputs are never energised together (R74). -/
inductive GateDrive where
  | off | driveOpen | driveClose
  deriving DecidableEq, Repr

structure InputUnit where
  gauges     : PerGauge GaugeChannel
  nextSample : Option Nat
  digital    : PerInput DigitalInput
  gateDrive  : GateDrive
  pumpRun    : Bool
  pumpRate   : Nat
  lamp       : Bool
  deriving DecidableEq, Repr

/-! ### Tank Controller (chapter 6) -/

inductive TankState where
  | off | dry | admitting | holding | draining
  deriving DecidableEq, Repr

/-- The gate states, in the order of 1.5. -/
inductive GateState where
  | closed | opening | opened | closing | stopped | retryWait | reversing | fault
  deriving DecidableEq, Repr

/-- A gate direction OPEN or CLOSE; also the target OPEN or CLOSED (6.1). -/
inductive GateDir where
  | toOpen | toClose
  deriving DecidableEq, Repr

inductive GateMode where
  | auto | forceOpen | forceClosed
  deriving DecidableEq, Repr

structure Tank where
  volume       : Nat
  fill         : Nat
  assumedFull  : Bool
  state        : TankState
  releaseTimer : Option Nat
  openDeferred : Bool
  gate         : Option GateState
  gateDir      : Option GateDir
  retries      : Nat
  gateTimer    : Option Nat
  mode         : GateMode
  target       : Option GateDir
  deriving DecidableEq, Repr

/-! ### Spill Monitor (chapter 7) -/

inductive SpillState where
  | clear | onset | spilling | subsiding
  deriving DecidableEq, Repr

/-- The marks of the present spell (R118). -/
structure SpellMarks where
  held   : Bool
  beyond : Bool
  level  : Bool
  deriving DecidableEq, Repr

structure Spill where
  head         : Option Int
  status       : Option ChannelStatus
  flow         : Nat
  beyond       : Bool
  levelCond    : Bool
  levelInstant : Option Stamped
  floatCond    : Bool
  state        : SpillState
  stateInstant : Option Stamped
  onset        : Option Stamped
  subsiding    : Option Stamped
  debounce     : Option Nat
  remainder    : Nat
  provisional  : Nat
  marks        : SpellMarks
  confirmed    : Nat
  deriving DecidableEq, Repr

/-! ### Rain Unit (chapter 8) -/

structure Rain where
  lastTip     : Option Stamped
  bins        : List Nat
  minutes     : Nat
  nextMinute  : Option Nat
  total       : Nat
  accepted    : Nat
  rejected    : Nat
  short       : Nat
  long        : Nat
  condWatch   : Bool
  condWarning : Bool
  condSevere  : Bool
  own         : AlertLevel
  lastRise    : Option Nat
  hold        : Option Nat
  rainRepeat  : Option Nat
  branch      : AlertLevel
  deriving DecidableEq, Repr

/-! ### Drain Controller (chapter 9) -/

/-- The own claim (R139). -/
structure OwnClaim where
  requested : Nat
  drawn     : Nat
  fill      : Nat
  spilling  : Bool
  weight    : Nat
  deriving DecidableEq, Repr

/-- A claimant of a computation (R147); `assigned` is none until a pass assigns it (R148). -/
structure Claimant where
  address   : Addr
  weight    : Nat
  requested : Nat
  assigned  : Option Nat
  deriving DecidableEq, Repr

/-- The source of the base capacity K0 (R144). -/
inductive CapacitySource where
  | limitRecord | fallback
  deriving DecidableEq, Repr

/-- The last computation (R144 to R149). -/
structure Computation where
  k0        : Nat
  source    : CapacitySource
  ka        : Nat
  rs        : Nat
  m         : Nat
  keff      : Nat
  claimants : List Claimant
  own       : Nat
  deriving DecidableEq, Repr

inductive PumpState where
  | stopped | starting | running | stopping | fault
  deriving DecidableEq, Repr

inductive DrainMode where
  | auto | hold
  deriving DecidableEq, Repr

structure Drain where
  claim       : OwnClaim
  claimTarget : Option Nat
  last        : Computation
  share       : Nat
  shareStamp  : Option Nat
  setpoint    : Nat
  lastNonzero : Option Nat
  pump        : Option PumpState
  pumpTimer   : Option Nat
  restTimer   : Option Nat
  restElapsed : Bool
  mode        : DrainMode
  deriving DecidableEq, Repr

/-! ### Spill Counter (chapter 10) -/

/-- The entry of a counted block (R166). -/
structure BlockEntry where
  index   : Nat
  start   : Nat
  seconds : Nat
  peak    : Nat
  deriving DecidableEq, Repr

/-- The record flags in the order of their bits (R174). -/
structure RecordFlags where
  timeUnset       : Bool
  timeSet         : Bool
  sensorHeld      : Bool
  switchOnly      : Bool
  headBeyondTable : Bool
  gateFault       : Bool
  interrupted     : Bool
  split           : Bool
  continued       : Bool
  deriving DecidableEq, Repr

/-- The open event (10.1): `lastEnd` is the end of its last confirmed interval, `lastCredit` the instant of its last
credit (R165 a). -/
structure SpillEvent where
  number     : Nat
  start      : Stamped
  flags      : RecordFlags
  rainAtOpen : Nat
  peakAlert  : AlertLevel
  litres     : Nat
  entries    : List BlockEntry
  lastEnd    : Option Stamped
  lastCredit : Option Nat
  deriving DecidableEq, Repr

/-- A counting block (10.1): the current block or the deferred one. -/
structure Block where
  index         : Nat
  start         : Stamped
  nominalEnd    : Nat
  containsSpill : Bool
  credited      : Nat
  peak          : Nat
  deriving DecidableEq, Repr

/-- The provisional summary of a spell in ONSET (R171). -/
structure Summary where
  before  : Nat
  after   : Nat
  stepped : Bool
  deriving DecidableEq, Repr

/-- A closed spill record (R174). -/
structure SpillRecord where
  number  : Nat
  start   : Nat
  finish  : Nat
  seconds : Nat
  volume  : Nat
  rain    : Nat
  peak    : AlertLevel
  flags   : RecordFlags
  entries : List BlockEntry
  deriving DecidableEq, Repr

inductive LogOwner where
  | log | host
  deriving DecidableEq, Repr

/-- The spill log (R175): the owner of each of its 48 slots, their 32 bytes each as cells in canonical form (address
32 × slot + byte), and the two positions. -/
structure SpillLog where
  owners   : List LogOwner
  content  : List Host.Cell
  readPos  : Nat
  writePos : Nat
  deriving DecidableEq, Repr

/-- The six totals (R178). -/
structure Totals where
  opened         : Nat
  counted        : Nat
  released       : Nat
  droppedBlocks  : Nat
  droppedRecords : Nat
  seconds        : Nat
  deriving DecidableEq, Repr

structure Counter where
  spill          : SpillState
  eventNumber    : Nat
  event          : Option SpillEvent
  current        : Option Block
  deferred       : Option Block
  spillSince     : Option Nat
  levelSeen      : Bool
  summary        : Summary
  log            : SpillLog
  pendingRecords : List SpillRecord
  totals         : Totals
  deriving DecidableEq, Repr

/-! ### Site Port (chapter 11) -/

inductive RunState where
  | config | run
  deriving DecidableEq, Repr

/-- The result of the loop test (R192). -/
inductive LoopResult where
  | none | inFlight | pass | fail
  deriving DecidableEq, Repr

/-- A loop test in flight: the bulletin composed and the instant of its timeout (R192). -/
structure LoopTest where
  bulletin : List Byte
  deadline : Nat
  deriving DecidableEq, Repr

/-- The item that failed a COMMIT: its number and its place (R189). -/
structure ItemRef where
  item  : Nat
  place : Nat
  deriving DecidableEq, Repr

/-- The status codes of 1.4, numbered 0 to 4 in this order (R183). -/
inductive Status where
  | done | refused | badArgument | busy | badFrame
  deriving DecidableEq, Repr

structure Port where
  run          : RunState
  items        : Items
  loaded       : List ItemRef
  committed    : Items
  flags        : BitVec 15
  mask         : BitVec 15
  attention    : Bool
  loopResult   : LoopResult
  loopTest     : Option LoopTest
  lastRefusal  : Option ItemRef
  heldResponse : List Byte
  sent         : List Byte
  deriving DecidableEq, Repr

/-- The counters of the free values (the model's own; log 4, log 5). -/
structure FreeCounters where
  deferrals : Nat
  backoffs  : Nat
  orders    : Nat
  deriving DecidableEq, Repr

/-- The whole part. `elapsed` counts the elapsed milliseconds since the full reset (log 2); `pending` is the queue of
the commands that are waiting, the first in front. -/
structure State where
  elapsed : Nat
  trunk   : Trunk
  peers   : Peers
  time    : TimeUnit
  input   : InputUnit
  tank    : Tank
  spill   : Spill
  rain    : Rain
  drain   : Drain
  counter : Counter
  port    : Port
  free    : FreeCounters
  pending : List Instr
  deriving DecidableEq, Repr

/-! ### The state after a full reset -/

/-- R23. That the line counts as busy is the model's choice, since the table gives no mark (log 43). -/
def Trunk.reset : Trunk where
  slots := ⟨.empty, .empty, .empty, .empty⟩
  tx := .idle
  txUntil := none
  attempt := none
  rx := .off
  lineFree := false
  lastActivity := 0
  txScore := 0
  rxScore := 0
  standing := .normal
  cutoffHold := none
  presence := none

/-- R46. -/
def Peers.reset : Peers := ⟨[], none⟩

/-- R63. -/
def TimeUnit.reset : TimeUnit where
  t := 0
  clock := .unset
  e := 0
  settleRun := 0
  outlierRun := 0
  anchorPref := none
  lastSample := none
  nextAdjust := none
  withheld := false

/-- R78. -/
def GaugeChannel.reset : GaugeChannel := ⟨0, .failed, 0, false, 0, none⟩

/-- R78; the raw level is the contact's, released by log 9. -/
def DigitalInput.reset : DigitalInput := ⟨false, none, none, ⟨false, false, 0⟩, ⟨false, false, 0⟩⟩

/-- R78. -/
def InputUnit.reset : InputUnit where
  gauges := ⟨.reset, .reset, .reset⟩
  nextSample := none
  digital := ⟨.reset, .reset, .reset, .reset, .reset⟩
  gateDrive := .off
  pumpRun := false
  pumpRate := 0
  lamp := false

/-- R105. -/
def Tank.reset : Tank where
  volume := 0
  fill := 0
  assumedFull := false
  state := .off
  releaseTimer := none
  openDeferred := false
  gate := none
  gateDir := none
  retries := 0
  gateTimer := none
  mode := .auto
  target := none

/-- R120. -/
def Spill.reset : Spill where
  head := none
  status := none
  flow := 0
  beyond := false
  levelCond := false
  levelInstant := none
  floatCond := false
  state := .clear
  stateInstant := none
  onset := none
  subsiding := none
  debounce := none
  remainder := 0
  provisional := 0
  marks := ⟨false, false, false⟩
  confirmed := 0

/-- R137. -/
def Rain.reset : Rain where
  lastTip := none
  bins := []
  minutes := 0
  nextMinute := none
  total := 0
  accepted := 0
  rejected := 0
  short := 0
  long := 0
  condWatch := false
  condWarning := false
  condSevere := false
  own := .clear
  lastRise := none
  hold := none
  rainRepeat := none
  branch := .clear

/-- R161, the last computation; its source by log 27. -/
def Computation.reset : Computation := ⟨0, .fallback, 0, 0, 0, 0, [], 0⟩

/-- R161. -/
def Drain.reset : Drain where
  claim := ⟨0, 0, 0, false, factoryItems.priorityWeight⟩
  claimTarget := none
  last := .reset
  share := 0
  shareStamp := none
  setpoint := 0
  lastNonzero := none
  pump := none
  pumpTimer := none
  restTimer := none
  restElapsed := false
  mode := .auto

/-- R175, R181: all 48 slots LOG, contents zero. -/
def SpillLog.reset : SpillLog := ⟨List.replicate 48 .log, [], 0, 0⟩

/-- R181. -/
def Counter.reset : Counter where
  spill := .clear
  eventNumber := 0
  event := none
  current := none
  deferred := none
  spillSince := none
  levelSeen := false
  summary := ⟨0, 0, false⟩
  log := .reset
  pendingRecords := []
  totals := ⟨0, 0, 0, 0, 0, 0⟩

/-- R186, R191: the empty response is code 0, status DONE, data length 0, and its check byte 0. -/
def Port.reset : Port where
  run := .config
  items := factoryItems
  loaded := []
  committed := noneCommitted
  flags := 0
  mask := 0
  attention := false
  loopResult := .none
  loopTest := none
  lastRefusal := none
  heldResponse := [0, 0, 0, 0, 0]
  sent := []

/-- The part right after a full reset, with no command waiting. -/
def State.reset : State where
  elapsed := 0
  trunk := .reset
  peers := .reset
  time := .reset
  input := .reset
  tank := .reset
  spill := .reset
  rain := .reset
  drain := .reset
  counter := .reset
  port := .reset
  free := ⟨0, 0, 0⟩
  pending := []

end Sys2Proof.Machine
end

