-- ==== Sys2Proof/Machine/Flags.lean ====
section
/-! DEFINITION. The event flags, the event mask and the attention line (11.7). -/

namespace Sys2Proof.Machine

/-- The 15 event flags, in the order of their bits (11.7). -/
inductive EventFlag where
  | spillStart | spillEnd | recordReady | logFull | recordDropped | alertChange | standingChange | clockChange
  | clockDisagree | limitChange | gateFault | pumpFault | sensorFault | tableFull | addressClash
  deriving DecidableEq, Repr

/-- The bit of a flag in the READ_EVENTS response and in the event mask (11.7). -/
def EventFlag.bit : EventFlag → Nat
  | .spillStart => 0
  | .spillEnd => 1
  | .recordReady => 2
  | .logFull => 3
  | .recordDropped => 4
  | .alertChange => 5
  | .standingChange => 6
  | .clockChange => 7
  | .clockDisagree => 8
  | .limitChange => 9
  | .gateFault => 10
  | .pumpFault => 11
  | .sensorFault => 12
  | .tableFull => 13
  | .addressClash => 14

/-- R197: the line is asserted while any flag is set whose mask bit is set. -/
def attentionOf (flags mask : BitVec 15) : Bool := (flags &&& mask) != 0

/-- The flags and the mask replaced, and the attention line re-evaluated (R195, R196, R197). -/
def Port.withEvents (p : Port) (flags mask : BitVec 15) : Port :=
  { p with flags := flags, mask := mask, attention := attentionOf flags mask }

/-- R195: a cause sets its flag, in either run state and whatever the mask holds. -/
def raise (f : EventFlag) (s : State) : State :=
  { s with port := s.port.withEvents (s.port.flags ||| BitVec.twoPow 15 f.bit) s.port.mask }

/-- Whether a flag is set. -/
def flagSet (f : EventFlag) (s : State) : Bool := s.port.flags.getLsbD f.bit

end Sys2Proof.Machine
end

