-- ==== Sys2Proof/Machine/Operands.lean ====
section
/-! DEFINITION. Byte orders and the operand forms of the site port: numbers in frames, request frames, response
frames and the encodings of response fields (R183). -/

namespace Sys2Proof.Machine

/-! ### Numbers, most significant byte first -/

/-- The number n in k bytes, most significant byte first (1.3.7, R183). -/
def bytesOf : Nat → Nat → List Byte
  | 0, _ => []
  | k + 1, n => BitVec.ofNat 8 (n / 256 ^ k) :: bytesOf k n

/-- The number that bytes spell, most significant byte first. -/
def natOf (bs : List Byte) : Nat := bs.foldl (fun n b => n * 256 + b.toNat) 0

/-- The byte at an index, 0 past the end. -/
def byteAt (bs : List Byte) (i : Nat) : Nat := (bs.getD i 0).toNat

/-! ### Fields of response data (R183) -/

/-- R183 a. -/
def boolField (b : Bool) : List Byte := [if b then 1 else 0]

/-- R183 c: one byte that says whether the field holds a value, then the value. -/
def optField {α : Type} (enc : α → List Byte) : Option α → List Byte
  | none => [0]
  | some a => 1 :: enc a

/-- R183 d: two's complement in k bytes. -/
def intField (k : Nat) (i : Int) : List Byte := bytesOf k (i % (256 ^ k : Int)).toNat

/-- R183 f. -/
def addrField (a : Addr) : List Byte := bytesOf 2 a.toNat

/-- The whole seconds remaining until an expiry. -/
def secondsLeft (now expiry : Nat) : Nat := (expiry - now) / 1000

/-- The whole seconds elapsed since an instant. -/
def secondsSince (now instant : Nat) : Nat := (now - instant) / 1000

/-- A timer's field: whether it runs, and its whole seconds remaining in k bytes. -/
def timerField (k now : Nat) (timer : Option Nat) : List Byte :=
  optField (fun x => bytesOf k (secondsLeft now x)) timer

/-! ### Codes of named values (R183 b: the place in the list that first names them) -/

def ClockState.code : ClockState → Nat
  | .unset => 0
  | .following => 1
  | .settled => 2
  | .anchored => 3

def AlertLevel.code : AlertLevel → Nat
  | .clear => 0
  | .watch => 1
  | .warning => 2
  | .severe => 3

/-- The alert level of a number; above 3 is taken as 3 (R28 a). -/
def AlertLevel.fromNat : Nat → AlertLevel
  | 0 => .clear
  | 1 => .watch
  | 2 => .warning
  | _ => .severe

/-- The higher of two alert levels. -/
def AlertLevel.higher (a b : AlertLevel) : AlertLevel := if a.code < b.code then b else a

def RunState.code : RunState → Nat
  | .config => 0
  | .run => 1

def LoopResult.code : LoopResult → Nat
  | .none => 0
  | .inFlight => 1
  | .pass => 2
  | .fail => 3

def Standing.code : Standing → Nat
  | .normal => 0
  | .warned => 1
  | .quiet => 2
  | .cutOff _ => 3
  | .silenced => 4

def CutCause.code : CutCause → Nat
  | .score => 0
  | .clash => 1

/-- The cause of CUT_OFF, absent in every other standing. -/
def Standing.cause : Standing → Option CutCause
  | .cutOff c => some c
  | _ => none

def TxState.code : TxState → Nat
  | .idle => 0
  | .waitLine => 1
  | .defer => 2
  | .send => 3
  | .backoff => 4

def Slot.code : Slot → Nat
  | .empty => 0
  | .waiting _ _ => 1
  | .sending _ _ _ => 2

def SampleOutcome.code : SampleOutcome → Nat
  | .step => 0
  | .outlier => 1
  | .used => 2

def ChannelStatus.code : ChannelStatus → Nat
  | .good => 0
  | .held => 1
  | .failed => 2

def GateDrive.code : GateDrive → Nat
  | .off => 0
  | .driveOpen => 1
  | .driveClose => 2

def TankState.code : TankState → Nat
  | .off => 0
  | .dry => 1
  | .admitting => 2
  | .holding => 3
  | .draining => 4

def GateState.code : GateState → Nat
  | .closed => 0
  | .opening => 1
  | .opened => 2
  | .closing => 3
  | .stopped => 4
  | .retryWait => 5
  | .reversing => 6
  | .fault => 7

def GateDir.code : GateDir → Nat
  | .toOpen => 0
  | .toClose => 1

def GateMode.code : GateMode → Nat
  | .auto => 0
  | .forceOpen => 1
  | .forceClosed => 2

def SpillState.code : SpillState → Nat
  | .clear => 0
  | .onset => 1
  | .spilling => 2
  | .subsiding => 3

/-- The source of K0 (R160 c), coded by log 51. -/
def CapacitySource.code : CapacitySource → Nat
  | .limitRecord => 0
  | .fallback => 1

def PumpState.code : PumpState → Nat
  | .stopped => 0
  | .starting => 1
  | .running => 2
  | .stopping => 3
  | .fault => 4

def DrainMode.code : DrainMode → Nat
  | .auto => 0
  | .hold => 1

def LogOwner.code : LogOwner → Nat
  | .log => 0
  | .host => 1

def Status.code : Status → Nat
  | .done => 0
  | .refused => 1
  | .badArgument => 2
  | .busy => 3
  | .badFrame => 4

/-! ### Frames (R183, R185) -/

/-- The sum of bytes modulo 256. -/
def byteSum (bs : List Byte) : Byte := bs.foldl (· + ·) 0

/-- Bytes with their check byte: all of them sum to 0 modulo 256 (R183). -/
def withCheck (bs : List Byte) : List Byte := bs ++ [0 - byteSum bs]

/-- The request frame of a code and its arguments (R183). -/
def requestFrame (code : Byte) (args : List Byte) : List Byte :=
  withCheck (code :: BitVec.ofNat 8 args.length :: args)

/-- The response frame of a code, a status and data (R183). -/
def responseFrame (code : Byte) (st : Status) (data : List Byte) : List Byte :=
  withCheck (code :: BitVec.ofNat 8 st.code :: bytesOf 2 data.length ++ data)

/-- The argument length each request takes, by its code (the table of 11.2); LOAD_ITEM takes one that depends on its
item, and a code outside 1..22 is none of a request. -/
def argumentLength : Nat → Option (Option Nat)
  | 1 => some none
  | 2 => some (some 0)
  | 3 => some (some 0)
  | 4 => some (some 1)
  | 5 => some (some 1)
  | 6 => some (some 4)
  | 7 => some (some 0)
  | 8 => some (some 0)
  | 9 => some (some 0)
  | 10 => some (some 0)
  | 11 => some (some 1)
  | 12 => some (some 0)
  | 13 => some (some 2)
  | 14 => some (some 8)
  | 15 => some (some 1)
  | 16 => some (some 1)
  | 17 => some (some 4)
  | 18 => some (some 0)
  | 19 => some (some 0)
  | 20 => some (some 1)
  | 21 => some (some 0)
  | 22 => some (some 0)
  | _ => none

/-- R185: a gathered frame that passes its check is its code and its arguments; any other is none. -/
def parseFrame (gathered : List Byte) : Option (Nat × List Byte) :=
  let a := byteAt gathered 1
  let code := byteAt gathered 0
  if gathered.length < 3 ∨ gathered.length < a + 3 then none
  else if byteSum (gathered.take (a + 3)) ≠ 0 then none
  else match argumentLength code with
    | none => none
    | some none => some (code, (gathered.drop 2).take a)
    | some (some n) => if a = n then some (code, (gathered.drop 2).take a) else none

/-- R184: the bytes the part sends while `clocked` bytes are clocked: the held response from byte 0, then 0x00. -/
def sentBytes (held : List Byte) (clocked : Nat) : List Byte :=
  held.take clocked ++ List.replicate (clocked - held.length) 0

end Sys2Proof.Machine
end

