-- ==== Sys2Proof/Machine/Ops.lean ====
section
/-! DEFINITION. Operations shared by the blocks: timers, draws by chance, notices without an order, named reads of
the state, and the bytes of the spill log. -/

namespace Sys2Proof.Machine

/-! ### Time -/

/-- Seconds, minutes and hours in elapsed milliseconds. -/
def seconds (n : Nat) : Nat := n * 1000
def minutes (n : Nat) : Nat := n * 60000
def hours (n : Nat) : Nat := n * 3600000

/-- Whether a timer runs and its expiry has been reached (log 1). -/
def State.due (s : State) (timer : Option Nat) : Bool :=
  match timer with
  | none => false
  | some x => decide (x ≤ s.elapsed)

/-- The present instant with its stamp (R61). -/
def State.now (s : State) : Stamped := ⟨s.elapsed, s.time.t⟩

/-- Whole backoff slots of 16 byte-times, 25/3 ms each, in elapsed ms, rounded down (R1; log 2). -/
def slotTime (n : Nat) : Nat := n * 25 / 3

/-- The time that a bulletin of n bytes takes on the line, n byte-times of 25/48 ms each, in elapsed ms, rounded down
(R1; log 2). -/
def bulletinTime (n : Nat) : Nat := n * 25 / 48

/-- The idle gap of 4 byte-times, 25/12 ms, in elapsed ms, rounded down (R1; log 14). -/
def idleGap : Nat := 2

/-- Whether the part is in RUN. -/
def State.inRun (s : State) : Bool := s.port.run == .run

/-! ### Notices to different blocks, in an order that is not given -/

/-- Two notices to different blocks: either may be taken first (1.3.6), as a fresh free value says (log 5). Where both
orders end alike the choice cannot show, and the result is written without it. -/
def inEitherOrder (f g : State → State) (s : State) : State :=
  let s1 := { s with free.orders := s.free.orders + 1 }
  let a := g (f s1)
  let b := f (g s1)
  if a = b then a else if Config.firstTaken s.free.orders then a else b

/-! ### Named reads -/

/-- The configuration in force (R190). -/
def State.cfg (s : State) : Items := s.port.committed

/-- Whether a digital input is recognised as asserted (R70). -/
def State.asserted (s : State) (i : DigitalIn) : Bool := (s.input.digital.get i).recognised == some true

def State.sewer (s : State) : GaugeChannel := s.input.gauges.sewer
def State.tankGauge (s : State) : GaugeChannel := s.input.gauges.tank
def State.overflow (s : State) : GaugeChannel := s.input.gauges.overflow

/-- The own address in force; 0.0 before the first COMMIT, when nothing uses it. -/
def State.ownAddress (s : State) : Addr := s.cfg.stationAddress.getD 0

/-- The station number of an address, its lower byte (1.3.4). -/
def stationOf (a : Addr) : Nat := a.toNat % 256

/-- The branch number of an address, its upper byte (1.3.4). -/
def branchOf (a : Addr) : Nat := a.toNat / 256

/-- A value held at an upper bound once it would pass it. -/
def saturate (bound n : Nat) : Nat := min bound n

/-- A value held within two bounds. -/
def clampNat (lo hi n : Nat) : Nat := max lo (min hi n)

/-- Modulo 2^32 (R178). -/
def wrap32 (n : Nat) : Nat := n % 2 ^ 32

/-! ### Piecewise tables (R82, R114) -/

/-- Whether x-values strictly increase and y-values do not decrease (R81, R107, R189 b, c). -/
def monotonic : List Point → Bool
  | p :: q :: rest => decide (p.x < q.x ∧ p.y ≤ q.y) && monotonic (q :: rest)
  | _ => true

/-- The last y of a table: the volume of a full tank, or the flow at the last head. -/
def lastY (ps : List Point) : Nat := (ps.getLast?.map Point.y).getD 0

/-- The last x of a table. -/
def lastX (ps : List Point) : Nat := (ps.getLast?.map Point.x).getD 0

/-- R82 a to c, R114 c and d: the y of x, clamped to the first and the last point, and between two points the y of the
lower one plus the floor of the proportional part. -/
def interpolate : List Point → Nat → Nat
  | [], _ => 0
  | [p], _ => p.y
  | p :: q :: rest, x =>
    if x < p.x then p.y
    else if x < q.x then p.y + (x - p.x) * (q.y - p.y) / (q.x - p.x)
    else interpolate (q :: rest) x

/-! ### The bytes of the spill log (R175) -/

/-- What a byte of the log reads as that no cell lists: a full reset writes zeros to all slots (R175). -/
def Memory.unlisted : Byte := 0

/-- The canonical form: addresses strictly rising, and no cell equal to what an unlisted address reads as. -/
def Memory.wf : List Host.Cell → Bool
  | [] => true
  | [c] => c.2 != Memory.unlisted
  | c :: d :: rest => c.2 != Memory.unlisted && decide (c.1 < d.1) && Memory.wf (d :: rest)

/-- The byte at an address. -/
def Memory.read : List Host.Cell → Nat → Byte
  | [], _ => Memory.unlisted
  | c :: rest, a => if c.1 = a then c.2 else Memory.read rest a

/-- A byte written at an address; writing what an unlisted address reads as removes the cell. -/
def Memory.write : List Host.Cell → Nat → Byte → List Host.Cell
  | [], a, b => if b = Memory.unlisted then [] else [(a, b)]
  | c :: rest, a, b =>
    if a < c.1 then (if b = Memory.unlisted then c :: rest else (a, b) :: c :: rest)
    else if a = c.1 then (if b = Memory.unlisted then rest else (a, b) :: rest)
    else c :: Memory.write rest a b

/-- Bytes written from an address on. -/
def Memory.writeAll : List Host.Cell → Nat → List Byte → List Host.Cell
  | m, _, [] => m
  | m, a, b :: bs => Memory.writeAll (Memory.write m a b) (a + 1) bs

/-- n bytes read from an address on. -/
def Memory.readAll (m : List Host.Cell) (a n : Nat) : List Byte :=
  (List.range n).map fun i => Memory.read m (a + i)

end Sys2Proof.Machine
end

