-- ==== Sys2Proof/Machine/SpillLog.lean ====
section
/-! DEFINITION. The spill log: the layout of a record in slots (R174), placing a record (R176) and releasing one
(R177). -/

namespace Sys2Proof.Machine

/-! ### The slots of a record (10.3.1) -/

/-- How many slots a record of n block entries takes (R174). -/
def slotsNeeded (n : Nat) : Nat := 1 + (n + 2) / 3

/-- A flag's bit in the flags word. -/
def flagBit (b : Bool) (i : Nat) : Nat := if b then 2 ^ i else 0

/-- The flags word (10.3.1). -/
def RecordFlags.word (f : RecordFlags) : Nat :=
  flagBit f.timeUnset 0 + flagBit f.timeSet 1 + flagBit f.sensorHeld 2 + flagBit f.switchOnly 3 +
  flagBit f.headBeyondTable 4 + flagBit f.gateFault 5 + flagBit f.interrupted 6 + flagBit f.split 7 +
  flagBit f.continued 8

/-- The 24-bit number of a block entry. -/
def BlockEntry.number (e : BlockEntry) : Nat := e.index * 262144 + e.seconds

/-- The ten bytes of a block entry. -/
def BlockEntry.bytes (e : BlockEntry) : List Byte :=
  bytesOf 3 e.number ++ bytesOf 5 (e.start / 1000) ++ bytesOf 2 e.peak

/-- The largest number of three bytes, which a larger volume or rain is written as. -/
def maxU24 : Nat := 2 ^ 24 - 1

/-- The HEAD slot of a record. -/
def headSlot (r : SpillRecord) : List Byte :=
  [1, BitVec.ofNat 8 (slotsNeeded r.entries.length)] ++ bytesOf 4 r.number ++ bytesOf 6 r.start ++ bytesOf 6 r.finish ++
  [BitVec.ofNat 8 r.entries.length, BitVec.ofNat 8 r.peak.code] ++ bytesOf 2 r.flags.word ++ bytesOf 4 r.seconds ++
  bytesOf 3 (min r.volume maxU24) ++ bytesOf 3 (min r.rain maxU24)

/-- A MORE (role 2) or LAST (role 3) slot of up to three entries. -/
def continuationSlot (role : Byte) (es : List BlockEntry) : List Byte :=
  [role, BitVec.ofNat 8 es.length] ++ es.flatMap BlockEntry.bytes ++ List.replicate ((3 - es.length) * 10) 0

/-- The slots after the HEAD: MORE slots of three entries, then one LAST. -/
def continuationSlots : List BlockEntry → List (List Byte)
  | a :: b :: c :: d :: rest => continuationSlot 2 [a, b, c] :: continuationSlots (d :: rest)
  | [] => []
  | es => [continuationSlot 3 es]

/-- All slots of a record, in order. -/
def SpillRecord.slots (r : SpillRecord) : List (List Byte) := headSlot r :: continuationSlots r.entries

/-! ### The ring of 48 slots (R175) -/

/-- The number of free slots. -/
def SpillLog.free (l : SpillLog) : Nat := l.owners.count .log

/-- The owner of a slot. -/
def SpillLog.ownerOf (l : SpillLog) (k : Nat) : LogOwner := l.owners.getD k .log

/-- The 32 bytes of a slot. -/
def SpillLog.slotBytes (l : SpillLog) (k : Nat) : List Byte := Memory.readAll l.content (32 * k) 32

/-- A slot written and given to the host. -/
def SpillLog.putSlot (l : SpillLog) (k : Nat) (bs : List Byte) : SpillLog :=
  { l with owners := l.owners.set k .host, content := Memory.writeAll l.content (32 * k) bs }

/-- Slots written in order from slot k, wrapping from 47 to 0. -/
def SpillLog.putSlots : SpillLog → Nat → List (List Byte) → SpillLog
  | l, _, [] => l
  | l, k, b :: bs => SpillLog.putSlots (l.putSlot k b) ((k + 1) % 48) bs

/-- R176 a: a record written whole at the write position, which moves past it. -/
def SpillLog.writeRecord (l : SpillLog) (r : SpillRecord) : SpillLog :=
  { l.putSlots l.writePos r.slots with writePos := (l.writePos + slotsNeeded r.entries.length) % 48 }

/-- n slots from slot k returned to LOG, their content kept. -/
def SpillLog.freeSlots : SpillLog → Nat → Nat → SpillLog
  | l, _, 0 => l
  | l, k, n + 1 => SpillLog.freeSlots { l with owners := l.owners.set k .log } ((k + 1) % 48) n

/-- The event number, the slot count and the counted blocks of the oldest logged record, from its HEAD. -/
def SpillLog.oldestNumber (l : SpillLog) : Nat := natOf (Memory.readAll l.content (32 * l.readPos + 2) 4)
def SpillLog.oldestSlots (l : SpillLog) : Nat := (Memory.read l.content (32 * l.readPos + 1)).toNat
def SpillLog.oldestBlocks (l : SpillLog) : Nat := (Memory.read l.content (32 * l.readPos + 18)).toNat

/-! ### Placing and releasing -/

/-- Whether a record fits in the free slots. -/
def SpillLog.fits (l : SpillLog) (r : SpillRecord) : Bool := decide (slotsNeeded r.entries.length ≤ l.free)

/-- R176. -/
def placeRecord (r : SpillRecord) (s : State) : State :=
  let c := s.counter
  if c.pendingRecords.isEmpty && c.log.fits r then
    raise .recordReady { s with counter.log := c.log.writeRecord r }
  else if c.pendingRecords.length < 2 then
    raise .logFull { s with counter.pendingRecords := c.pendingRecords ++ [r] }
  else
    raise .recordDropped { s with
      counter.totals.droppedBlocks := wrap32 (c.totals.droppedBlocks + r.entries.length)
      counter.totals.droppedRecords := wrap32 (c.totals.droppedRecords + 1) }

/-- R177, after a release: the pending records placed in close order while the oldest of them fits. -/
def placePending : List SpillRecord → State → State
  | [], s => s
  | r :: rest, s =>
    if s.counter.log.fits r then
      placePending rest (raise .recordReady
        { s with counter.log := s.counter.log.writeRecord r, counter.pendingRecords := rest })
    else s

/-- R177 c: the oldest logged record released. -/
def releaseOldest (s : State) : State :=
  let c := s.counter
  let n := c.log.oldestSlots
  let s1 := { s with
    counter.log := { c.log.freeSlots c.log.readPos n with readPos := (c.log.readPos + n) % 48 }
    counter.totals.released := wrap32 (c.totals.released + c.log.oldestBlocks) }
  placePending s1.counter.pendingRecords s1

end Sys2Proof.Machine
end

