-- ==== Sys2Proof/Machine/SpillCounter.lean ====
section
/-! DEFINITION. The Spill Counter: events, counting blocks and records (10.1 to 10.3). -/

namespace Sys2Proof.Machine

/-- Whether a spill state is SPILLING or SUBSIDING. -/
def SpillState.inSpill : SpillState → Bool
  | .spilling => true
  | .subsiding => true
  | _ => false

/-- No record flag. -/
def noFlags : RecordFlags := ⟨false, false, false, false, false, false, false, false, false⟩

/-- The provisional summary cleared. -/
def noSummary : Summary := ⟨0, 0, false⟩

/-- The open event changed, if one is open. -/
def onEvent (f : SpillEvent → SpillEvent) (s : State) : State :=
  { s with counter.event := s.counter.event.map f }

/-- The current block changed, if there is one. -/
def onCurrent (f : Block → Block) (s : State) : State :=
  { s with counter.current := s.counter.current.map f }

/-- R174: the record of an event that closes, with the stamp of its end and its flags. -/
def composeRecord (ev : SpillEvent) (finish : Nat) (flags : RecordFlags) (rainTotal : Nat) : SpillRecord where
  number := ev.number
  start := ev.start.stamp
  finish := finish
  seconds := (ev.entries.map BlockEntry.seconds).sum
  volume := ev.litres / 1000
  rain := rainTotal - ev.rainAtOpen
  peak := ev.peakAlert
  flags := flags
  entries := ev.entries

/-- The stamp of the end of the event's last confirmed interval (log 31). -/
def SpillEvent.intervalEnd (ev : SpillEvent) : Nat := (ev.lastEnd.getD ev.start).stamp

/-- R169, R170, R182: the open event closed, its record composed and placed. -/
def closeEvent (finish : Nat) (mark : RecordFlags → RecordFlags) (s : State) : State :=
  match s.counter.event with
  | none => s
  | some ev =>
    placeRecord (composeRecord ev finish (mark ev.flags) s.rain.total)
      { s with counter := { s.counter with event := none, current := none, deferred := none, spillSince := none } }

/-- R166: the entry of a counted block. -/
def Block.entry (b : Block) : BlockEntry := ⟨b.index, b.start.stamp, b.credited / 1000, b.peak⟩

/-- R166: a block counted. -/
def countBlock (b : Block) (s : State) : State :=
  onEvent (fun ev => { ev with entries := ev.entries ++ [b.entry] })
    { s with
      counter.totals.counted := wrap32 (s.counter.totals.counted + 1)
      counter.totals.seconds := wrap32 (s.counter.totals.seconds + b.entry.seconds) }

/-- Whether the open event holds 60 entries (R170). -/
def eventFull (s : State) : Bool :=
  match s.counter.event with
  | none => false
  | some ev => decide (60 ≤ ev.entries.length)

/-- R166: the block that follows a block at its nominal end. -/
def nextBlock (b : Block) (s : State) : Block where
  index := b.index + 1
  start := ⟨b.nominalEnd, s.time.t⟩
  nominalEnd := b.nominalEnd + hours s.cfg.blockNext
  containsSpill := s.counter.spill.inSpill
  credited := 0
  peak := 0

/-- The flags that an event takes at its opening from the clock and the gate (R164 c). -/
def openingFlags (s : State) : RecordFlags :=
  { noFlags with timeUnset := s.time.clock == .unset, gateFault := s.tank.gate == some .fault }

/-- R164, R170: an event opened with block 1. -/
def openEvent (start : Stamped) (flags : RecordFlags) (litres peak : Nat) (levelSeen : Bool) (s : State) : State :=
  let number := wrap32 (s.counter.eventNumber + 1)
  { s with counter := { s.counter with
      eventNumber := number
      event := some
        { number := number, start := start, flags := flags, rainAtOpen := s.rain.total, peakAlert := s.rain.branch,
          litres := litres, entries := [], lastEnd := none, lastCredit := none }
      current := some ⟨1, start, start.instant + hours s.cfg.blockFirst, true, 0, peak⟩
      deferred := none
      spillSince := some start.instant
      levelSeen := levelSeen
      totals := { s.counter.totals with opened := wrap32 (s.counter.totals.opened + 1) } } }

/-- R172: SWITCH_ONLY decided for the interval that ends or is cut off. -/
def decideSwitchOnly (s : State) : State :=
  onEvent (fun ev => { ev with flags.switchOnly := ev.flags.switchOnly || !s.counter.levelSeen }) s

/-- The end of an event closed by R170 or by a restart, from the spill state as the Counter holds it. -/
def closingEnd (s : State) (ev : SpillEvent) : Nat :=
  match s.counter.spill with
  | .spilling => s.time.t
  | .subsiding => (s.spill.subsiding.map Stamped.stamp).getD s.time.t
  | _ => ev.intervalEnd

/-- The flags of a continued event (R170 b, R164 c and h). -/
def continuedFlags (s : State) : RecordFlags :=
  { openingFlags s with
    sensorHeld := s.spill.marks.held, headBeyondTable := s.spill.marks.beyond, continued := true }

/-- R170: the event closed with SPLIT at its 60th entry; a continued event opens while the spill goes on, with its
block 1 from `start` and the peak head `peak`. -/
def splitEvent (start : Stamped) (peak : Nat) (s : State) : State :=
  match s.counter.event with
  | none => s
  | some ev =>
    let going := s.counter.spill.inSpill
    let s1 := if going then decideSwitchOnly s else s
    let s2 := closeEvent (closingEnd s ev) (fun f => { f with split := true }) s1
    if going then openEvent start (continuedFlags s2) 0 peak false s2 else s2

/-- R166: the current block counted at its nominal end, and the next one begun. -/
def countCurrent (b : Block) (s : State) : State :=
  let s1 := countBlock b s
  if eventFull s1 then splitEvent s.now 0 s1
  else { s1 with counter.current := some (nextBlock b s) }

/-- R166: the nominal end of the current block. -/
def blockEnd (b : Block) (s : State) : State :=
  match s.counter.spill with
  | .clear =>
    if b.containsSpill then countCurrent b s
    else match s.counter.event with
      | none => s
      | some ev => closeEvent ev.intervalEnd id s
  | .onset => { s with counter.deferred := some b, counter.current := some (nextBlock b s) }
  | _ =>
    let since := s.counter.spillSince.getD b.nominalEnd
    countCurrent { b with credited := b.credited + (b.nominalEnd - since) }
      { s with counter.spillSince := some b.nominalEnd }

/-- The litres of the open event raised (R167, R168, R171 b). -/
def addLitres (n : Nat) (s : State) : State :=
  onEvent (fun ev => { ev with litres := saturate maxU32 (ev.litres + n) }) s

/-- R164 g and h, within an open event: the spell marks of a confirmation. -/
def takeMarks (s : State) : State :=
  let m := s.spill.marks
  onEvent (fun ev => { ev with
      flags.sensorHeld := ev.flags.sensorHeld || m.held
      flags.headBeyondTable := ev.flags.headBeyondTable || m.beyond })
    { s with counter.levelSeen := m.level }

/-- The provisional summary cleared (R164, R168, R171). -/
def clearSummary (s : State) : State := { s with counter.summary := noSummary }

/-- The onset instant as the Counter reads it from the Spill Monitor. -/
def onsetOf (s : State) : Stamped := s.spill.onset.getD s.now

/-- The later of an instant and the event's last credit, where it has one (R167, R168). -/
def afterLastCredit (instant : Nat) (s : State) : Nat :=
  match s.counter.event.bind SpillEvent.lastCredit with
  | none => instant
  | some c => max instant c

/-- R164. -/
def openAtConfirmation (s : State) : State :=
  let m := s.spill.marks
  let flags := { openingFlags s with
    timeSet := s.counter.summary.stepped, sensorHeld := m.held, headBeyondTable := m.beyond }
  clearSummary (openEvent (onsetOf s) flags s.spill.provisional s.counter.summary.before m.level s)

/-- R167 a: a confirmation while the block d is deferred and c is the current block. -/
def confirmDeferred (d c : Block) (s : State) : State :=
  let sum := s.counter.summary
  let since := afterLastCredit (max (onsetOf s).instant d.start.instant) s
  let counted := { d with credited := d.credited + (d.nominalEnd - since), peak := max d.peak sum.before }
  let current := { c with containsSpill := true, peak := max c.peak sum.after }
  let s1 := addLitres s.spill.provisional (takeMarks { s with
    counter.deferred := none, counter.current := some current, counter.spillSince := some c.start.instant })
  let s2 := countBlock counted s1
  clearSummary (if eventFull s2 then splitEvent current.start current.peak s2 else s2)

/-- R168: a confirmation within an open event with no block deferred. -/
def confirmInEvent (c : Block) (s : State) : State :=
  let since := afterLastCredit (max (onsetOf s).instant c.start.instant) s
  let current := { c with
    credited := c.credited + (s.elapsed - since), containsSpill := true, peak := max c.peak s.counter.summary.before }
  clearSummary (addLitres s.spill.provisional (takeMarks { s with
    counter.current := some current, counter.spillSince := some s.elapsed }))

/-- The spill state has become SPILLING from ONSET (R164, R167 a, R168). -/
def counterConfirms (s : State) : State :=
  match s.counter.event, s.counter.deferred, s.counter.current with
  | none, _, _ => openAtConfirmation s
  | some _, some d, some c => confirmDeferred d c s
  | some _, none, some c => confirmInEvent c s
  | some _, _, none => clearSummary s

/-- The spill state has become CLEAR from ONSET (R167 b, R171). -/
def counterLapses (s : State) : State :=
  let s1 := clearSummary s
  match s1.counter.event, s1.counter.deferred with
  | some ev, some d =>
    if d.containsSpill then
      let s2 := countBlock d { s1 with counter.deferred := none }
      if eventFull s2 then splitEvent s.now 0 s2 else s2
    else closeEvent ev.intervalEnd id s1
  | _, _ => s1

/-- R165 a: the spill state has become CLEAR from SUBSIDING. -/
def counterEndsInterval (s : State) : State :=
  let since := s.counter.spillSince.getD s.elapsed
  let s1 := onCurrent (fun b => { b with credited := b.credited + (s.elapsed - since) }) s
  onEvent (fun ev => { ev with
      lastEnd := some (s.spill.subsiding.getD s.now), lastCredit := some s.elapsed })
    (decideSwitchOnly { s1 with counter.spillSince := none })

/-- The notice of a change of the spill state (R114a), taken from the state that the Counter holds. -/
def counterTakesSpillState (s : State) : State :=
  let s1 := { s with counter.spill := s.spill.state }
  match s.counter.spill, s.spill.state with
  | .onset, .spilling => counterConfirms s1
  | .onset, .clear => counterLapses s1
  | .subsiding, .clear => counterEndsInterval s1
  | .spilling, .subsiding => onCurrent (fun b => { b with containsSpill := true }) s1
  | .subsiding, .spilling => onCurrent (fun b => { b with containsSpill := true }) s1
  | _, _ => s1

/-- The values of a spill sample notice (R117). -/
structure SampleNotice where
  head        : Option Int
  held        : Bool
  beyond      : Bool
  level       : Bool
  litres      : Nat
  provisional : Bool
  deriving DecidableEq, Repr

/-- The head of a notice as a peak head, never below 0 (R171). -/
def SampleNotice.peak (n : SampleNotice) : Nat := (n.head.getD 0).toNat

/-- R171. A provisional notice counts only in a spell that the Counter holds in ONSET (log 26). -/
def counterTakesSample (n : SampleNotice) (s : State) : State :=
  if n.provisional then
    if s.counter.spill = .onset then
      if s.counter.deferred.isSome then { s with counter.summary.after := max s.counter.summary.after n.peak }
      else { s with counter.summary.before := max s.counter.summary.before n.peak }
    else s
  else if s.counter.event.isSome then
    let s1 := onCurrent (fun b => { b with peak := max b.peak n.peak })
      { s with counter.levelSeen := s.counter.levelSeen || n.level }
    onEvent (fun ev => { ev with
        litres := saturate maxU32 (ev.litres + n.litres)
        flags.sensorHeld := ev.flags.sensorHeld || n.held
        flags.headBeyondTable := ev.flags.headBeyondTable || n.beyond }) s1
  else s

/-- R173 a, R171: a step notice from the Time Unit. -/
def counterTakesStep (s : State) : State :=
  if s.counter.event.isSome then onEvent (fun ev => { ev with flags.timeSet := true }) s
  else if s.counter.spill = .onset then { s with counter.summary.stepped := true }
  else s

/-- R173 b: a notice of the gate's entry to FAULT. -/
def counterTakesGateFault (s : State) : State :=
  onEvent (fun ev => { ev with flags.gateFault := true }) s

/-- R173 c: a notice of a change of the branch alert. -/
def counterTakesAlert (s : State) : State :=
  onEvent (fun ev => { ev with peakAlert := ev.peakAlert.higher s.rain.branch }) s

/-- R182 a: spill time credited to the current block up to the restart. -/
def creditAtRestart (s : State) : State :=
  if s.counter.spill.inSpill then
    let since := s.counter.spillSince.getD s.elapsed
    decideSwitchOnly (onCurrent (fun b => { b with credited := b.credited + (s.elapsed - since) }) s)
  else s

/-- R182 c: a block counted at a restart if it contains spill and the event holds fewer than 60 entries. -/
def countAtRestart (b : Option Block) (s : State) : State :=
  match b with
  | none => s
  | some d => if d.containsSpill && !eventFull s then countBlock d s else s

/-- R182: an open event closed with INTERRUPTED. -/
def closeAtRestart (s : State) : State :=
  match s.counter.event with
  | none => s
  | some ev =>
    let a := creditAtRestart s
    let b := countAtRestart a.counter.current (countAtRestart a.counter.deferred a)
    closeEvent (closingEnd s ev) (fun f => { f with interrupted := true }) b

/-- R182, at its end: no event, no block and no provisional summary. -/
def restCounter (s : State) : State :=
  { s with counter := { s.counter with
      spill := .clear, event := none, current := none, deferred := none, spillSince := none, summary := noSummary } }

/-- R182. No block is held without an event, so with no event open the summary alone is cleared. -/
def counterRestarts (s : State) : State := restCounter (closeAtRestart s)

/-- BLOCK_NOMINAL_END: the nominal end of the current block (R166). -/
def blockNominalEnd (s : State) : State :=
  match s.counter.current with
  | none => s
  | some b => if b.nominalEnd ≤ s.elapsed then blockEnd b s else s

end Sys2Proof.Machine
end

