-- ==== Sys2Proof/Machine/Bulletin.lean ====
section
/-! DEFINITION. The bulletin: its layout (2.2), its check word (R3), composing it (R2), checking it (R16), reading its
fields, and clamping its body on receipt (R27, R28). -/

namespace Sys2Proof.Machine

/-! ### The check word (R3) -/

/-- One data bit taken into the remainder. -/
def crcBit (r : BitVec 16) (bit : Bool) : BitVec 16 :=
  if r.msb != bit then (r <<< 1) ^^^ 0x1021#16 else r <<< 1

/-- One byte taken into the remainder, its most significant bit first. -/
def crcByte (r : BitVec 16) (b : Byte) : BitVec 16 :=
  [7, 6, 5, 4, 3, 2, 1, 0].foldl (fun r i => crcBit r (b.getLsbD i)) r

/-- The check word of bytes taken in order. -/
def checkWord (bs : List Byte) : BitVec 16 := bs.foldl crcByte 0xFFFF#16

/-! ### Kinds -/

def Kind.number : Kind → Nat
  | .claim => 1
  | .rain => 2
  | .limit => 3
  | .presence => 4

/-- The kind of a number (R16 b). -/
def Kind.fromNat : Nat → Option Kind
  | 1 => some .claim
  | 2 => some .rain
  | 3 => some .limit
  | 4 => some .presence
  | _ => none

/-- The total length of a kind's bulletin. -/
def Kind.length : Kind → Nat
  | .claim => 23
  | .rain => 21
  | .limit => 18
  | .presence => 14

/-- The kind of a body. -/
def Body.kind : Body → Kind
  | .claim _ => .claim
  | .rain _ => .rain
  | .limit _ => .limit
  | .presence => .presence

/-! ### Composing (R2) -/

/-- The body's bytes, its fields in order. -/
def Body.bytes : Body → List Byte
  | .claim c => bytesOf 2 c.requested ++ bytesOf 2 c.drawn ++ bytesOf 2 c.fill ++ bytesOf 1 c.weight ++
      bytesOf 1 c.urgency ++ bytesOf 1 c.period
  | .rain r => bytesOf 1 r.level ++ bytesOf 2 r.short ++ bytesOf 2 r.long ++ bytesOf 2 r.age
  | .limit l => bytesOf 2 l.capacity ++ bytesOf 2 l.validity
  | .presence => []

/-- Byte 3: the kind, the clock state and the QUIET flag; bit 0 is 0. -/
def statusByte (k : Kind) (clock : ClockState) (quiet : Bool) : Byte :=
  BitVec.ofNat 8 (k.number * 16 + clock.code * 4 + if quiet then 2 else 0)

/-- The bytes that the check word covers: from byte 2 to the last byte of the body. -/
def coveredBytes (body : Body) (address : Addr) (clock : ClockState) (quiet : Bool) (time : Nat) : List Byte :=
  BitVec.ofNat 8 body.kind.length :: statusByte body.kind clock quiet :: bytesOf 2 address.toNat ++ bytesOf 6 time ++
    body.bytes

/-- R2: a bulletin. -/
def composeBulletin (body : Body) (address : Addr) (clock : ClockState) (quiet : Bool) (time : Nat) : List Byte :=
  let covered := coveredBytes body address clock quiet time
  0x7E#8 :: 0xA5#8 :: covered ++ bytesOf 2 (checkWord covered).toNat

/-! ### Checking (R16) -/

/-- The kind that byte 3 gives. -/
def kindOf (bs : List Byte) : Option Kind := Kind.fromNat (byteAt bs 3 / 16)

/-- R16 a to c: the checks made once byte 3 has arrived. -/
def headerGood (bs : List Byte) : Bool :=
  match kindOf bs with
  | none => false
  | some k => byteAt bs 0 == 0x7E && byteAt bs 1 == 0xA5 && byteAt bs 2 == k.length

/-- R16 d. -/
def stationGood (bs : List Byte) : Bool := byteAt bs 5 != 0 && byteAt bs 5 != 255

/-- R16 e: the remainder over the covered bytes equals the two check bytes received. -/
def checkGood (bs : List Byte) : Bool :=
  (checkWord ((bs.drop 2).take (bs.length - 4))).toNat == natOf (bs.drop (bs.length - 2))

/-- R16: every check of a bulletin gathered. -/
def bulletinGood (bs : List Byte) : Bool :=
  headerGood bs && bs.length == byteAt bs 2 && stationGood bs && checkGood bs

/-! ### The fields of a good bulletin -/

/-- A bulletin as the Peer Table is handed it (R17). -/
structure Received where
  sender : Addr
  clock  : ClockState
  quiet  : Bool
  time   : Nat
  body   : Body
  deriving DecidableEq, Repr

/-- The number of k bytes from byte i on. -/
def fieldAt (bs : List Byte) (i k : Nat) : Nat := natOf ((bs.drop i).take k)

def senderOf (bs : List Byte) : Addr := BitVec.ofNat 16 (fieldAt bs 4 2)

def clockOf (bs : List Byte) : ClockState :=
  match byteAt bs 3 / 4 % 4 with
  | 0 => .unset
  | 1 => .following
  | 2 => .settled
  | _ => .anchored

/-- The body of a kind, its fields as received. -/
def bodyOf (k : Kind) (bs : List Byte) : Body :=
  match k with
  | .claim => .claim
      ⟨fieldAt bs 12 2, fieldAt bs 14 2, fieldAt bs 16 2, byteAt bs 18, byteAt bs 19, byteAt bs 20⟩
  | .rain => .rain ⟨byteAt bs 12, fieldAt bs 13 2, fieldAt bs 15 2, fieldAt bs 17 2⟩
  | .limit => .limit ⟨fieldAt bs 12 2, fieldAt bs 14 2⟩
  | .presence => .presence

/-- The fields of a good bulletin; the kind of byte 3 is one of the four. -/
def parseBulletin (bs : List Byte) : Received where
  sender := senderOf bs
  clock := clockOf bs
  quiet := (bs.getD 3 0).getLsbD 1
  time := fieldAt bs 6 6
  body := bodyOf ((kindOf bs).getD .presence) bs

/-! ### Clamping on receipt -/

/-- R27. -/
def clampClaim (c : ClaimBody) : ClaimBody where
  requested := min 20000 c.requested
  drawn := min 20000 c.drawn
  fill := min 1000 c.fill
  weight := clampNat 1 15 c.weight
  urgency := min 1 c.urgency
  period := clampNat 5 60 c.period

/-- R28 a, b. -/
def clampRain (r : RainBody) : RainBody := { r with level := min 3 r.level }

/-- R28 c, d; also the clamping of SEND_LIMIT (R193). -/
def clampLimit (l : LimitBody) : LimitBody := ⟨min 20000 l.capacity, clampNat 10 3600 l.validity⟩

/-- R27, R28. -/
def clampBody : Body → Body
  | .claim c => .claim (clampClaim c)
  | .rain r => .rain (clampRain r)
  | .limit l => .limit (clampLimit l)
  | .presence => .presence

end Sys2Proof.Machine
end

