-- ==== Sys2Proof/Machine/TrunkSlots.lean ====
section
/-! DEFINITION. The transmit slots (R4), the slots that a standing allows (R5), and the transmitter's entry to
WAIT_LINE and DEFER (R7). -/

namespace Sys2Proof.Machine

def Slots.get (s : Slots) : Kind → Slot
  | .claim => s.claim
  | .rain => s.rain
  | .limit => s.limit
  | .presence => s.presence

def Slots.set (s : Slots) (k : Kind) (v : Slot) : Slots :=
  match k with
  | .claim => { s with claim := v }
  | .rain => { s with rain := v }
  | .limit => { s with limit := v }
  | .presence => { s with presence := v }

/-- R4 a to c: a body queued into a slot. -/
def Slot.queue (b : Body) : Slot → Slot
  | .empty => .waiting b 0
  | .waiting _ n => .waiting b n
  | .sending cur n _ => .sending cur n (some b)

/-- R5: the slot taken becomes SENDING. -/
def Slot.take : Slot → Slot
  | .waiting b n => .sending b n none
  | v => v

/-- R4: a SENDING slot after a clean send. -/
def Slot.afterClean : Slot → Slot
  | .sending _ _ (some b) => .waiting b 0
  | .sending _ _ none => .empty
  | v => v

/-- R4: a SENDING slot after a failed attempt that is not the twelfth. -/
def Slot.afterFailure : Slot → Slot
  | .sending b n next => .waiting (next.getD b) (n + 1)
  | v => v

/-- The attempt count of a slot (R4). -/
def Slot.count : Slot → Nat
  | .empty => 0
  | .waiting _ n => n
  | .sending _ n _ => n

def Slot.isWaiting : Slot → Bool
  | .waiting _ _ => true
  | _ => false

/-- R5: whether a standing allows a kind to be taken. -/
def Standing.allows : Standing → Kind → Bool
  | .normal, _ => true
  | .warned, _ => true
  | .quiet, .rain => true
  | .quiet, .claim => true
  | _, _ => false

/-- R5: whether the slot of a kind is eligible. -/
def Trunk.eligible (t : Trunk) (k : Kind) : Bool := (t.slots.get k).isWaiting && t.standing.allows k

/-- R5: the eligible slot of the highest priority. -/
def Trunk.firstEligible (t : Trunk) : Option Kind :=
  if t.eligible .rain then some .rain
  else if t.eligible .limit then some .limit
  else if t.eligible .claim then some .claim
  else if t.eligible .presence then some .presence
  else none

/-- Whether standing stops all sending (R5). -/
def Standing.silent : Standing → Bool
  | .cutOff _ => true
  | .silenced => true
  | _ => false

/-- R7: a deferral drawn, with the line free. -/
def drawDeferral (s : State) : State :=
  let n := (Config.deferralDraw s.free.deferrals).toNat
  { s with
    trunk.tx := .defer, trunk.txUntil := some (s.elapsed + slotTime n), free.deferrals := s.free.deferrals + 1 }

/-- R7: the transmitter enters WAIT_LINE, and draws at once if the line is free. -/
def enterWaitLine (s : State) : State :=
  let s1 := { s with trunk.tx := .waitLine, trunk.txUntil := none }
  if s1.trunk.lineFree then drawDeferral s1 else s1

/-- R7: an IDLE transmitter leaves for WAIT_LINE when a slot is eligible. A transmitter in SEND stays there, also at a
REJOIN (R22; log 44). -/
def wakeTransmitter (s : State) : State :=
  if s.trunk.tx = .idle ∧ s.trunk.firstEligible.isSome then enterWaitLine s else s

/-- The transmitter becomes IDLE. -/
def idleTransmitter (s : State) : State := { s with trunk.tx := .idle, trunk.txUntil := none }

/-- R4: a source queues a body into the slot of its kind. -/
def queueBody (b : Body) (s : State) : State :=
  wakeTransmitter { s with trunk.slots := s.trunk.slots.set b.kind ((s.trunk.slots.get b.kind).queue b) }

/-- The presence interval started or restarted (R6). -/
def restartPresence (s : State) : State :=
  { s with trunk.presence := some (s.elapsed + seconds s.cfg.presenceInterval) }

end Sys2Proof.Machine
end

