-- ==== Sys2Proof/Machine/Drain.lean ====
section
/-! DEFINITION. The Drain Controller: the own claim (R139, R140), the claim timer (R141, R142), the share computation
(R143 to R149), the setpoint (R150) and the pump's commands (R151 to R156). The notices to the Tank Controller are sent
in Sys2Proof/Machine/Tank.lean. -/

namespace Sys2Proof.Machine

/-! ### The own claim -/

/-- The last nonzero setpoint, PUMP_MAX where there is none (R139 b). -/
def lastRate (s : State) : Nat := s.drain.lastNonzero.getD s.cfg.pumpMax

/-- R139 a. -/
def requestedRate (s : State) : Nat :=
  if (s.tank.state = .holding ∨ s.tank.state = .draining) ∧ s.drain.mode = .auto ∧ s.drain.pump ≠ some .fault ∧
      s.tankGauge.status ≠ .failed
  then s.cfg.pumpMax else 0

/-- R139 b. -/
def drawnRate (s : State) : Nat :=
  match s.drain.pump with
  | some .starting => s.drain.setpoint
  | some .running => s.drain.setpoint
  | some .stopping => lastRate s
  | some .fault => if s.asserted .pumpRunning then lastRate s else 0
  | _ => 0

/-- R139: the own claim formed from the state of the other blocks. -/
def claimNow (s : State) : OwnClaim where
  requested := requestedRate s
  drawn := drawnRate s
  fill := s.tank.fill
  spilling := s.spill.state.inSpill
  weight := s.cfg.priorityWeight

/-- R140: the body of a CLAIM, composed from the own claim as it stands. -/
def claimBody (s : State) : ClaimBody where
  requested := s.drain.claim.requested
  drawn := s.drain.claim.drawn
  fill := s.drain.claim.fill
  weight := s.drain.claim.weight
  urgency := if s.drain.claim.spilling then 1 else 0
  period := s.cfg.claimPeriod

/-- R140: a CLAIM queued. -/
def queueClaim (s : State) : State := queueBody (.claim (claimBody s)) s

/-- R139, R140 b and c: the own claim formed anew; a changed requested rate or urgency queues a CLAIM. -/
def formClaim (s : State) : State :=
  let c := claimNow s
  let s1 := { s with drain.claim := c }
  if c.requested ≠ s.drain.claim.requested ∨ c.spilling ≠ s.drain.claim.spilling then queueClaim s1 else s1

/-! ### The claim timer -/

/-- R141: the next claim instant after trunk time t, or none beyond 2^48 - 1. -/
def nextClaimInstant (s : State) (t : Nat) : Option Nat :=
  let p := s.cfg.claimPeriod * 1000
  let d := stationOf s.ownAddress * s.cfg.claimSpacing % p
  let base := t - t % p + d
  let next := if t < base then base else base + p
  if next ≤ maxTime then some next else none

/-- The claim timer's target set anew from T. -/
def placeClaimTimer (s : State) : State := { s with drain.claimTarget := nextClaimInstant s s.time.t }

/-- R141: whether T has reached or passed the target. -/
def claimTimerDue (s : State) : Bool :=
  match s.drain.claimTarget with
  | none => false
  | some x => decide (x ≤ s.time.t)

/-- R141: the expiry of the claim timer. -/
def claimTimerExpires (s : State) : State := placeClaimTimer (queueClaim s)

/-- R142: a step notice. -/
def claimTimerStep (s : State) : State :=
  if claimTimerDue s then claimTimerExpires s else placeClaimTimer s

/-! ### Capacity (R144 to R146) -/

/-- R144: the base capacity and its source. -/
def baseCapacity (s : State) : Nat × CapacitySource :=
  match s.peers.limit with
  | some r => if r.fresh then (r.capacity, .limitRecord) else (s.cfg.fallbackCapacity, .fallback)
  | none => (s.cfg.fallbackCapacity, .fallback)

/-- R144: the factor f of the alert capacity. -/
def alertFactor : AlertLevel → Nat
  | .clear => 16
  | .watch => 12
  | .warning => 6
  | .severe => 0

/-- The claim parts of the peer table, each with its address. -/
def claimParts (s : State) : List (Addr × ClaimPart) :=
  s.peers.entries.filterMap fun e => e.claim.map fun c => (e.address, c)

/-- R145: whether a claim part is set aside. -/
def ClaimPart.reserved (c : ClaimPart) : Bool := !c.fresh || c.requested == 0

/-- R145. -/
def reservations (s : State) : Nat :=
  (((claimParts s).filter fun p => p.2.reserved).map fun p => p.2.drawn).sum

/-- R146. -/
def marginOf (s : State) : Nat := if s.trunk.standing = .quiet then 2 * s.cfg.margin else s.cfg.margin

/-! ### Claimants and water-filling (R147, R148) -/

/-- R147: the weight P × U. -/
def claimWeight (priority fill : Nat) (spilling : Bool) : Nat :=
  let u := 1 + fill / 200
  priority * if spilling then 2 * u else u

/-- R147: the claimants. Their order, the own claim and then the peer table's, is the model's choice (log 55). -/
def claimantsOf (s : State) : List Claimant :=
  let c := s.drain.claim
  let own := if c.requested = 0 then []
    else [⟨s.ownAddress, claimWeight c.weight c.fill c.spilling, c.requested, none⟩]
  own ++ ((claimParts s).filter fun p => !p.2.reserved).map fun p =>
    ⟨p.1, claimWeight p.2.weight p.2.fill p.2.spilling, p.2.requested, none⟩

/-- Whether a claimant is a member of the open set S. -/
def Claimant.isOpen (c : Claimant) : Bool := c.assigned.isNone

/-- The sum W of the weights of the open set. -/
def openWeight (cs : List Claimant) : Nat := ((cs.filter Claimant.isOpen).map Claimant.weight).sum

/-- R148 a: the tentative amount. -/
def Claimant.tentative (k w : Nat) (c : Claimant) : Nat := k * c.weight / w

/-- R148 b: whether an open claimant asks for no more than its tentative amount. -/
def Claimant.satisfied (k w : Nat) (c : Claimant) : Bool := c.isOpen && decide (c.requested ≤ c.tentative k w)

/-- R148 b: the satisfied claimants assigned what they request. -/
def satisfyPass (k w : Nat) (cs : List Claimant) : List Claimant :=
  cs.map fun c => if c.satisfied k w then { c with assigned := some c.requested } else c

/-- What the satisfied claimants take together. -/
def satisfiedSum (k w : Nat) (cs : List Claimant) : Nat :=
  ((cs.filter (Claimant.satisfied k w)).map Claimant.requested).sum

/-- R148 c: each open claimant assigned its tentative amount. -/
def lastPass (k w : Nat) (cs : List Claimant) : List Claimant :=
  cs.map fun c => if c.isOpen then { c with assigned := some (c.tentative k w) } else c

/-- R148: the passes; one pass for each claimant and one more always suffice. -/
def waterFill : Nat → Nat → List Claimant → List Claimant
  | 0, _, cs => cs
  | n + 1, k, cs =>
    let w := openWeight cs
    if cs.any (Claimant.satisfied k w) then waterFill n (k - satisfiedSum k w cs) (satisfyPass k w cs)
    else lastPass k w cs

/-- R148: the capacity distributed among the claimants. -/
def distribute (keff : Nat) (cs : List Claimant) : List Claimant := waterFill (cs.length + 1) keff cs

/-! ### The computation (R143, R149) -/

/-- R144 to R149: a whole computation on the values held. -/
def computation (s : State) : Computation :=
  let k := baseCapacity s
  let ka := k.1 * alertFactor s.rain.branch / 16
  let rs := reservations s
  let m := marginOf s
  let keff := ka - rs - ka * m / 1000
  let cs := distribute keff (claimantsOf s)
  { k0 := k.1, source := k.2, ka := ka, rs := rs, m := m, keff := keff, claimants := cs
    own := if s.drain.claim.requested = 0 then 0 else (cs.head?.bind Claimant.assigned).getD 0 }

/-- R149: the own share that a computation gives. -/
def shareOf (s : State) (c : Computation) : Nat :=
  if s.trunk.standing.silent then min s.cfg.silentAllowance (min s.drain.claim.requested c.ka) else c.own

/-- R143, R149: the share computation run. -/
def runShare (s : State) : State :=
  let c := computation s
  let share := shareOf s c
  { s with drain := { s.drain with
      last := c, share := share
      shareStamp := if share = s.drain.share then s.drain.shareStamp else some s.time.t } }

/-! ### The setpoint and the pump -/

/-- R150, R75: the setpoint set and put on PUMP_RATE; one other than 0 becomes the last nonzero setpoint. -/
def setSetpoint (n : Nat) (s : State) : State :=
  { s with
    drain.setpoint := n
    drain.lastNonzero := if n = 0 then s.drain.lastNonzero else some n
    input.pumpRate := n * 1000 / s.cfg.pumpMax }

/-- R151: a start at the own share, made only from STOPPED and with a share of PUMP_MIN or more. -/
def pumpStart (s : State) : State :=
  if s.drain.pump = some .stopped ∧ s.cfg.pumpMin ≤ s.drain.share then
    let s1 := setSetpoint s.drain.share s
    { s1 with
      input.pumpRun := true, drain.pump := some .starting
      drain.pumpTimer := some (s.elapsed + seconds s.cfg.pumpStartTimeout) }
  else s

/-- R152 c, R153 a, R150 c: a stop command; outside STARTING and RUNNING it finds nothing to stop. -/
def commandStop (s : State) : State :=
  let s1 := setSetpoint 0 s
  if s.drain.pump = some .starting ∨ s.drain.pump = some .running then
    { s1 with
      input.pumpRun := false, drain.pump := some .stopping
      drain.pumpTimer := some (s.elapsed + seconds s.cfg.pumpStopTimeout) }
  else s1

/-- R150 b: the setpoint follows the own share while the tank is DRAINING and the pump is driven (log 24). -/
def followShare (s : State) : State :=
  if s.tank.state = .draining ∧ (s.drain.pump = some .starting ∨ s.drain.pump = some .running) then
    if s.drain.share < s.cfg.pumpMin then commandStop s
    else if s.drain.share < s.drain.setpoint then setSetpoint s.drain.share s
    else if s.drain.setpoint + s.cfg.setpointDeadband ≤ s.drain.share then setSetpoint s.drain.share s
    else s
  else s

/-- A run of the share computation and its effect on the setpoint; a changed setpoint or pump re-forms the own claim
(R139, R143; log 35). -/
def shareAndSetpoint (s : State) : State :=
  let s1 := runShare s
  let s2 := followShare s1
  if s2.drain.setpoint = s1.drain.setpoint ∧ s2.drain.pump = s1.drain.pump then s2 else formClaim s2

/-- R139, R143 a: the own claim re-formed and the share computation run. -/
def reformClaim (s : State) : State := shareAndSetpoint (formClaim s)

/-- R154 a, R157 a: the pump STOPPED and resting. -/
def pumpStops (s : State) : State :=
  { s with drain := { s.drain with
      pump := some .stopped, pumpTimer := none, restElapsed := false
      restTimer := some (s.elapsed + seconds s.cfg.pumpRest) } }

/-- R156 a to c. -/
def pumpFaults (s : State) : State :=
  let s1 := setSetpoint 0 s
  raise .pumpFault { s1 with
    input.pumpRun := false
    drain := { s1.drain with pump := some .fault, pumpTimer := none, restTimer := none, restElapsed := false } }

/-- Whether what R159 notifies of has changed: the own share, the pump state or the drain mode. -/
def drainChanged (s0 s1 : State) : Bool :=
  s0.drain.share != s1.drain.share || s0.drain.pump != s1.drain.pump || s0.drain.mode != s1.drain.mode

end Sys2Proof.Machine
end

