-- ==== Sys2Proof/Machine/Gate.lean ====
section
/-! DEFINITION. The inlet gate: demand and target (R87, R94), travels, arrivals, retries, reversals, drift and FAULT
(R95 to R100). The tank's evaluation of a change of gate state is in Sys2Proof/Machine/Tank.lean. -/

namespace Sys2Proof.Machine

/-- R87: the gate demand of the tank state. -/
def gateDemand (s : State) : Option GateDir :=
  match s.tank.state with
  | .off => none
  | .admitting => some (if s.tank.openDeferred then .toClose else .toOpen)
  | _ => some .toClose

/-- R94: the target derived from the gate mode and the demand; none while the tank is OFF. -/
def derivedTarget (s : State) : Option GateDir :=
  match s.tank.state, s.tank.mode with
  | .off, _ => none
  | _, .forceOpen => some .toOpen
  | _, .forceClosed => some .toClose
  | _, .auto => gateDemand s

/-- The limit input of a direction (R95). -/
def GateDir.limit : GateDir → DigitalIn
  | .toOpen => .gateOpenLimit
  | .toClose => .gateClosedLimit

/-- The state of a gate at rest at the limit of a direction. -/
def GateDir.atLimit : GateDir → GateState
  | .toOpen => .opened
  | .toClose => .closed

/-- The state of a gate that travels in a direction. -/
def GateDir.moving : GateDir → GateState
  | .toOpen => .opening
  | .toClose => .closing

/-- The drive of a direction (R74). -/
def GateDir.drive : GateDir → GateDrive
  | .toOpen => .driveOpen
  | .toClose => .driveClose

/-- The gate drive commanded (R74). -/
def commandGate (d : GateDrive) (s : State) : State := { s with input.gateDrive := d }

/-- R96: the gate at rest at the limit of a direction, the drive OFF, no timer, the retry count 0. -/
def gateArrives (d : GateDir) (s : State) : State :=
  commandGate .off { s with tank := { s.tank with
    gate := some d.atLimit, gateDir := none, gateTimer := none, retries := 0 } }

/-- R95: a travel begun in direction d with retry count c. -/
def beginTravel (d : GateDir) (c : Nat) (s : State) : State :=
  if s.asserted d.limit then gateArrives d s
  else commandGate d.drive { s with tank := { s.tank with
    gate := some d.moving, gateDir := some d, retries := c
    gateTimer := some (s.elapsed + seconds s.cfg.gateTravel) } }

/-- R98: a reversal toward direction d. -/
def reverseGate (d : GateDir) (s : State) : State :=
  commandGate .off { s with tank := { s.tank with
    gate := some .reversing, gateDir := some d, gateTimer := some (s.elapsed + seconds 2) } }

/-- R100: entry to FAULT, with its flag and its notice to the Spill Counter. -/
def gateFaults (s : State) : State :=
  counterTakesGateFault (raise .gateFault (commandGate .off { s with tank := { s.tank with
    gate := some .fault, gateDir := none, gateTimer := none, retries := 0 } }))

/-- R94: the gate acts on a target that has become d. -/
def gateActsOn (d : GateDir) (s : State) : State :=
  match s.tank.gate, d with
  | some .closed, .toOpen => beginTravel .toOpen 0 s
  | some .opened, .toClose => beginTravel .toClose 0 s
  | some .opening, .toClose => reverseGate .toClose s
  | some .closing, .toOpen => reverseGate .toOpen s
  | some .retryWait, _ => if s.tank.gateDir = some d then s else reverseGate d s
  | some .reversing, _ => { s with tank.gateDir := some d }
  | some .stopped, _ => beginTravel d 0 s
  | _, _ => s

/-- The gate acts on the target as it stands. -/
def gateActsOnTarget (s : State) : State :=
  match s.tank.target with
  | none => s
  | some d => gateActsOn d s

/-- R94: the target derived anew; a change of it moves the gate. -/
def retarget (s : State) : State :=
  let t := derivedTarget s
  if t = s.tank.target then s else gateActsOnTarget { s with tank.target := t }

/-- R88: the gate state that the two limits give. -/
def gateFromLimits (s : State) : GateState :=
  match s.asserted .gateOpenLimit, s.asserted .gateClosedLimit with
  | true, false => .opened
  | false, true => .closed
  | false, false => .stopped
  | true, true => .fault

/-- Whether both limits are recognised as asserted (R100 b). -/
def bothLimits (s : State) : Bool := s.asserted .gateOpenLimit && s.asserted .gateClosedLimit

/-- R96, R99, R100 b: a recognised edge of the limit of direction d. -/
def gateTakesEdge (d : GateDir) (rising : Bool) (s : State) : State :=
  if s.tank.gate = some .fault then s
  else if bothLimits s then gateFaults s
  else if rising then
    if s.tank.gate = some d.moving then gateArrives d s
    else if s.tank.gate = some .retryWait ∧ s.tank.gateDir = some d then gateArrives d s
    else s
  else if s.tank.gate = some d.atLimit then beginTravel d 0 s
  else s

/-- R97: the travel timer expires. -/
def travelExpires (s : State) : State :=
  if s.tank.retries < s.cfg.gateRetries then
    commandGate .off { s with
      tank.gate := some .retryWait, tank.gateTimer := some (s.elapsed + seconds 10) }
  else gateFaults s

/-- R97: the wait of RETRY_WAIT expires. -/
def retryWaitExpires (s : State) : State :=
  match s.tank.gateDir with
  | none => s
  | some d => beginTravel d (s.tank.retries + 1) s

/-- R98: the pause of REVERSING expires. -/
def pauseExpires (s : State) : State :=
  match s.tank.gateDir with
  | none => s
  | some d => beginTravel d 0 s

/-- R102 a: the gate derived from its limits at CLEAR_FAULT; then it acts on the target. -/
def gateClears (s : State) : State :=
  match gateFromLimits s with
  | .fault => gateFaults s
  | g => gateActsOnTarget { s with tank := { s.tank with gate := some g, gateDir := none, retries := 0 } }

end Sys2Proof.Machine
end

