-- ==== Sys2Proof/Machine/Tank.lean ====
section
/-! DEFINITION. The Tank Controller: volume (R82), the three conditions (R84 to R86), the tank state machine (R87 to
R93), and the notices between it and the Drain Controller (R83, R159). -/

namespace Sys2Proof.Machine

/-! ### Conditions -/

/-- Whether a channel's level may be used (GOOD or HELD). -/
def GaugeChannel.usable (g : GaugeChannel) : Bool := g.status != .failed

/-- R84: the admit condition A. -/
def admitCondition (s : State) : Bool :=
  (s.sewer.usable && decide (s.cfg.admitLevel ≤ s.sewer.level)) || decide (2 ≤ s.rain.branch.code)

/-- R85: the sewer-low condition. -/
def sewerLow (s : State) : Bool :=
  !admitCondition s && (!s.sewer.usable || decide (s.sewer.level + s.cfg.admitHyst ≤ s.cfg.admitLevel))

/-- R86: the drain permission. -/
def drainPermission (s : State) : Bool :=
  decide (s.tank.gate = some .closed ∧ s.sewer.usable ∧ s.sewer.level ≤ s.cfg.returnLevel ∧ s.tankGauge.usable ∧
    s.drain.pump = some .stopped ∧ s.drain.restElapsed ∧ s.drain.mode = .auto ∧ s.cfg.pumpMin ≤ s.drain.share)

/-- R92 c: whether draining must end in HOLDING. -/
def drainBarred (s : State) : Bool :=
  decide (s.drain.share < s.cfg.pumpMin ∨ ¬ s.sewer.usable ∨ s.cfg.returnLevel + s.cfg.returnHyst < s.sewer.level ∨
    ¬ s.tankGauge.usable ∨ s.tank.gate ≠ some .closed ∨ s.drain.mode = .hold ∨ s.drain.pump = some .fault)

/-- R90: whether an entry to ADMITTING defers the open command. -/
def pumpMayDraw (s : State) : Bool :=
  s.drain.pump == some .starting || s.drain.pump == some .running || s.drain.pump == some .stopping

/-! ### Transitions -/

/-- R89, R91, R92: the transition an evaluation makes, if any. `isSample` says that the evaluation is a sample event,
and `leftDraining` that the tank has left DRAINING in the same event (R92). -/
def tankDecides (isSample leftDraining : Bool) (s : State) : Option TankState :=
  match s.tank.state with
  | .off => none
  | .admitting => none
  | .dry =>
    if admitCondition s then some .admitting
    else if isSample && decide (s.cfg.emptyVolume + lastY s.cfg.stage / 100 < s.tank.volume) then some .holding
    else none
  | .holding =>
    if admitCondition s then some .admitting
    else if s.tank.volume ≤ s.cfg.emptyVolume then some .dry
    else if drainPermission s && !leftDraining then some .draining
    else none
  | .draining =>
    if admitCondition s then some .admitting
    else if s.tank.volume ≤ s.cfg.emptyVolume then some .dry
    else if drainBarred s then some .holding
    else none

/-- The tank state changed, with the release timer and open deferred (R85, R90), and the target re-derived (R87). -/
def tankMoves (t : TankState) (s : State) : State :=
  retarget { s with tank := { s.tank with
    state := t, releaseTimer := none, openDeferred := decide (t = .admitting) && pumpMayDraw s } }

/-- R150 a and c, R139: the Drain Controller takes the notice of a change of the tank state. -/
def drainTakesTankState (s : State) : State :=
  reformClaim (if s.tank.state = .draining then pumpStart s else commandStop s)

/-- R90: a notice that the pump is STOPPED or FAULT releases a deferred open command. -/
def releaseDeferred (s : State) : State :=
  if s.tank.openDeferred ∧ ¬ pumpMayDraw s then retarget { s with tank.openDeferred := false } else s

/-- A change of the tank state with its notice to the Drain Controller (R83). -/
def tankEnters (t : TankState) (s : State) : State := releaseDeferred (drainTakesTankState (tankMoves t s))

/-- Whether a transition calls for a further evaluation: a change of gate state (R87, R103), or a notice from the Drain
Controller (R159), the decision not to start the pump included. -/
def reevaluates (s0 s1 : State) : Bool :=
  drainChanged s0 s1 || s0.tank.gate != s1.tank.gate ||
    (s1.tank.state == .draining && s1.drain.setpoint == 0)

/-- R87: an evaluation, and the further ones that its own changes call for. Six always suffice: within one event the
tank passes at most through HOLDING, DRAINING, HOLDING, DRY and ADMITTING. -/
def tankCascade : Nat → Bool → Bool → State → State
  | 0, _, _, s => s
  | n + 1, isSample, leftDraining, s =>
    match tankDecides isSample leftDraining s with
    | none => s
    | some t =>
      let s1 := tankEnters t s
      if reevaluates s s1 then tankCascade n false (leftDraining || s.tank.state == .draining) s1 else s1

/-- R87: the state machine evaluated. -/
def tankEvaluate (isSample : Bool) (s : State) : State := tankCascade 6 isSample false s

/-! ### Notices between the Tank Controller and the Drain Controller -/

/-- R159: the Tank Controller takes a notice from the Drain Controller. -/
def tankTakesDrainNotice (s : State) : State := tankEvaluate false (releaseDeferred s)

/-- R159: a change at the Drain Controller notified to the Tank Controller. -/
def afterDrain (s0 s1 : State) : State := if drainChanged s0 s1 then tankTakesDrainNotice s1 else s1

/-- R103: a change of gate state evaluated by the tank state machine. -/
def afterGate (s0 s1 : State) : State := if s0.tank.gate = s1.tank.gate then s1 else tankEvaluate false s1

/-- The Drain Controller takes a notice from the Tank Controller or the Spill Monitor (R139, R143 a). -/
def drainTakesNotice (s : State) : State := afterDrain s (reformClaim s)

/-- The Drain Controller takes a notice of a peer, of the limit record, of the branch alert or of standing
(R143 b to d). -/
def drainTakesShareNotice (s : State) : State := afterDrain s (shareAndSetpoint s)

/-! ### Tank events -/

/-- R85: the release timer after a sample event or a notice of the branch alert (log 21). -/
def updateRelease (s : State) : State :=
  if s.tank.state = .admitting then
    if sewerLow s then
      (if s.tank.releaseTimer.isNone
        then { s with tank.releaseTimer := some (s.elapsed + seconds s.cfg.admitHold) } else s)
    else if admitCondition s then { s with tank.releaseTimer := none }
    else s
  else s

/-- R134 c: a notice of a change of the branch alert. -/
def tankTakesAlert (s : State) : State := tankEvaluate false (updateRelease s)

/-- R82: the fill of a volume. -/
def fillOf (s : State) (v : Nat) : Nat := v * 1000 / lastY s.cfg.stage

/-- R82: volume, fill and assumed full from the TANK level. -/
def measureVolume (s : State) : State :=
  if s.tankGauge.usable then
    let v := interpolate s.cfg.stage s.tankGauge.level
    { s with tank.volume := v, tank.fill := fillOf s v, tank.assumedFull := false }
  else s

/-- R82, R83, R87: the sample event of SEWER and TANK; `wasFailed` is whether TANK was FAILED before it. The notice to
the Drain Controller and the own evaluation reach different blocks (log 5). -/
def tankTakesSample (wasFailed : Bool) (s : State) : State :=
  let s1 := updateRelease (measureVolume s)
  if s1.tank.fill ≠ s.tank.fill ∨ wasFailed = s1.tankGauge.usable
  then inEitherOrder drainTakesNotice (tankEvaluate true) s1
  else tankEvaluate true s1

/-- R90: the release timer expires in ADMITTING. -/
def releaseExpires (s : State) : State :=
  if s.tank.state = .admitting then
    let s1 := tankEnters .holding s
    if reevaluates s s1 then tankEvaluate false s1 else s1
  else s

/-- R71, R96, R99, R100: a recognised edge of the limit of direction d. -/
def tankTakesEdge (d : GateDir) (rising : Bool) (s : State) : State := tankEvaluate false (gateTakesEdge d rising s)

/-! ### Pump events -/

/-- A change of the pump state or of the drain mode: the own claim re-formed (R139), the Tank Controller notified of what changed (R159). -/
def pumpChanges (s0 s1 : State) : State := afterDrain s0 (reformClaim s1)

/-- R152 to R156: a recognised edge of PUMP_RUNNING. -/
def drainTakesEdge (rising : Bool) (s : State) : State :=
  match s.drain.pump, rising with
  | some .starting, true => pumpChanges s { s with drain.pump := some .running, drain.pumpTimer := none }
  | some .running, false => pumpChanges s (pumpFaults s)
  | some .stopping, false => pumpChanges s (pumpStops s)
  | some .stopped, true => pumpChanges s (pumpFaults s)
  | some .fault, _ => pumpChanges s s
  | _, _ => s

/-- R152 b, R154 b: the start or stop timeout expires. -/
def pumpTimeout (s : State) : State := pumpChanges s (pumpFaults s)

/-- R155 a: the rest timer expires. -/
def restExpires (s : State) : State :=
  tankTakesDrainNotice { s with drain.restTimer := none, drain.restElapsed := true }

/-- R157 a. -/
def pumpClears (s : State) : State := pumpChanges s (pumpStops s)

/-- R158, in RUN: the drain mode changed. -/
def drainModeChanges (m : DrainMode) (s : State) : State :=
  pumpChanges s { s with drain.mode := m }

end Sys2Proof.Machine
end

