-- ==== Sys2Proof/Machine/RainUnit.lean ====
section
/-! DEFINITION. The Rain Unit: tips (R123, R124), bins and intensities (R125, R126), the own alert and its hold (R127 to
R130), the own RAIN (R131, R132) and the branch alert (R133, R134); with it the alert lamp (R76). -/

namespace Sys2Proof.Machine

/-! ### The lamp -/

/-- R76. -/
def lampCondition (s : State) : Bool := decide (2 ≤ s.rain.branch.code) || s.spill.state.inSpill

/-- R76: the lamp condition evaluated, in RUN. -/
def evaluateLamp (s : State) : State := { s with input.lamp := lampCondition s }

/-! ### The branch alert -/

/-- R133: the highest of the own alert and the levels of the rain parts. -/
def highestAlert (s : State) : AlertLevel :=
  s.peers.entries.foldl (fun a e => match e.rain with
    | none => a
    | some p => a.higher p.level) s.rain.own

/-- R133, R134: the branch alert formed anew; a change raises ALERT_CHANGE and notifies the Spill Counter, the Input
Unit, and, in an order that is not given, the Drain Controller and the Tank Controller (log 5). -/
def formBranchAlert (s : State) : State :=
  let b := highestAlert s
  if b = s.rain.branch then s
  else
    inEitherOrder drainTakesShareNotice tankTakesAlert
      (evaluateLamp (counterTakesAlert (raise .alertChange { s with rain.branch := b })))

/-! ### The own RAIN -/

/-- R131 c: the alert age. -/
def alertAge (s : State) : Nat :=
  match s.rain.lastRise with
  | none => 0
  | some x => min 65535 ((s.elapsed - x) / 60000)

/-- R131: the body of a RAIN, composed from the state as it stands. -/
def rainBody (s : State) : RainBody := ⟨s.rain.own.code, s.rain.short, s.rain.long, alertAge s⟩

/-- R131, R132: a RAIN queued; the repeat timer starts afresh above CLEAR and stops at CLEAR. -/
def queueRain (s : State) : State :=
  queueBody (.rain (rainBody s)) { s with
    rain.rainRepeat := if s.rain.own = .clear then none else some (s.elapsed + minutes s.cfg.rainRepeat) }

/-! ### The own alert -/

/-- R127: the level conditions evaluated. -/
def evaluateConditions (s : State) : State :=
  { s with
    rain.condWatch := decide (s.cfg.tWatch ≤ s.rain.long) || s.spill.state == .spilling
    rain.condWarning := decide (s.cfg.tWarn ≤ s.rain.short)
    rain.condSevere := decide (s.cfg.tSevere ≤ s.rain.short) }

/-- R127: the target. -/
def Rain.targetLevel (r : Rain) : AlertLevel :=
  if r.condSevere then .severe else if r.condWarning then .warning else if r.condWatch then .watch else .clear

/-- R127: the condition of a level; CLEAR has none. -/
def Rain.condition (r : Rain) : AlertLevel → Bool
  | .clear => true
  | .watch => r.condWatch
  | .warning => r.condWarning
  | .severe => r.condSevere

/-- R129: the alert hold after an evaluation that leaves the own alert unchanged; at CLEAR it is stopped. -/
def updateHold (s : State) : State :=
  if s.rain.condition s.rain.own then { s with rain.hold := none }
  else if s.rain.hold.isNone then { s with rain.hold := some (s.elapsed + minutes s.cfg.alertHold) }
  else s

/-- R128: a rise of the own alert. -/
def alertRises (level : AlertLevel) (s : State) : State :=
  formBranchAlert (queueRain { s with
    rain.own := level, rain.lastRise := some s.elapsed, rain.hold := none })

/-- R128, R129: the own alert evaluated. -/
def evaluateAlert (s : State) : State :=
  let s1 := evaluateConditions s
  let target := s1.rain.targetLevel
  if s1.rain.own.code < target.code then alertRises target s1 else updateHold s1

/-- One level lower. -/
def AlertLevel.lower : AlertLevel → AlertLevel
  | .severe => .warning
  | .warning => .watch
  | _ => .clear

/-- R130: the alert hold expires. -/
def holdExpires (s : State) : State :=
  evaluateAlert (formBranchAlert (queueRain { s with rain.own := s.rain.own.lower, rain.hold := none }))

/-- R132: the repeat timer expires. -/
def repeatExpires (s : State) : State := queueRain s

/-! ### Tips, bins and intensities -/

/-- R126: the intensity over a window of w minutes. -/
def intensity (bins : List Nat) (depth w : Nat) : Nat :=
  min 65535 ((bins.drop (bins.length - w)).sum * depth * 60 / w)

/-- R126: both intensities recomputed. -/
def recomputeIntensities (s : State) : State :=
  { s with
    rain.short := intensity s.rain.bins s.cfg.tipDepth s.cfg.shortWindow
    rain.long := intensity s.rain.bins s.cfg.tipDepth 60 }

/-- R124 b: the current bin, the last of the list, raised by 1. -/
def raiseCurrentBin (bins : List Nat) : List Nat :=
  bins.dropLast ++ [saturate 255 (bins.getLast?.getD 0 + 1)]

/-- R123: whether a tip is accepted. -/
def tipAccepted (tip : Stamped) (s : State) : Bool :=
  match s.rain.lastTip with
  | none => true
  | some last => decide (last.instant + seconds s.cfg.tipMinSpacing ≤ tip.instant)

/-- R124: an accepted tip. -/
def acceptTip (tip : Stamped) (s : State) : State :=
  evaluateAlert (recomputeIntensities { s with
    rain.lastTip := some tip
    rain.bins := raiseCurrentBin s.rain.bins
    rain.total := saturate maxU32 (s.rain.total + s.cfg.tipDepth)
    rain.accepted := saturate 65535 (s.rain.accepted + 1) })

/-- R123: a recognised edge of RAIN_TIP; a falling edge changes nothing. -/
def rainTakesEdge (rising : Bool) (tip : Stamped) (s : State) : State :=
  if rising then
    if tipAccepted tip s then acceptTip tip s
    else { s with rain.rejected := saturate 65535 (s.rain.rejected + 1) }
  else s

/-- R125 b, c: a new current bin; no more than 60 bins are kept. -/
def appendBin (bins : List Nat) : List Nat := (bins ++ [0]).drop (bins.length + 1 - 60)

/-- R125: the end of an elapsed minute. -/
def minuteEnds (s : State) : State :=
  evaluateAlert (recomputeIntensities { s with
    rain.bins := appendBin s.rain.bins
    rain.minutes := s.rain.minutes + 1
    rain.nextMinute := s.rain.nextMinute.map (· + 60000) })

end Sys2Proof.Machine
end

