-- ==== Sys2Proof/Machine/SpillMonitor.lean ====
section
/-! DEFINITION. The Spill Monitor: head and level condition (R108), float condition (R109), the spill state machine (R110
to R114a), flow (R114) and spill volume (R115 to R118). -/

namespace Sys2Proof.Machine

/-- R110: the combined condition C. -/
def combined (s : State) : Bool := s.spill.levelCond || s.spill.floatCond

/-- R114a: a change of the spill state notified, to the Spill Counter first (log 53); the Drain Controller and the Rain
Unit take the notice in an order that is not given (log 5). -/
def notifySpill (s : State) : State :=
  inEitherOrder drainTakesNotice evaluateAlert (evaluateLamp (counterTakesSpillState s))

/-- R111: entry to ONSET at the instant of the change of C. -/
def enterOnset (change : Stamped) (s : State) : State :=
  notifySpill { s with spill := { s.spill with
    state := .onset, onset := some change, stateInstant := some change, subsiding := none
    debounce := some (change.instant + seconds s.cfg.spillStartDebounce)
    remainder := 0, provisional := 0, marks := ⟨false, false, false⟩ } }

/-- R112 b: the spell lapses. -/
def lapseSpell (change : Stamped) (s : State) : State :=
  notifySpill { s with spill := { s.spill with
    state := .clear, onset := none, stateInstant := some change, debounce := none
    remainder := 0, provisional := 0, marks := ⟨false, false, false⟩ } }

/-- R113 a. -/
def enterSubsiding (change : Stamped) (s : State) : State :=
  notifySpill { s with spill := { s.spill with
    state := .subsiding, subsiding := some change, stateInstant := some change
    debounce := some (change.instant + seconds s.cfg.spillStopDebounce) } }

/-- R113 b. -/
def resumeSpilling (change : Stamped) (s : State) : State :=
  notifySpill { s with spill := { s.spill with
    state := .spilling, subsiding := none, stateInstant := some change, debounce := none } }

/-- R111 to R113: C evaluated by the spill state machine, its change dated `change`. -/
def spillEvaluates (change : Stamped) (s : State) : State :=
  match s.spill.state, combined s with
  | .clear, true => enterOnset change s
  | .onset, false => lapseSpell change s
  | .spilling, false => enterSubsiding change s
  | .subsiding, true => resumeSpilling change s
  | _, _ => s

/-- R112 a: the start debounce expires. -/
def confirmSpill (s : State) : State :=
  notifySpill (raise .spillStart { s with spill := { s.spill with
    state := .spilling, stateInstant := some s.now, debounce := none
    confirmed := saturate maxU32 (s.spill.confirmed + s.spill.provisional) } })

/-- R113 c: the stop debounce expires. -/
def endSpill (s : State) : State :=
  notifySpill (raise .spillEnd { s with spill := { s.spill with
    state := .clear, stateInstant := s.spill.subsiding, debounce := none, remainder := 0 } })

/-- The later of two instants, the first where they are equal. -/
def laterOf (a : Stamped) : Option Stamped → Stamped
  | none => a
  | some b => if a.instant < b.instant then b else a

/-- R109, R110 b and c: a recognised edge of SPILL_FLOAT. -/
def spillTakesEdge (rising : Bool) (edge : Stamped) (s : State) : State :=
  let fromState := laterOf edge s.spill.stateInstant
  let change := if rising then fromState else laterOf fromState s.spill.levelInstant
  spillEvaluates change { s with spill.floatCond := rising }

/-- R114: the flow and the beyond-table indication of a head. -/
def weirFlow (table : List Point) (usable : Bool) (h : Int) : Nat × Bool :=
  if usable = false ∨ h ≤ 0 then (0, false)
  else if (lastX table : Int) < h then (lastY table, true)
  else (interpolate table h.toNat, false)

/-- R108, R114: head, level condition, flow and beyond table from the OVERFLOW sample; `always` sets the level instant
whether or not the level condition changes (R122 c). -/
def measureHead (always : Bool) (s : State) : State :=
  let ch := s.overflow
  let h : Int := (ch.level : Int) - s.cfg.crest
  let cond := ch.usable && decide ((s.cfg.spillDeadband : Int) ≤ h)
  let q := weirFlow s.cfg.weir ch.usable h
  { s with spill := { s.spill with
    head := some h, status := some ch.status, flow := q.1, beyond := q.2, levelCond := cond
    levelInstant := if always || cond != s.spill.levelCond then some s.now else s.spill.levelInstant } }

/-- R115: the span of a spill sample. -/
def sampleSpan (dt : Nat) (s : State) : Nat := min dt (s.elapsed - (onsetOf s).instant)

/-- R115, R116, R118: a spill sample integrated and the present spell marked. -/
def integrateSample (dt : Nat) (provisional : Bool) (s : State) : State :=
  let sp := s.spill
  let volume := sp.remainder + sp.flow * sampleSpan dt s
  { s with spill := { sp with
    remainder := volume % 1000
    provisional := if provisional then sp.provisional + volume / 1000 else sp.provisional
    confirmed := if provisional then sp.confirmed else saturate maxU32 (sp.confirmed + volume / 1000)
    marks := ⟨sp.marks.held || sp.status == some .held, sp.marks.beyond || sp.beyond,
      sp.marks.level || sp.levelCond⟩ } }

/-- R116 b: the whole litres of a spill sample. -/
def wholeLitres (dt : Nat) (s : State) : Nat := (s.spill.remainder + s.spill.flow * sampleSpan dt s) / 1000

/-- R117: the notice of a spill sample. -/
def sampleNotice (litres : Nat) (provisional : Bool) (s : State) : SampleNotice where
  head := if s.spill.status = some .failed then none else s.spill.head
  held := s.spill.status == some .held
  beyond := s.spill.beyond
  level := s.spill.levelCond
  litres := litres
  provisional := provisional

/-- R115 to R118: the integration of a sample at whose arrival the spill state was `arrival`. A sample that makes a
spell lapse adds nothing and marks nothing (log 26). -/
def takeSpillSample (arrival : SpillState) (dt : Nat) (s : State) : State :=
  let after := s.spill.state
  if arrival = .clear ∧ after = .clear then s
  else if arrival = .onset ∧ after = .clear then counterTakesSample (sampleNotice 0 true s) s
  else
    let provisional := arrival == .onset || after == .onset
    let litres := if provisional then 0 else wholeLitres dt s
    counterTakesSample (sampleNotice litres provisional s) (integrateSample dt provisional s)

/-- R108: an OVERFLOW sample with its sample interval. -/
def spillTakesSample (dt : Nat) (s : State) : State :=
  takeSpillSample s.spill.state dt (spillEvaluates s.now (measureHead false s))

end Sys2Proof.Machine
end

