-- ==== Sys2Proof/Machine/InputUnit.lean ====
section
/-! DEFINITION. The Input Unit: gauge conversion (R66 to R69), the filters of the digital inputs (R70, R71), and the
capture records (R72, R73). -/

namespace Sys2Proof.Machine

/-! ### Gauge channels -/

/-- R67: the level of an in-band count. -/
def gaugeLevel (datum span r : Nat) : Nat := datum + (r - 600) * span / 3200

/-- R67, R68: whether a count lies in the valid band. -/
def inBand (r : BitVec 12) : Bool := decide (600 ≤ r.toNat ∧ r.toNat ≤ 3800)

/-- R66 to R68: a channel after a conversion to count r at an instant. -/
def convertChannel (datum span : Nat) (r : BitVec 12) (instant : Nat) (c : GaugeChannel) : GaugeChannel :=
  if inBand r then ⟨gaugeLevel datum span r.toNat, .good, 0, true, r, some instant⟩
  else
    let run := saturate 255 (c.run + 1)
    { c with
      run := run, raw := r, previous := some instant
      status := if c.proven && decide (run ≤ 2) then .held else .failed }

/-- R66 to R68: one channel converted; an out-of-band run that reaches 3 raises SENSOR_FAULT. -/
def convertGauge (g : Gauge) (r : BitVec 12) (s : State) : State :=
  let c := convertChannel (s.cfg.datum.get g) (s.cfg.span.get g) r s.elapsed (s.input.gauges.get g)
  let s1 := { s with input.gauges := s.input.gauges.set g c }
  if c.run = 3 then raise .sensorFault s1 else s1

/-- R66: the sample interval of a channel, 0 at the first sample instant of a RUN. -/
def sampleInterval (g : Gauge) (s : State) : Nat :=
  match (s.input.gauges.get g).previous with
  | none => 0
  | some x => s.elapsed - x

/-- R69: the SEWER and TANK samples of one instant, one event at the Tank Controller. -/
def sampleTank (counts : GaugeCounts) (s : State) : State :=
  tankTakesSample (!s.tankGauge.usable) (convertGauge .tank counts.tank (convertGauge .sewer counts.sewer s))

/-- R69: the OVERFLOW sample, an event at the Spill Monitor. -/
def sampleOverflow (counts : GaugeCounts) (s : State) : State :=
  spillTakesSample (sampleInterval .overflow s) (convertGauge .overflow counts.overflow s)

/-- R66, R69: a sample instant; the two events go to different blocks in an order that is not given (log 5). That a
channel is converted within its owner's event, and not all three before either event, is the model's choice (log 54). -/
def takeSample (counts : GaugeCounts) (s : State) : State :=
  inEitherOrder (sampleTank counts) (sampleOverflow counts)
    { s with input.nextSample := some (s.elapsed + seconds s.cfg.samplePeriod) }

/-! ### Digital inputs -/

/-- One digital input replaced. -/
def setInput (i : DigitalIn) (d : DigitalInput) (s : State) : State :=
  { s with input.digital := s.input.digital.set i d }

/-- R70 a, b: a raw transition of a contact to a level. In CONFIG, and while the recognised level is undetermined, the
raw level alone changes. -/
def contactMoves (level : Bool) (now : Stamped) (d : DigitalInput) : DigitalInput :=
  if d.raw = level then d
  else match d.recognised with
    | none => { d with raw := level }
    | some r => { d with raw := level, candidate := if level = r then none else some ⟨level, now⟩ }

/-- R72: a capture record after an edge. -/
def Capture.takes (mode : CaptureMode) (stamp : Nat) (c : Capture) : Capture :=
  match mode with
  | .off => c
  | .continuous => ⟨true, c.lost || c.captured, stamp⟩
  | .single => if c.captured then { c with lost := true } else ⟨true, c.lost, stamp⟩

/-- R70 c, R72: an input whose candidate is recognised. -/
def recogniseEdge (modes : CaptureModes) (e : Candidate) (d : DigitalInput) : DigitalInput :=
  { d with
    recognised := some e.level, candidate := none
    rising := if e.level then d.rising.takes modes.rising e.since.stamp else d.rising
    falling := if e.level then d.falling else d.falling.takes modes.falling e.since.stamp }

/-- R71: a recognised edge handed to the owner of its input. -/
def handEdge (i : DigitalIn) (e : Candidate) (s : State) : State :=
  match i with
  | .rainTip => rainTakesEdge e.level e.since s
  | .gateOpenLimit => tankTakesEdge .toOpen e.level s
  | .gateClosedLimit => tankTakesEdge .toClose e.level s
  | .spillFloat => spillTakesEdge e.level e.since s
  | .pumpRunning => drainTakesEdge e.level s

/-- R70 c: whether an input's candidate has held for its FILTER. -/
def filterDue (i : DigitalIn) (s : State) : Option Candidate :=
  match (s.input.digital.get i).candidate with
  | none => none
  | some e => if e.since.instant + s.cfg.filter.get i ≤ s.elapsed then some e else none

/-- R70 c, R71, R72: an edge recognised, captured and handed to its owner. -/
def takeEdge (i : DigitalIn) (e : Candidate) (s : State) : State :=
  handEdge i e (setInput i (recogniseEdge (s.cfg.capture.get i) e (s.input.digital.get i)) s)

/-- R73: a record with its flags cleared, its stamp kept. -/
def Capture.cleared (c : Capture) : Capture := ⟨false, false, c.stamp⟩

/-- R73: the capture records of an input read and cleared. -/
def clearCaptures (i : DigitalIn) (s : State) : State :=
  let d := s.input.digital.get i
  setInput i { d with rising := d.rising.cleared, falling := d.falling.cleared } s

end Sys2Proof.Machine
end

