-- ==== Sys2Proof/Machine/TimeUnit.lean ====
section
/-! DEFINITION. The Time Unit: the count (R48), time samples (R50 to R55), slewing and settling (R56 to R58), SET TIME
(R59) and the step notices (R60). -/

namespace Sys2Proof.Machine

/-- R48: T after n increments more, saturating. -/
def advanceT (t n : Nat) : Nat := min maxTime (t + n)

/-- R49: the clock state set; a change raises CLOCK_CHANGE. -/
def setClock (c : ClockState) (s : State) : State :=
  if c = s.time.clock then s else raise .clockChange { s with time.clock := c }

/-- R60: the step notices; the Drain Controller and the Spill Counter act on different state, so their order cannot
show. -/
def stepNotices (s : State) : State := counterTakesStep (claimTimerStep s)

/-- A bulletin being gathered is marked once T has been stepped after its arrival stamp (R50 d). -/
def markStepped (s : State) : State :=
  match s.trunk.rx with
  | .frame g => { s with trunk.rx := .frame { g with stepped := true } }
  | _ => s

/-- R53, R59: T stepped, E and both runs zeroed, the clock state set and the step notices sent. -/
def stepTime (t : Nat) (c : ClockState) (s : State) : State :=
  stepNotices (setClock c (markStepped { s with time := { s.time with
    t := t, e := 0, settleRun := 0, outlierRun := 0 } }))

/-! ### Time samples -/

/-- A time sample (R40): the sender and its clock state, its time, the arrival stamp, and whether T was stepped since
the stamp was given. -/
structure TimeSample where
  sender  : Addr
  clock   : ClockState
  time    : Nat
  arrival : Nat
  stepped : Bool
  deriving DecidableEq, Repr

/-- R51: whether the anchor preference excludes a sample (log 42). -/
def preferenceExcludes (x : TimeSample) (s : State) : Bool :=
  match s.time.anchorPref with
  | none => false
  | some p => x.clock == .settled && decide (s.elapsed ≤ p + seconds 60)

/-- R50. -/
def sampleIgnored (x : TimeSample) (s : State) : Bool :=
  x.clock == .unset || x.clock == .following || s.time.clock == .anchored || s.cfg.anchor || x.stepped ||
    preferenceExcludes x s

/-- R52: the sample value s. -/
def sampleValue (x : TimeSample) (s : State) : Int := (x.time : Int) + s.cfg.lineDelay - x.arrival

/-- R53: T with a value added, held within 0..2^48 - 1. -/
def steppedT (t : Nat) (v : Int) : Nat := min maxTime ((t : Int) + v).toNat

/-- R55: a value held within -b..b. -/
def clampInt (b : Nat) (e : Int) : Int := max (-(b : Int)) (min (b : Int) e)

/-- R55: the estimate after a used sample of value v. -/
def updatedEstimate (depth limit : Nat) (e v : Int) : Int :=
  clampInt (16 * limit) (e + Int.tdiv (16 * v - e) (2 ^ depth : Nat))

/-- R54: an outlier. -/
def takeOutlier (s : State) : State :=
  if s.time.outlierRun + 1 = 8 then raise .clockDisagree { s with time.outlierRun := 0 }
  else { s with time.outlierRun := s.time.outlierRun + 1 }

/-- R55, R58: a used sample. -/
def useSample (v : Int) (s : State) : State :=
  let e := updatedEstimate s.cfg.clockDepth s.cfg.stepLimit s.time.e v
  let s1 := { s with time := { s.time with e := e, outlierRun := 0 } }
  if s.time.clock = .settled ∧ 160 ≤ e.natAbs then setClock .following { s1 with time.settleRun := 0 } else s1

/-- R52: the outcome of a sample of value v that is taken. -/
def sampleOutcome (v : Int) (s : State) : SampleOutcome :=
  if s.time.clock = .unset then .step else if s.cfg.stepLimit < v.natAbs then .outlier else .used

/-- R52 to R55: a sample of value v handled by the own clock state. -/
def handleSample (v : Int) (s : State) : State :=
  match sampleOutcome v s with
  | .step => stepTime (steppedT s.time.t v) .following s
  | .outlier => takeOutlier s
  | .used => useSample v s

/-- R50 to R52: a time sample handed to the Time Unit. -/
def timeTakesSample (x : TimeSample) (s : State) : State :=
  if sampleIgnored x s then s
  else
    let v := sampleValue x s
    let s1 := if x.clock = .anchored then { s with time.anchorPref := some s.elapsed } else s
    { handleSample v s1 with
      time.lastSample := some ⟨x.sender, v, sampleOutcome v s, s.elapsed⟩ }

/-! ### Slewing -/

/-- R57: the settle check. -/
def settleCheck (s : State) : State :=
  if s.time.clock = .following then
    if s.time.e.natAbs < 32 then
      if s.time.settleRun + 1 = 10 then setClock .settled { s with time.settleRun := 0 }
      else { s with time.settleRun := s.time.settleRun + 1 }
    else { s with time.settleRun := 0 }
  else s

/-- R56: T and E at an adjust; a withheld increment is the next one due (log 15). -/
def slew (s : State) : State :=
  if 16 ≤ s.time.e then { s with time := { s.time with t := advanceT s.time.t 1, e := s.time.e - 16 } }
  else if s.time.e ≤ -16 then { s with time := { s.time with withheld := true, e := s.time.e + 16 } }
  else s

/-- R56, R57: an adjust. -/
def makeAdjust (s : State) : State :=
  settleCheck (slew { s with time.nextAdjust := s.time.nextAdjust.map (· + seconds 1) })

/-- R48: the end of an elapsed millisecond. -/
def advanceTime (s : State) : State :=
  { s with
    elapsed := s.elapsed + 1
    time.t := if s.time.withheld then s.time.t else advanceT s.time.t 1
    time.withheld := false }

end Sys2Proof.Machine
end

