-- ==== Sys2Proof/Machine/PeerTable.lean ====
section
/-! DEFINITION. The Peer Table: acceptance (R29, R31), entries (R32 to R34), claim parts (R35, R36), rain parts (R37,
R38), forgetting (R39) and the limit record (R41 to R43). -/

namespace Sys2Proof.Machine

/-! ### Acceptance -/

def Uses.any (u : Uses) : Bool := u.claim || u.rain || u.time || u.limit

/-- R29: whether an acceptance entry is enabled and matches an address. -/
def AcceptEntry.hits (e : AcceptEntry) (a : Addr) : Bool := e.uses.any && (a &&& e.mask) == (e.value &&& e.mask)

/-- R29: an acceptance entry of the table by its number. -/
def AcceptTable.get (t : AcceptTable) : Nat → AcceptEntry
  | 0 => t.e0
  | 1 => t.e1
  | 2 => t.e2
  | _ => t.e3

/-- R29: the filter hit of an address. -/
def filterHit (t : AcceptTable) (a : Addr) : Option Nat :=
  if t.e0.hits a then some 0
  else if t.e1.hits a then some 1
  else if t.e2.hits a then some 2
  else if t.e3.hits a then some 3
  else none

/-! ### Entries -/

/-- R33: an entry inserted in ascending order of address. -/
def insertEntry (e : PeerEntry) : List PeerEntry → List PeerEntry
  | [] => [e]
  | x :: xs => if e.address < x.address then e :: x :: xs else x :: insertEntry e xs

/-- The entry of an address. -/
def findEntry (a : Addr) (es : List PeerEntry) : Option PeerEntry := es.find? fun e => e.address == a

/-- The entry of an address changed. -/
def changeEntry (a : Addr) (f : PeerEntry → PeerEntry) (es : List PeerEntry) : List PeerEntry :=
  es.map fun e => if e.address = a then f e else e

/-- The entry of an address removed. -/
def removeEntry (a : Addr) (es : List PeerEntry) : List PeerEntry := es.filter fun e => e.address != a

/-- Whether an entry has neither a claim part nor a rain part. -/
def PeerEntry.bare (e : PeerEntry) : Bool := e.claim.isNone && e.rain.isNone

/-- R34 a: of two entries, the one whose latest acceptance instant lies longest ago. -/
def olderEntry (a : PeerEntry) : Option PeerEntry → PeerEntry
  | none => a
  | some b => if b.accepted < a.accepted then b else a

/-- R34 a: the entry without parts that was accepted longest ago. -/
def evictable : List PeerEntry → Option PeerEntry
  | [] => none
  | e :: es => if e.bare then some (olderEntry e (evictable es)) else evictable es

/-- R33: a new entry. -/
def newEntry (r : Received) (hit stamp : Nat) (s : State) : PeerEntry where
  address := r.sender
  hit := hit
  firstHeard := stamp
  lastHeard := stamp
  lastClock := r.clock
  lastQuiet := r.quiet
  claim := none
  rain := none
  accepted := s.elapsed

/-- R32: an entry refreshed by a bulletin. -/
def refreshEntry (r : Received) (stamp : Nat) (s : State) (e : PeerEntry) : PeerEntry :=
  { e with lastHeard := stamp, lastClock := r.clock, lastQuiet := r.quiet, accepted := s.elapsed }

/-- The entries replaced. -/
def setEntries (es : List PeerEntry) (s : State) : State := { s with peers.entries := es }

/-- R26 c, R32 to R34: the entry of a bulletin's sender found and refreshed, or made; or none could be. -/
def takeEntry (r : Received) (hit stamp : Nat) (s : State) : State :=
  let es := s.peers.entries
  match findEntry r.sender es with
  | some _ => setEntries (changeEntry r.sender (refreshEntry r stamp s) es) s
  | none =>
    if es.length < 24 then setEntries (insertEntry (newEntry r hit stamp s) es) s
    else match evictable es with
      | some old => setEntries (insertEntry (newEntry r hit stamp s) (removeEntry old.address es)) s
      | none => raise .tableFull s

/-! ### Parts and the limit record -/

/-- R35: the claim part of a clamped CLAIM. -/
def claimPartOf (c : ClaimBody) (s : State) : ClaimPart where
  requested := c.requested
  drawn := c.drawn
  fill := c.fill
  weight := c.weight
  spilling := c.urgency != 0
  period := c.period
  arrival := s.elapsed
  fresh := true

/-- R37 a: the rain part of a clamped RAIN. -/
def rainPartOf (r : RainBody) (s : State) : RainPart :=
  ⟨AlertLevel.fromNat r.level, r.short, r.long, r.age, s.elapsed⟩

/-- R41, R42: a LIMIT applied to the limit record; its notice is sent by the caller. -/
def applyLimit (l : LimitBody) (sender : Addr) (arrival : Stamped) (s : State) : State :=
  let s1 := { s with peers.limit := some ⟨l.capacity, l.validity, sender, arrival, true⟩ }
  match s.peers.limit with
  | none => raise .limitChange s1
  | some old => if old.fresh = false ∨ old.capacity ≠ l.capacity then raise .limitChange s1 else s1

/-- R26 d and f: the part or the LIMIT of a clamped body taken, with its notice (R44). -/
def takeBody (body : Body) (uses : Uses) (sender : Addr) (stamp : Nat) (s : State) : State :=
  let es := s.peers.entries
  match body, findEntry sender es with
  | .claim c, some _ =>
    if uses.claim then
      drainTakesShareNotice
        (setEntries (changeEntry sender (fun e => { e with claim := some (claimPartOf c s) }) es) s)
    else s
  | .rain r, some e =>
    if uses.rain then
      if r.level = 0 then
        (if e.rain.isSome then formBranchAlert (setEntries (changeEntry sender (fun e => { e with rain := none }) es) s)
         else s)
      else formBranchAlert
        (setEntries (changeEntry sender (fun e => { e with rain := some (rainPartOf r s) }) es) s)
    else s
  | .limit l, _ =>
    if uses.limit then drainTakesShareNotice (applyLimit l sender ⟨s.elapsed, stamp⟩ s) else s
  | _, _ => s

/-- R26: a bulletin handed to the Peer Table, with its arrival stamp. The part's notice and the time sample reach
different blocks in an order that is not given (R44; log 5). -/
def takeBulletin (r : Received) (stamp : Nat) (stepped : Bool) (s : State) : State :=
  match filterHit s.cfg.accept r.sender with
  | none => s
  | some hit =>
    let uses := (s.cfg.accept.get hit).uses
    let s1 := takeEntry r hit stamp s
    let part := takeBody (clampBody r.body) uses r.sender stamp
    if uses.time then
      inEitherOrder part (timeTakesSample ⟨r.sender, r.clock, r.time, stamp, stepped⟩) s1
    else part s1

/-! ### Ageing -/

/-- R39: whether an entry is to be forgotten. -/
def forgettable (s : State) (e : PeerEntry) : Bool :=
  e.bare && decide (e.accepted + seconds s.cfg.forgetTime ≤ s.elapsed)

/-- R39: the entry of an address removed once it is to be forgotten. -/
def forgetEntry (a : Addr) (s : State) : State :=
  setEntries (s.peers.entries.filter fun e => !(e.address == a && forgettable s e)) s

/-- R36: the claim part of an address. -/
def claimPartAt (a : Addr) (s : State) : Option ClaimPart := (findEntry a s.peers.entries).bind PeerEntry.claim

/-- R36: whether a claim part has passed from FRESH to STALE (log 33). -/
def ClaimPart.staleDue (c : ClaimPart) (now : Nat) : Bool :=
  c.fresh && decide (c.arrival + seconds (2 * c.period + 2) < now)

/-- R36: whether a claim part is to be removed (log 33). -/
def ClaimPart.removalDue (c : ClaimPart) (now : Nat) : Bool := decide (c.arrival + seconds (6 * c.period) < now)

/-- R36: the passage to STALE, with its notice. -/
def claimGoesStale (a : Addr) (s : State) : State :=
  drainTakesShareNotice (setEntries (changeEntry a
    (fun e => { e with claim := e.claim.map fun c => { c with fresh := false } }) s.peers.entries) s)

/-- R36, R39: the removal of a claim part, with its notice. -/
def claimGoes (a : Addr) (s : State) : State :=
  drainTakesShareNotice (forgetEntry a (setEntries (changeEntry a (fun e => { e with claim := none }) s.peers.entries) s))

/-- R38, R39: the removal of a rain part, with its notice. -/
def rainGoes (a : Addr) (s : State) : State :=
  formBranchAlert (forgetEntry a (setEntries (changeEntry a (fun e => { e with rain := none }) s.peers.entries) s))

/-- R38: whether the rain part of an address has outlived RAIN_LIFETIME. -/
def rainDue (a : Addr) (s : State) : Bool :=
  match (findEntry a s.peers.entries).bind PeerEntry.rain with
  | none => false
  | some p => decide (p.arrival + minutes s.cfg.rainLifetime ≤ s.elapsed)

/-- R43: whether the limit record's validity has elapsed. -/
def limitDue (s : State) : Bool :=
  match s.peers.limit with
  | none => false
  | some r => r.fresh && decide (r.arrival.instant + seconds r.validity ≤ s.elapsed)

/-- R43: the limit record stops being fresh, with its flag and its notice. -/
def limitLapses (s : State) : State :=
  drainTakesShareNotice (raise .limitChange { s with peers.limit := s.peers.limit.map fun r => { r with fresh := false } })

end Sys2Proof.Machine
end

