-- ==== Sys2Proof/Machine/TrunkLine.lean ====
section
/-! DEFINITION. The Trunk Interface: scores and standing (R19 to R22), attempts and their outcomes (R8 to R14), the
receiver (R15 to R18), and the line (R1). -/

namespace Sys2Proof.Machine

/-! ### Standing -/

/-- R19: standing as the two scores give it. -/
def standingOf (tx rx : Nat) : Standing :=
  if 200 ≤ tx then .cutOff .score
  else if 100 ≤ tx then .quiet
  else if 40 ≤ tx ∨ 40 ≤ rx then .warned
  else .normal

/-- R20: the cut-off hold started or restarted. -/
def startCutoffHold (s : State) : State :=
  { s with trunk.cutoffHold := some (s.elapsed + seconds s.cfg.cutoffHold) }

/-- R7, R18 d, R21, R22: the transmitter after a change of standing. -/
def transmitterTakesStanding (s : State) : State :=
  if s.trunk.standing.silent then (if s.trunk.tx = .send then s else idleTransmitter s) else wakeTransmitter s

/-- R19: standing set; a change of it, or of its cause, raises STANDING_CHANGE, acts on the transmitter and notifies the
Drain Controller. -/
def setStanding (st : Standing) (s : State) : State :=
  if st = s.trunk.standing then s
  else drainTakesShareNotice (transmitterTakesStanding (raise .standingChange { s with trunk.standing := st }))

/-- R19, R20: standing set as the scores give it; at 200 the cut-off hold starts. -/
def standFromScores (s : State) : State :=
  let st := standingOf s.trunk.txScore s.trunk.rxScore
  setStanding st (if st = .cutOff .score then startCutoffHold s else s)

/-- R19: standing recomputed after a change of a score; CUT_OFF and SILENCED stay. -/
def recomputeStanding (s : State) : State := if s.trunk.standing.silent then s else standFromScores s

/-- R19: the transmit fault score raised, kept within 0..200. -/
def raiseTxScore (n : Nat) (s : State) : State :=
  recomputeStanding { s with trunk.txScore := min 200 (s.trunk.txScore + n) }

/-- R11 a: the transmit fault score lowered by 1. -/
def lowerTxScore (s : State) : State := recomputeStanding { s with trunk.txScore := s.trunk.txScore - 1 }

/-- R16: the receive fault score raised, kept within 0..100. -/
def raiseRxScore (n : Nat) (s : State) : State :=
  recomputeStanding { s with trunk.rxScore := min 100 (s.trunk.rxScore + n) }

/-- R17: the receive fault score lowered by 1. -/
def lowerRxScore (s : State) : State := recomputeStanding { s with trunk.rxScore := s.trunk.rxScore - 1 }

/-- R20: the cut-off hold has elapsed. -/
def holdElapses (s : State) : State :=
  standFromScores { s with trunk.cutoffHold := none, trunk.txScore := 0 }

/-- R21: a SILENCE request in RUN. -/
def silenceRequest (s : State) : Status × State :=
  match s.trunk.standing with
  | .cutOff .clash => (.refused, s)
  | .silenced => (.done, s)
  | _ => (.done, setStanding .silenced { s with trunk.cutoffHold := none })

/-- R22: a REJOIN request in RUN. An attempt still being driven goes on to its end (log 44). -/
def rejoinRequest (s : State) : Status × State :=
  match s.trunk.standing with
  | .silenced => (.done, standFromScores s)
  | .cutOff .score => (.done, holdElapses s)
  | .cutOff .clash => (.refused, s)
  | _ => (.done, s)

/-! ### The attempt -/

/-- R11 e, R14, R25 c: the transmitter at the end of an attempt or of a backoff. -/
def transmitterRests (s : State) : State :=
  if s.trunk.firstEligible.isSome then enterWaitLine s else idleTransmitter s

/-- The body that a slot holds. -/
def Slot.body : Slot → Body
  | .empty => .presence
  | .waiting b _ => b
  | .sending b _ _ => b

/-- R5, R8: an attempt begins with the slot of kind k. Its first sync byte makes the line busy. -/
def startAttempt (k : Kind) (s : State) : State :=
  let body := (s.trunk.slots.get k).body
  let bytes := composeBulletin body s.ownAddress s.time.clock (s.trunk.standing == .quiet) s.time.t
  { s with trunk := { s.trunk with
    slots := s.trunk.slots.set k (s.trunk.slots.get k).take
    tx := .send, txUntil := none, lineFree := false, lastActivity := s.elapsed
    attempt := some ⟨k, body, bytes, s.time.t, none, false, s.elapsed⟩ } }

/-- R5, R7: the instant at which an attempt is to begin. -/
def beginAttempt (s : State) : State :=
  match s.trunk.firstEligible with
  | none => idleTransmitter s
  | some k => startAttempt k s

/-- R14: BACKOFF entered after the n-th failure of a slot; in CUT_OFF and SILENCED the transmitter becomes IDLE. The
standing is the one at the attempt's end (log 44). -/
def enterBackoff (n : Nat) (s : State) : State :=
  if s.trunk.standing.silent then idleTransmitter s
  else
    let slots := (Config.backoffDraw s.free.backoffs).toNat % 2 ^ min n 5
    { s with
      trunk.tx := .backoff, trunk.txUntil := some (s.elapsed + slotTime slots)
      free.backoffs := s.free.backoffs + 1 }

/-- The slot of a kind replaced. -/
def setSlot (k : Kind) (v : Slot) (s : State) : State := { s with trunk.slots := s.trunk.slots.set k v }

/-- R9, R10, R12, R13: a failed attempt of the slot of kind k, which scores `score`. Each score change, with its notices,
comes before the slot leaves SENDING, at the twelfth failure the further 20 too, so that a CLAIM that either queues in the
slot is dropped with it: the model's reading (log 38). -/
def failAttempt (k : Kind) (score : Nat) (s : State) : State :=
  let v := s.trunk.slots.get k
  let n := v.count + 1
  let s1 := if score = 0 then s else raiseTxScore score s
  let s2 := { s1 with trunk.attempt := none }
  if n < 12 then enterBackoff n (setSlot k (s2.trunk.slots.get k).afterFailure s2)
  else enterBackoff 12 (setSlot k .empty (raiseTxScore 20 s2))

/-- R11 d, R42: the own LIMIT applied. -/
def applyOwnLimit (a : Attempt) (s : State) : State :=
  match a.body with
  | .limit l => drainTakesShareNotice (applyLimit l s.ownAddress ⟨s.elapsed, a.stamp⟩ s)
  | _ => s

/-- R11: a clean send. -/
def cleanSend (a : Attempt) (s : State) : State :=
  let s1 := lowerTxScore s
  let s2 := restartPresence (setSlot a.kind (s1.trunk.slots.get a.kind).afterClean s1)
  transmitterRests { applyOwnLimit a s2 with trunk.attempt := none }

/-- R24, R25 c: the end of a disregarded attempt. -/
def endDisregarded (s : State) : State :=
  let s1 := { s with trunk.attempt := none }
  if s.inRun then transmitterRests s1 else idleTransmitter s1

/-- R1, R8: whether the bytes of an attempt have had their time on the line by now. -/
def Attempt.driven (a : Attempt) (now : Nat) : Bool := decide (a.began + bulletinTime a.bytes.length ≤ now)

/-- R8 c and d: the last byte of an attempt has been driven. -/
def attemptEnds (a : Attempt) (s : State) : State :=
  if a.disregarded then endDisregarded s
  else if a.echo = some a.bytes then cleanSend a s
  else failAttempt a.kind 10 s

/-- R8 a and b: a collision reported to an attempt while byte `atByte` is being driven. -/
def attemptCollides (a : Attempt) (atByte : Nat) (s : State) : State :=
  if a.disregarded then endDisregarded s
  else failAttempt a.kind (if atByte < 6 then 0 else 10) s

/-! ### The receiver -/

/-- R16: a bad bulletin that is not an echo; it restarts a running cut-off hold (R20). -/
def badBulletin (s : State) : State :=
  let s1 := raiseRxScore 2 s
  if s1.trunk.cutoffHold.isSome then startCutoffHold s1 else s1

/-- R18: an address clash. -/
def addressClash (s : State) : State :=
  let s1 := raise .addressClash s
  if s1.trunk.standing = .cutOff .clash then s1
  else setStanding (.cutOff .clash) { s1 with trunk.cutoffHold := none }

/-- R17: a good bulletin that is not an echo. -/
def goodBulletin (g : Gathering) (s : State) : State :=
  let r := parseBulletin g.bytes
  let s1 := lowerRxScore s
  if r.sender = s.ownAddress then addressClash s1 else takeBulletin r g.stamp g.stepped s1

/-- R8, R15: the echo gathered whole and valid, handed to the attempt. -/
def takeEcho (bytes : List Byte) (s : State) : State :=
  { s with trunk.attempt := s.trunk.attempt.map fun a => { a with echo := some bytes } }

/-- The receiver's state set. -/
def setReceiver (r : Receiver) (s : State) : State := { s with trunk.rx := r }

/-- R15 b, R16: a byte gathered in FRAME; g holds it already. -/
def gatherByte (g : Gathering) (s : State) : State :=
  if g.bytes.length = 4 ∧ headerGood g.bytes = false then
    (if g.echo then setReceiver .discard s else badBulletin (setReceiver .discard s))
  else if 4 ≤ g.bytes.length ∧ g.bytes.length = byteAt g.bytes 2 then
    let s1 := setReceiver .discard s
    match bulletinGood g.bytes, g.echo with
    | true, true => takeEcho g.bytes s1
    | false, true => s1
    | true, false => goodBulletin g s1
    | false, false => badBulletin s1
  else setReceiver (.frame g) s

/-- R1, R7: activity on the line makes it busy and abandons a deferral. -/
def lineActivity (s : State) : State :=
  let s1 := { s with trunk.lineFree := false, trunk.lastActivity := s.elapsed }
  if s.trunk.tx = .defer then { s1 with trunk.tx := .waitLine, trunk.txUntil := none } else s1

/-- R15: a byte arrives. -/
def receiveByte (b : Byte) (s : State) : State :=
  let s1 := lineActivity s
  match s.trunk.rx with
  | .listen => gatherByte ⟨[b], s.time.t, s.trunk.tx == .send, false⟩ s1
  | .frame g => gatherByte { g with bytes := g.bytes ++ [b] } s1
  | _ => s1

/-- R15: a collision ends the bulletin being gathered as a fragment. -/
def receiverCollides (s : State) : State :=
  match s.trunk.rx with
  | .frame _ => setReceiver .discard s
  | _ => s

/-- R8, R15: a collision reported to the transmitter and to the receiver. -/
def takeCollision (atByte : Nat) (s : State) : State :=
  let s1 := if s.inRun then receiverCollides (lineActivity s) else s
  match s1.trunk.attempt with
  | none => s1
  | some a => attemptCollides a atByte s1

/-- R15: the receiver when the line becomes free; a bulletin in FRAME is truncated, and bad unless it is an echo. -/
def receiverTakesFree (s : State) : State :=
  match s.trunk.rx with
  | .discard => setReceiver .listen s
  | .frame g => if g.echo then setReceiver .listen s else badBulletin (setReceiver .listen s)
  | _ => s

/-- R1, R7, R15: the line becomes free. -/
def takeLineFree (s : State) : State :=
  let s1 := receiverTakesFree { s with trunk.lineFree := true }
  if s1.trunk.tx = .waitLine then drawDeferral s1 else s1

/-- R1: whether an idle gap has been observed (log 14). -/
def idleGapSeen (s : State) : Bool :=
  s.inRun && !s.trunk.lineFree && s.trunk.attempt.isNone && decide (s.trunk.lastActivity + idleGap ≤ s.elapsed)

end Sys2Proof.Machine
end

