-- ==== Sys2Proof/Machine/Responses.lean ====
section
/-! DEFINITION. The data of the responses, field by field in the order of the host-view rules (R45, R62, R73, R77, R104,
R119, R135, R160, R179, R180, R194). Widths that the manual leaves open are those of log 19; which fields share one
presence byte is log 20. -/

namespace Sys2Proof.Machine

/-- A number in k bytes. -/
def numField (k : Nat) (n : Nat) : List Byte := bytesOf k n

/-- A code in one byte. -/
def codeField (n : Nat) : List Byte := [BitVec.ofNat 8 n]

/-- A stamp or an instant of trunk time, six bytes. -/
def stampField (t : Nat) : List Byte := bytesOf 6 t

/-- A stamp that may be none. -/
def stampedField (t : Option Stamped) : List Byte := optField (fun x => stampField x.stamp) t

/-! ### READ_STATUS -/

def itemRefField (r : ItemRef) : List Byte := codeField r.item ++ codeField r.place

/-- R194 a. -/
def portStatus (s : State) : List Byte :=
  codeField s.port.run.code ++
  optField addrField (if s.inRun then s.cfg.stationAddress else none) ++
  codeField s.port.loopResult.code ++ optField itemRefField s.port.lastRefusal ++
  numField 2 s.port.flags.toNat ++ numField 2 s.port.mask.toNat ++ boolField s.port.attention

def slotField (v : Slot) : List Byte := codeField v.code ++ codeField v.count

/-- R194 b: the slots in the order CLAIM, RAIN, LIMIT, PRESENCE (log 50). -/
def trunkStatus (s : State) : List Byte :=
  let t := s.trunk
  codeField t.standing.code ++ optField (fun c => codeField (CutCause.code c)) t.standing.cause ++
  codeField t.txScore ++ codeField t.rxScore ++ codeField t.tx.code ++
  slotField t.slots.claim ++ slotField t.slots.rain ++ slotField t.slots.limit ++ slotField t.slots.presence

/-- The whole seconds of validity remaining, 0 once the record is not fresh. -/
def LimitRecord.remaining (r : LimitRecord) (now : Nat) : Nat :=
  if r.fresh then secondsLeft now (r.arrival.instant + seconds r.validity) else 0

/-- R45, R194 c. -/
def limitStatus (s : State) : List Byte :=
  optField (fun r => numField 2 r.capacity ++ numField 2 r.validity ++ addrField r.sender ++
    stampField r.arrival.stamp ++ boolField r.fresh ++ numField 2 (r.remaining s.elapsed)) s.peers.limit

/-- R62. -/
def timeStatus (s : State) : List Byte :=
  let t := s.time
  stampField t.t ++ codeField t.clock.code ++ intField 3 t.e ++ codeField t.settleRun ++ codeField t.outlierRun ++
  optField (fun l => addrField l.sender ++ intField 7 l.value ++ codeField l.outcome.code ++
    numField 4 (secondsSince s.elapsed l.taken)) t.lastSample ++
  optField (fun p => codeField (secondsSince s.elapsed p)) t.anchorPref

def gaugeField (g : GaugeChannel) : List Byte :=
  numField 2 g.level ++ codeField g.status.code ++ codeField g.run ++ boolField g.proven ++ numField 2 g.raw.toNat

def digitalField (d : DigitalInput) : List Byte :=
  boolField d.raw ++ optField boolField d.recognised ++ boolField d.candidate.isSome

/-- R77. -/
def inputStatus (s : State) : List Byte :=
  let i := s.input
  gaugeField i.gauges.sewer ++ gaugeField i.gauges.tank ++ gaugeField i.gauges.overflow ++
  digitalField i.digital.rainTip ++ digitalField i.digital.gateOpenLimit ++ digitalField i.digital.gateClosedLimit ++
  digitalField i.digital.spillFloat ++ digitalField i.digital.pumpRunning ++
  codeField i.gateDrive.code ++ boolField i.pumpRun ++ numField 2 i.pumpRate ++ boolField i.lamp

/-- R104. -/
def tankStatus (s : State) : List Byte :=
  let t := s.tank
  numField 2 t.volume ++ numField 2 t.fill ++ boolField t.assumedFull ++ codeField t.state.code ++
  timerField 2 s.elapsed t.releaseTimer ++ boolField t.openDeferred ++
  optField (fun g => codeField (GateState.code g)) t.gate ++ optField (fun d => codeField (GateDir.code d)) t.gateDir ++
  codeField t.retries ++ timerField 2 s.elapsed t.gateTimer ++ codeField t.mode.code ++
  optField (fun d => codeField (GateDir.code d)) t.target

/-- R119 b: the latest sample's head, status, flow and beyond table. -/
def sampleField (sp : Spill) : List Byte :=
  match sp.head, sp.status with
  | some h, some st =>
    1 :: intField 2 h ++ codeField st.code ++ numField 2 sp.flow ++ boolField sp.beyond
  | _, _ => [0]

/-- R119. -/
def spillStatus (s : State) : List Byte :=
  let sp := s.spill
  codeField sp.state.code ++ timerField 2 s.elapsed sp.debounce ++ sampleField sp ++
  boolField sp.levelCond ++ boolField sp.floatCond ++ stampedField sp.onset ++ stampedField sp.subsiding ++
  numField 4 sp.provisional ++ numField 2 sp.remainder ++
  boolField sp.marks.held ++ boolField sp.marks.beyond ++ boolField sp.marks.level ++ numField 4 sp.confirmed

def claimantField (c : Claimant) : List Byte :=
  addrField c.address ++ codeField c.weight ++ numField 2 c.requested ++ numField 2 (c.assigned.getD 0)

/-- R160 c, R183 e; the claimants in the order of `claimantsOf` (log 55), the own assignment between their number and them
(log 56). -/
def computationField (c : Computation) : List Byte :=
  numField 2 c.k0 ++ codeField c.source.code ++ numField 2 c.ka ++ numField 3 c.rs ++ numField 2 c.m ++
  numField 2 c.keff ++ codeField c.claimants.length ++ numField 2 c.own ++ c.claimants.flatMap claimantField

/-- R160. -/
def drainStatus (s : State) : List Byte :=
  let d := s.drain
  numField 2 d.claim.requested ++ numField 2 d.claim.drawn ++ numField 2 d.claim.fill ++ boolField d.claim.spilling ++
  codeField d.claim.weight ++ optField stampField d.claimTarget ++ computationField d.last ++
  numField 2 d.share ++ optField stampField d.shareStamp ++
  numField 2 d.setpoint ++ optField (numField 2) d.lastNonzero ++
  optField (fun p => codeField (PumpState.code p)) d.pump ++ timerField 1 s.elapsed d.pumpTimer ++
  timerField 2 s.elapsed d.restTimer ++ boolField d.restElapsed ++ codeField d.mode.code

/-- R194: the data of READ_STATUS. -/
def statusData (s : State) : List Byte :=
  portStatus s ++ trunkStatus s ++ limitStatus s ++ timeStatus s ++ inputStatus s ++ tankStatus s ++ spillStatus s ++
  drainStatus s ++ codeField s.rain.branch.code

/-! ### READ_PEER (R45) -/

def claimPartField (now : Nat) (c : ClaimPart) : List Byte :=
  numField 2 c.requested ++ numField 2 c.drawn ++ numField 2 c.fill ++ codeField c.weight ++ boolField c.spilling ++
  codeField c.period ++ codeField (if c.fresh then 0 else 1) ++ numField 2 (secondsSince now c.arrival)

def rainPartField (now : Nat) (r : RainPart) : List Byte :=
  codeField r.level.code ++ numField 2 r.short ++ numField 2 r.long ++ numField 2 r.age ++
  numField 2 (secondsSince now r.arrival)

def peerField (now : Nat) (e : PeerEntry) : List Byte :=
  addrField e.address ++ codeField e.hit ++ stampField e.firstHeard ++ stampField e.lastHeard ++
  codeField e.lastClock.code ++ boolField e.lastQuiet ++ optField (claimPartField now) e.claim ++
  optField (rainPartField now) e.rain

/-- R45: the number of entries, and the entry at the index if there is one; neither a present nor an absent entry has a
presence byte (log 52). -/
def peerData (index : Nat) (s : State) : List Byte :=
  let es := s.peers.entries
  codeField es.length ++ match es[index]? with
    | none => []
    | some e => peerField s.elapsed e

/-! ### The Spill Counter's reads (R179, R180) -/

/-- R179: the role of a HOST slot as its byte 0 gives it (1 HEAD, 2 MORE, 3 LAST; log 20); a LOG slot has none. -/
def roleField (l : SpillLog) (k : Nat) : List Byte :=
  optField (fun r => [r]) (if l.ownerOf k = .host then some (Memory.read l.content (32 * k)) else none)

/-- R179: the owner, the 32 bytes and the role, in the rule's order. -/
def slotData (k : Nat) (s : State) : List Byte :=
  let l := s.counter.log
  codeField (l.ownerOf k).code ++ l.slotBytes k ++ roleField l k

def entryField (e : BlockEntry) : List Byte :=
  codeField e.index ++ stampField e.start ++ numField 3 e.seconds ++ numField 2 e.peak

def blockField (b : Block) : List Byte :=
  codeField b.index ++ stampField b.start.stamp ++ boolField b.containsSpill ++ numField 3 (b.credited / 1000) ++
  numField 2 b.peak

/-- R180 a: the current block of an open event; there always is one, and an absent one reads as zeros. -/
def currentField (b : Option Block) : List Byte := blockField (b.getD ⟨0, ⟨0, 0⟩, 0, false, 0, 0⟩)

def eventField (s : State) (ev : SpillEvent) : List Byte :=
  numField 4 ev.number ++ stampField ev.start.stamp ++ numField 2 ev.flags.word ++ codeField ev.entries.length ++
  optField entryField ev.entries.getLast? ++ numField 4 ev.litres ++ numField 4 (s.rain.total - ev.rainAtOpen) ++
  codeField ev.peakAlert.code ++ currentField s.counter.current ++
  optField (fun b => codeField (Block.index b)) s.counter.deferred

/-- R180 a. -/
def openEventData (s : State) : List Byte := optField (eventField s) s.counter.event

/-- R180 b: a pending record's fields in the order of R174's first table, with its slot count; the order and the widths
are log 49. -/
def pendingField (r : SpillRecord) : List Byte :=
  numField 4 r.number ++ stampField r.start ++ stampField r.finish ++ codeField r.entries.length ++
  numField 4 r.seconds ++ numField 3 (min r.volume maxU24) ++ numField 3 (min r.rain maxU24) ++
  codeField r.peak.code ++ numField 2 r.flags.word ++ codeField (slotsNeeded r.entries.length)

/-- R180 b. -/
def pendingData (s : State) : List Byte :=
  codeField s.counter.pendingRecords.length ++ s.counter.pendingRecords.flatMap pendingField

/-- R180 c: the six totals in the order of the table of 10.1 (log 48). -/
def totalsData (s : State) : List Byte :=
  let t := s.counter.totals
  numField 4 t.opened ++ numField 4 t.counted ++ numField 4 t.released ++ numField 4 t.droppedBlocks ++
  numField 4 t.droppedRecords ++ numField 4 t.seconds ++ numField 4 s.counter.eventNumber ++
  codeField s.counter.log.readPos ++ codeField s.counter.log.writePos ++ codeField s.counter.log.free ++
  codeField s.counter.pendingRecords.length

/-! ### READ_RAIN, READ_CAPTURE, READ_EVENTS -/

/-- R135 b: the whole seconds elapsed in the current minute; 0 in CONFIG, where there is none (log 46). -/
def secondsInMinute (s : State) : Nat :=
  match s.rain.nextMinute with
  | none => 0
  | some x => (60000 - (x - s.elapsed)) / 1000

/-- R135. -/
def rainData (s : State) : List Byte :=
  let r := s.rain
  codeField r.bins.length ++ r.bins.map (BitVec.ofNat 8) ++ numField 4 r.minutes ++ codeField (secondsInMinute s) ++
  numField 4 r.total ++ numField 2 r.accepted ++ numField 2 r.rejected ++ stampedField r.lastTip ++
  numField 2 r.short ++ numField 2 r.long ++
  boolField r.condWatch ++ boolField r.condWarning ++ boolField r.condSevere ++ codeField r.own.code ++
  optField (fun x => numField 4 ((s.elapsed - x) / 60000)) r.lastRise ++
  timerField 2 s.elapsed r.hold ++ timerField 2 s.elapsed r.rainRepeat ++ codeField r.branch.code

def captureField (c : Capture) : List Byte := boolField c.captured ++ boolField c.lost ++ stampField c.stamp

/-- R73. -/
def captureData (i : DigitalIn) (s : State) : List Byte :=
  let d := s.input.digital.get i
  captureField d.rising ++ captureField d.falling

/-- R196: two bytes, bit 15 sent as 0. -/
def eventsData (s : State) : List Byte := numField 2 s.port.flags.toNat

end Sys2Proof.Machine
end

