-- ==== Sys2Proof/Machine/LoadItem.lean ====
section
/-! DEFINITION. The configuration items: loading one (R188, the table of 11.3), the checks of COMMIT (R189) and the
values that a COMMIT fixes (R30, R190 a). -/

namespace Sys2Proof.Machine

/-! ### Values (R188) -/

/-- A number, unsigned, in 1, 2 or 4 bytes. -/
def numberValue (v : List Byte) : Option Nat :=
  if v.length = 1 ∨ v.length = 2 ∨ v.length = 4 then some (natOf v) else none

/-- A number within a range. -/
def rangedValue (lo hi : Nat) (v : List Byte) : Option Nat :=
  match numberValue v with
  | none => none
  | some n => if lo ≤ n ∧ n ≤ hi then some n else none

/-- A short intensity window of 5, 10 or 15 minutes (item 43). -/
def windowValue (v : List Byte) : Option Nat :=
  match numberValue v with
  | none => none
  | some n => if n = 5 ∨ n = 10 ∨ n = 15 then some n else none

/-- STATION_ADDRESS: branch, station 1..254. -/
def addressValue (v : List Byte) : Option Addr :=
  if v.length = 2 ∧ 1 ≤ byteAt v 1 ∧ byteAt v 1 ≤ 254 then some (BitVec.ofNat 16 (natOf v)) else none

/-- ACCEPT: value, mask and uses; bits 4 to 7 of the uses are clear. -/
def acceptValue (v : List Byte) : Option AcceptEntry :=
  let u := v.getD 4 0
  if v.length = 5 ∧ u.toNat < 16 then
    some ⟨BitVec.ofNat 16 (fieldAt v 0 2), BitVec.ofNat 16 (fieldAt v 2 2),
      ⟨u.getLsbD 0, u.getLsbD 1, u.getLsbD 2, u.getLsbD 3⟩⟩
  else none

/-- ANCHOR: 0 no, 1 yes. -/
def anchorValue (v : List Byte) : Option Bool :=
  if v.length = 1 ∧ byteAt v 0 ≤ 1 then some (byteAt v 0 == 1) else none

/-- CAPTURE: 0 OFF, 1 SINGLE, 2 CONTINUOUS. -/
def captureValue (v : List Byte) : Option CaptureMode :=
  if v.length = 1 then
    match byteAt v 0 with
    | 0 => some .off
    | 1 => some .single
    | 2 => some .continuous
    | _ => none
  else none

/-- The points of a table, four bytes each. -/
def pointsOf : List Byte → List Point
  | a :: b :: c :: d :: rest => ⟨natOf [a, b], natOf [c, d]⟩ :: pointsOf rest
  | _ => []

/-- STAGE or WEIR: a point count within 2..most, then as many points within the bounds. -/
def tableValue (most xBound yBound : Nat) (v : List Byte) : Option (List Point) :=
  let n := byteAt v 0
  let ps := pointsOf (v.drop 1)
  if v.length = 1 + 4 * n ∧ 2 ≤ n ∧ n ≤ most ∧ ps.all (fun p => decide (p.x ≤ xBound ∧ p.y ≤ yBound)) then some ps
  else none

/-- WEIR: the first head is 0 (R107). -/
def weirValue (v : List Byte) : Option (List Point) :=
  match tableValue 8 20000 20000 v with
  | some (p :: ps) => if p.x = 0 then some (p :: ps) else none
  | _ => none

/-! ### Items -/

/-- An item with one place: the value set if the place is 0 and the value fits. -/
def setOne {α : Type} (k : Nat) (v : Option α) (f : α → Items) : Option Items := if k = 0 then v.map f else none

/-- The gauge channel of a place. -/
def gaugeOf : Nat → Option Gauge
  | 0 => some .sewer
  | 1 => some .tank
  | 2 => some .overflow
  | _ => none

/-- The digital input of a number (5.1). -/
def inputOf : Nat → Option DigitalIn
  | 0 => some .rainTip
  | 1 => some .gateOpenLimit
  | 2 => some .gateClosedLimit
  | 3 => some .spillFloat
  | 4 => some .pumpRunning
  | _ => none

/-- An acceptance entry replaced. -/
def AcceptTable.set (t : AcceptTable) (k : Nat) (e : AcceptEntry) : Option AcceptTable :=
  match k with
  | 0 => some { t with e0 := e }
  | 1 => some { t with e1 := e }
  | 2 => some { t with e2 := e }
  | 3 => some { t with e3 := e }
  | _ => none

/-- The capture mode of an input and an edge, rising 0 and falling 1, replaced (item 17). -/
def setCapture (k : Nat) (m : CaptureMode) (p : PerInput CaptureModes) : Option (PerInput CaptureModes) :=
  match inputOf (k / 2) with
  | none => none
  | some i => some (p.set i (if k % 2 = 0 then { p.get i with rising := m } else { p.get i with falling := m }))

/-- A value set for one gauge channel. -/
def setGauge (k : Nat) (v : Option Nat) (p : PerGauge Nat) : Option (PerGauge Nat) :=
  match gaugeOf k, v with
  | some g, some n => some (p.set g n)
  | _, _ => none

/-- Items 1 to 17 (11.3): the trunk, the clock and the field inputs. -/
def loadLow (item k : Nat) (v : List Byte) (it : Items) : Option Items :=
  match item with
  | 1 => setOne k (addressValue v) fun a => { it with stationAddress := some a }
  | 2 => setOne k (rangedValue 1 15 v) fun n => { it with priorityWeight := n }
  | 3 => setOne k (rangedValue 5 60 v) fun n => { it with claimPeriod := n }
  | 4 => setOne k (rangedValue 50 2000 v) fun n => { it with claimSpacing := n }
  | 5 => setOne k (rangedValue 10 120 v) fun n => { it with presenceInterval := n }
  | 6 => setOne k (rangedValue 60 600 v) fun n => { it with forgetTime := n }
  | 7 => ((acceptValue v).bind (it.accept.set k)).map fun a => { it with accept := a }
  | 8 => setOne k (rangedValue 30 600 v) fun n => { it with cutoffHold := n }
  | 9 => setOne k (rangedValue 0 50 v) fun n => { it with lineDelay := n }
  | 10 => setOne k (rangedValue 0 6 v) fun n => { it with clockDepth := n }
  | 11 => setOne k (rangedValue 1000 60000 v) fun n => { it with stepLimit := n }
  | 12 => setOne k (anchorValue v) fun b => { it with anchor := b }
  | 13 => setOne k (rangedValue 1 10 v) fun n => { it with samplePeriod := n }
  | 14 => (setGauge k (rangedValue 500 10000 v) it.span).map fun p => { it with span := p }
  | 15 => (setGauge k (rangedValue 0 10000 v) it.datum).map fun p => { it with datum := p }
  | 16 => (inputOf k).bind fun i => (rangedValue 10 2000 v).map fun n => { it with filter := it.filter.set i n }
  | 17 => ((captureValue v).bind fun m => setCapture k m it.capture).map fun p => { it with capture := p }
  | _ => none

/-- Items 18 to 35 (11.3): the tank, the gate, the pump and the shares. -/
def loadMiddle (item k : Nat) (v : List Byte) (it : Items) : Option Items :=
  match item with
  | 18 => setOne k (tableValue 12 20000 65535 v) fun ps => { it with stage := ps }
  | 19 => setOne k (rangedValue 0 65535 v) fun n => { it with emptyVolume := n }
  | 20 => setOne k (rangedValue 0 20000 v) fun n => { it with admitLevel := n }
  | 21 => setOne k (rangedValue 0 500 v) fun n => { it with admitHyst := n }
  | 22 => setOne k (rangedValue 60 3600 v) fun n => { it with admitHold := n }
  | 23 => setOne k (rangedValue 0 20000 v) fun n => { it with returnLevel := n }
  | 24 => setOne k (rangedValue 0 500 v) fun n => { it with returnHyst := n }
  | 25 => setOne k (rangedValue 10 600 v) fun n => { it with gateTravel := n }
  | 26 => setOne k (rangedValue 0 7 v) fun n => { it with gateRetries := n }
  | 27 => setOne k (rangedValue 10 5000 v) fun n => { it with pumpMax := n }
  | 28 => setOne k (rangedValue 1 5000 v) fun n => { it with pumpMin := n }
  | 29 => setOne k (rangedValue 5 120 v) fun n => { it with pumpStartTimeout := n }
  | 30 => setOne k (rangedValue 5 120 v) fun n => { it with pumpStopTimeout := n }
  | 31 => setOne k (rangedValue 30 1800 v) fun n => { it with pumpRest := n }
  | 32 => setOne k (rangedValue 0 500 v) fun n => { it with setpointDeadband := n }
  | 33 => setOne k (rangedValue 0 5000 v) fun n => { it with silentAllowance := n }
  | 34 => setOne k (rangedValue 0 20000 v) fun n => { it with fallbackCapacity := n }
  | 35 => setOne k (rangedValue 0 300 v) fun n => { it with margin := n }
  | _ => none

/-- Items 36 to 51 (11.3): the spill, the rain and the counting. -/
def loadHigh (item k : Nat) (v : List Byte) (it : Items) : Option Items :=
  match item with
  | 36 => setOne k (rangedValue 0 20000 v) fun n => { it with crest := n }
  | 37 => setOne k (rangedValue 0 100 v) fun n => { it with spillDeadband := n }
  | 38 => setOne k (rangedValue 10 600 v) fun n => { it with spillStartDebounce := n }
  | 39 => setOne k (rangedValue 60 3600 v) fun n => { it with spillStopDebounce := n }
  | 40 => setOne k (weirValue v) fun ps => { it with weir := ps }
  | 41 => setOne k (rangedValue 1 10 v) fun n => { it with tipDepth := n }
  | 42 => setOne k (rangedValue 1 10 v) fun n => { it with tipMinSpacing := n }
  | 43 => setOne k (windowValue v) fun n => { it with shortWindow := n }
  | 44 => setOne k (rangedValue 0 65535 v) fun n => { it with tWatch := n }
  | 45 => setOne k (rangedValue 0 65535 v) fun n => { it with tWarn := n }
  | 46 => setOne k (rangedValue 0 65535 v) fun n => { it with tSevere := n }
  | 47 => setOne k (rangedValue 10 120 v) fun n => { it with alertHold := n }
  | 48 => setOne k (rangedValue 1 30 v) fun n => { it with rainRepeat := n }
  | 49 => setOne k (rangedValue 5 60 v) fun n => { it with rainLifetime := n }
  | 50 => setOne k (rangedValue 1 24 v) fun n => { it with blockFirst := n }
  | 51 => setOne k (rangedValue 1 48 v) fun n => { it with blockNext := n }
  | _ => none

/-- R188: the items with one value loaded; none where the request is answered BAD_ARGUMENT. -/
def loadValue (item k : Nat) (v : List Byte) (it : Items) : Option Items :=
  if item ≤ 17 then loadLow item k v it
  else if item ≤ 35 then loadMiddle item k v it
  else loadHigh item k v it

/-! ### COMMIT -/

/-- R30: entry 0 as it is derived from the station address. -/
def derivedAccept (a : Addr) : AcceptEntry := ⟨a &&& 0xFF00, 0xFF00, ⟨true, true, true, true⟩⟩

/-- R30: the acceptance entries in force, entry 0 derived while ACCEPT_0 is unloaded. -/
def acceptInForce (loaded : List ItemRef) (it : Items) : AcceptTable :=
  if loaded.contains ⟨7, 0⟩ then it.accept
  else match it.stationAddress with
    | none => it.accept
    | some a => { it.accept with e0 := derivedAccept a }

/-- R190 a: the values that a COMMIT fixes. -/
def itemsToCommit (loaded : List ItemRef) (it : Items) : Items :=
  { it with accept := acceptInForce loaded it, silentAllowance := min it.silentAllowance it.pumpMax }

/-- Whether some acceptance entry is enabled (R29). -/
def AcceptTable.enabled (t : AcceptTable) : Bool := t.e0.uses.any || t.e1.uses.any || t.e2.uses.any || t.e3.uses.any

/-- R189: the first failing item, or none where every check passes. -/
def commitRefusal (loaded : List ItemRef) (it : Items) : Option ItemRef :=
  if it.stationAddress = none then some ⟨1, 0⟩
  else if monotonic it.stage = false then some ⟨18, 0⟩
  else if monotonic it.weir = false then some ⟨40, 0⟩
  else if it.pumpMax < it.pumpMin then some ⟨28, 0⟩
  else if lastY it.stage ≤ it.emptyVolume then some ⟨19, 0⟩
  else if it.tWarn ≤ it.tWatch then some ⟨45, 0⟩
  else if it.tSevere ≤ it.tWarn then some ⟨46, 0⟩
  else if it.admitLevel ≤ it.returnLevel then some ⟨23, 0⟩
  else if (acceptInForce loaded it).enabled = false then some ⟨7, 0⟩
  else none

end Sys2Proof.Machine
end

