-- ==== Sys2Proof/Machine/RunStates.lean ====
section
/-! DEFINITION. Entry to RUN, restart and full reset, block by block: R25, R65, R80, R88, R122, R136, R163 and R190;
R24, R47, R64, R79, R106, R121, R138, R162, R182 and R191; R23 and the other reset rules. -/

namespace Sys2Proof.Machine

/-! ### Entry to RUN -/

/-- R25: the Trunk Interface. -/
def trunkEnters (s : State) : State :=
  queueBody .presence (restartPresence { s with trunk := { s.trunk with
    rx := .discard, lineFree := false, lastActivity := s.elapsed } })

/-- R65, R56: the Time Unit; the first adjust falls one elapsed second after entry. -/
def timeEnters (s : State) : State :=
  let s1 := { s with time.nextAdjust := some (s.elapsed + seconds 1) }
  if s.cfg.anchor then
    (if s.time.clock = .following ∨ s.time.clock = .settled then setClock .unset s1 else s1)
  else if s.time.clock = .anchored then setClock .following { s1 with time.settleRun := 0 }
  else s1

/-- R80 a: a digital input takes its recognised level from its raw level. -/
def DigitalInput.enters (d : DigitalInput) : DigitalInput := { d with recognised := some d.raw, candidate := none }

/-- One function of every digital input. -/
def PerInput.map {α : Type} (f : α → α) (p : PerInput α) : PerInput α :=
  ⟨f p.rainTip, f p.gateOpenLimit, f p.gateClosedLimit, f p.spillFloat, f p.pumpRunning⟩

/-- One function of every gauge channel. -/
def PerGauge.map {α : Type} (f : α → α) (p : PerGauge α) : PerGauge α := ⟨f p.sewer, f p.tank, f p.overflow⟩

/-- R80 a, b: the Input Unit: the recognised levels set and all three channels converted. -/
def inputEnters (counts : GaugeCounts) (s : State) : State :=
  convertGauge .overflow counts.overflow (convertGauge .tank counts.tank (convertGauge .sewer counts.sewer { s with
    input.digital := s.input.digital.map DigitalInput.enters
    input.nextSample := some (s.elapsed + seconds s.cfg.samplePeriod) }))

/-- R163 a to c: the pump state derived, the setpoint 0, the claim timer placed. -/
def pumpEnters (s : State) : State :=
  let s1 := placeClaimTimer (setSetpoint 0 s)
  if s.asserted .pumpRunning then
    { s1 with drain := { s1.drain with
      pump := some .stopping, pumpTimer := some (s.elapsed + seconds s.cfg.pumpStopTimeout) } }
  else
    { s1 with drain := { s1.drain with
      pump := some .stopped, restElapsed := false, restTimer := some (s.elapsed + seconds s.cfg.pumpRest) } }

/-- R88: the gate state derived from the limits; a derived FAULT is notified. -/
def gateEnters (s : State) : State :=
  match gateFromLimits s with
  | .fault => gateFaults s
  | g => { s with tank := { s.tank with gate := some g, gateDir := none, gateTimer := none, retries := 0 } }

/-- R88: the volume of the first sample; a FAILED channel leaves the tank assumed full. -/
def volumeEnters (s : State) : State :=
  if s.tankGauge.usable then measureVolume s
  else { s with tank.volume := lastY s.cfg.stage, tank.fill := 1000, tank.assumedFull := true }

/-- R88: the tank DRY or HOLDING, evaluated once as a sample event, and the target derived. The notice of the change to
the Drain Controller is its own entry, which follows (log 6). -/
def stateEnters (s : State) : State :=
  let t0 : TankState := if s.tank.volume ≤ s.cfg.emptyVolume then .dry else .holding
  let s1 := { s with tank := { s.tank with state := t0, releaseTimer := none, openDeferred := false } }
  let t := (tankDecides true false s1).getD t0
  retarget { s1 with tank := { s1.tank with
    state := t, openDeferred := decide (t = .admitting) && pumpMayDraw s1 } }

/-- R88: the Tank Controller. -/
def tankEntersRun (s : State) : State := stateEnters (volumeEnters (gateEnters s))

/-- R136 a, b, e: the Rain Unit's bins. -/
def rainStarts (s : State) : State :=
  { s with rain := { s.rain with
    bins := [0], minutes := 0, short := 0, long := 0, nextMinute := some (s.elapsed + 60000) } }

/-- R122: the Spill Monitor; its first sample is a spill sample if it enters ONSET (log 40). -/
def spillEnters (s : State) : State :=
  let s1 := measureHead true { s with spill := { s.spill with
    state := .clear, stateInstant := some s.now, floatCond := s.asserted .spillFloat } }
  takeSpillSample .clear 0 (spillEvaluates s.now s1)

/-- R136 c, d: the own alert evaluated and the branch alert formed. -/
def rainEnters (s : State) : State := formBranchAlert (evaluateAlert s)

/-- R163 d to f: the own claim formed, the share computed and a CLAIM queued. -/
def claimEnters (s : State) : State := queueClaim (reformClaim s)

/-- R190 d: every block's entry to RUN, in one order (log 6); at the end the Tank Controller takes the notice of the
Drain Controller's entry, and the lamp is evaluated. -/
def blocksEnter (counts : GaugeCounts) (s : State) : State :=
  let s1 := inputEnters counts (timeEnters (trunkEnters { s with peers := .reset }))
  let s2 := rainStarts (tankEntersRun (pumpEnters s1))
  evaluateLamp (tankTakesDrainNotice (claimEnters (rainEnters (spillEnters s2))))

/-- R190: a COMMIT carried out. -/
def enterRun (counts : GaugeCounts) (s : State) : State :=
  blocksEnter counts { s with port := { s.port with
    run := .run, committed := itemsToCommit s.port.loaded s.port.items, lastRefusal := none } }

/-! ### Restart -/

/-- R24; the line's mark is log 43. -/
def trunkRestarts (s : State) : State :=
  let t := s.trunk
  let s1 := { s with trunk := { t with
    slots := ⟨.empty, .empty, .empty, .empty⟩, txScore := 0, rxScore := 0, standing := .normal
    cutoffHold := none, presence := none, rx := .off, lineFree := false, txUntil := none
    tx := if t.tx = .send then .send else .idle
    attempt := t.attempt.map fun a => { a with disregarded := true } } }
  if t.standing = .normal then s1 else raise .standingChange s1

/-- R64, R56. -/
def timeRestarts (s : State) : State :=
  let s1 := { s with time := { s.time with
    e := 0, settleRun := 0, outlierRun := 0, anchorPref := none, lastSample := none, nextAdjust := none } }
  if s.time.clock = .settled then setClock .following s1 else s1

/-- R79 b: a channel's previous sample instant becomes none. -/
def GaugeChannel.restarts (g : GaugeChannel) : GaugeChannel := { g with previous := none }

/-- R79 c: a candidate is abandoned and the recognised level becomes undetermined. -/
def DigitalInput.restarts (d : DigitalInput) : DigitalInput := { d with recognised := none, candidate := none }

/-- R79. -/
def inputRestarts (s : State) : State :=
  { s with input := { s.input with
    gauges := s.input.gauges.map GaugeChannel.restarts, digital := s.input.digital.map DigitalInput.restarts
    nextSample := none, gateDrive := .off, pumpRun := false, pumpRate := 0, lamp := false } }

/-- R106 c, d: the gate state that a restart leaves. -/
def restGate : Option GateState → Option GateState
  | some .opening => some .stopped
  | some .closing => some .stopped
  | some .retryWait => some .stopped
  | some .reversing => some .stopped
  | g => g

/-- R106. -/
def tankRestarts (s : State) : State :=
  { s with tank := { s.tank with
    state := .off, target := none, releaseTimer := none, openDeferred := false
    gate := restGate s.tank.gate, gateDir := none, gateTimer := none, retries := 0 } }

/-- R121. -/
def spillRestarts (s : State) : State :=
  { s with spill := { s.spill with
    state := .clear, debounce := none, remainder := 0, provisional := 0, onset := none, subsiding := none
    marks := ⟨false, false, false⟩ } }

/-- R138. -/
def rainRestarts (s : State) : State :=
  let s1 := { s with rain := { s.rain with
    bins := [], minutes := 0, nextMinute := none, lastTip := none, short := 0, long := 0
    condWatch := false, condWarning := false, condSevere := false
    own := .clear, lastRise := none, hold := none, rainRepeat := none, branch := .clear } }
  if s.rain.branch = .clear then s1 else raise .alertChange s1

/-- R162, also before the first COMMIT (log 47). -/
def drainRestarts (s : State) : State :=
  { s with drain := { s.drain with
    setpoint := 0, pumpTimer := none, restTimer := none, restElapsed := false, claimTarget := none
    pump := some (if s.input.digital.pumpRunning.raw then .stopping else .stopped)
    claim := { s.drain.claim with requested := 0, drawn := 0, spilling := false }
    last := .reset, share := 0 } }

/-- R191: the Site Port; the attention line follows the flags and the mask. -/
def portRestarts (s : State) : State :=
  { s with port := { s.port.withEvents s.port.flags s.port.mask with
    run := .config, loopTest := none
    loopResult := if s.port.loopResult = .inFlight then .none else s.port.loopResult } }

/-- R191: every block's restart; the Spill Counter's, which reads what others then reset, comes first (log 7). -/
def restartPart (s : State) : State :=
  let s1 := timeRestarts { trunkRestarts (counterRestarts s) with peers := .reset }
  portRestarts (drainRestarts (rainRestarts (spillRestarts (tankRestarts (inputRestarts s1)))))

/-! ### Full reset -/

/-- A digital input after a full reset, its contact as it stands (R78; log 10). -/
def DigitalInput.fullReset (d : DigitalInput) : DigitalInput := { DigitalInput.reset with raw := d.raw }

/-- R23, R46, R63, R78, R105, R120, R137, R161, R181, R191: a full reset. The contacts, the waiting commands and the
free values' counters are not the part's own (log 10). -/
def resetPart (s : State) : State :=
  { State.reset with
    input := { InputUnit.reset with digital := s.input.digital.map DigitalInput.fullReset }
    free := s.free
    pending := s.pending }

end Sys2Proof.Machine
end

