-- ==== Sys2Proof/Machine/SitePort.lean ====
section
/-! DEFINITION. The Site Port: each request's status, data and effect (R187 to R197 and the rules named in 11.2), the
frames (R184, R185) and the loop test (R192). -/

namespace Sys2Proof.Machine

/-- What a request is answered with, and the state that it leaves. -/
structure Answer where
  status : Status
  data   : List Byte
  state  : State

/-- A request answered with no data and no change. -/
def turnedAway (st : Status) (s : State) : Answer := ⟨st, [], s⟩

/-- A request carried out, with no data. -/
def doneWith (s : State) : Answer := ⟨.done, [], s⟩

/-- A request that only reads. -/
def readsOut (data : State → List Byte) (s : State) : Answer := ⟨.done, data s, s⟩

/-- R187: a request that is taken in RUN only. -/
def inRunOnly (f : State → Answer) (s : State) : Answer := if s.inRun then f s else turnedAway .refused s

/-- R187: a request that is taken in CONFIG only. -/
def inConfigOnly (f : State → Answer) (s : State) : Answer := if s.inRun then turnedAway .refused s else f s

/-! ### The requests -/

/-- R188: the loaded mark of an item and its place set. -/
def markLoaded (r : ItemRef) (loaded : List ItemRef) : List ItemRef := if loaded.contains r then loaded else r :: loaded

/-- R188. -/
def reqLoadItem (item place : Nat) (value : List Byte) : State → Answer := inConfigOnly fun s =>
  match loadValue item place value s.port.items with
  | none => turnedAway .badArgument s
  | some it => doneWith { s with port.items := it, port.loaded := markLoaded ⟨item, place⟩ s.port.loaded }

/-- R189, R190. -/
def reqCommit (counts : GaugeCounts) : State → Answer := inConfigOnly fun s =>
  if s.port.loopTest.isSome then turnedAway .busy s
  else match commitRefusal s.port.loaded s.port.items with
    | some r => ⟨.refused, itemRefField r, { s with port.lastRefusal := some r }⟩
    | none => doneWith (enterRun counts s)

/-- R194. -/
def reqReadStatus : State → Answer := readsOut statusData

/-- R45. -/
def reqReadPeer (index : Nat) (s : State) : Answer :=
  if 23 < index then turnedAway .badArgument s else readsOut (peerData index) s

/-- R179. -/
def reqReadLogSlot (slot : Nat) (s : State) : Answer :=
  if 47 < slot then turnedAway .badArgument s else readsOut (slotData slot) s

/-- R177. -/
def reqReleaseRecord (number : Nat) (s : State) : Answer :=
  if s.counter.log.free = 48 then turnedAway .refused s
  else if s.counter.log.oldestNumber ≠ number then turnedAway .badArgument s
  else doneWith (releaseOldest s)

/-- R180. -/
def reqReadOpenEvent : State → Answer := readsOut openEventData
def reqReadPending : State → Answer := readsOut pendingData
def reqReadTotals : State → Answer := readsOut totalsData

/-- R135. -/
def reqReadRain : State → Answer := readsOut rainData

/-- R73. -/
def reqReadCapture (input : Nat) (s : State) : Answer :=
  match inputOf input with
  | none => turnedAway .badArgument s
  | some i => ⟨.done, captureData i s, clearCaptures i s⟩

/-- R196. -/
def reqReadEvents (s : State) : Answer :=
  ⟨.done, eventsData s, { s with port := s.port.withEvents 0 s.port.mask }⟩

/-- R197: bits 0 to 14 become the mask. -/
def reqSetEventMask (mask : BitVec 16) (s : State) : Answer :=
  doneWith { s with port := s.port.withEvents s.port.flags (mask.setWidth 15) }

/-- R59. -/
def reqSetTime (ms : Nat) : State → Answer := inRunOnly fun s =>
  doneWith (stepTime (min maxTime ms) (if s.cfg.anchor then .anchored else .settled) s)

/-- The gate mode of an argument (R101). -/
def gateModeOf : Nat → Option GateMode
  | 0 => some .auto
  | 1 => some .forceOpen
  | 2 => some .forceClosed
  | _ => none

/-- R101: the gate mode set; in RUN the target is derived anew and the gate acts on it. -/
def setGateMode (m : GateMode) (s : State) : State :=
  let s1 := { s with tank.mode := m }
  if s.inRun then afterGate s (retarget s1) else s1

/-- R101. -/
def reqGateMode (mode : Nat) (s : State) : Answer :=
  match gateModeOf mode with
  | none => turnedAway .badArgument s
  | some m => doneWith (setGateMode m s)

/-- The drain mode of an argument (R158). -/
def drainModeOf : Nat → Option DrainMode
  | 0 => some .auto
  | 1 => some .hold
  | _ => none

/-- R158: the drain mode set; the mode already held changes nothing. -/
def setDrainMode (m : DrainMode) (s : State) : State :=
  if m = s.drain.mode then s else if s.inRun then drainModeChanges m s else { s with drain.mode := m }

/-- R158. -/
def reqDrainMode (mode : Nat) (s : State) : Answer :=
  match drainModeOf mode with
  | none => turnedAway .badArgument s
  | some m => doneWith (setDrainMode m s)

/-- R193. -/
def reqSendLimit (capacity validity : Nat) : State → Answer := inRunOnly fun s =>
  let l := clampLimit ⟨capacity, validity⟩
  ⟨.done, numField 2 l.capacity ++ numField 2 l.validity, queueBody (.limit l) s⟩

/-- R21. -/
def reqSilence : State → Answer := inRunOnly fun s => ⟨(silenceRequest s).1, [], (silenceRequest s).2⟩

/-- R22. -/
def reqRejoin : State → Answer := inRunOnly fun s => ⟨(rejoinRequest s).1, [], (rejoinRequest s).2⟩

/-- R102: CLEAR_FAULT with the argument gate. The tank's state machine evaluates the gate state in which the gate's own
action ends, and none before it (log 45). -/
def reqClearFaultGate : State → Answer := inRunOnly fun s =>
  if s.tank.gate = some .fault then doneWith (afterGate s (gateClears s)) else turnedAway .refused s

/-- R157: CLEAR_FAULT with the argument pump. -/
def reqClearFaultPump : State → Answer := inRunOnly fun s =>
  if s.drain.pump = some .fault ∧ ¬ s.asserted .pumpRunning then doneWith (pumpClears s) else turnedAway .refused s

/-- R102, R157, R187: CLEAR_FAULT with any argument. -/
def reqClearFault (object : Nat) : State → Answer :=
  match object with
  | 0 => reqClearFaultGate
  | 1 => reqClearFaultPump
  | _ => inRunOnly (turnedAway .badArgument)

/-- R191. -/
def reqRestart (s : State) : Answer := doneWith (restartPart s)

/-- R192: the PRESENCE that a loop test composes, with the QUIET flag 0. -/
def loopBulletin (a : Addr) (s : State) : List Byte := composeBulletin .presence a s.time.clock false s.time.t

/-- R192 a to c. -/
def reqLoopTest : State → Answer := inConfigOnly fun s =>
  if s.port.loopTest.isSome then turnedAway .busy s
  else match s.port.items.stationAddress with
    | none => turnedAway .refused s
    | some a => doneWith { s with
        port.loopResult := .inFlight, port.loopTest := some ⟨loopBulletin a s, s.elapsed + 100⟩ }

/-- R192: a loop test ends. -/
def endLoopTest (r : LoopResult) (s : State) : State := { s with port.loopResult := r, port.loopTest := none }

/-- R192 d, e: the bulletin has been gathered on the internal path; the path waits for a disregarded attempt (R25). -/
def loopGathered (gathered : List Byte) (s : State) : State :=
  match s.port.loopTest, s.trunk.attempt with
  | some t, none => endLoopTest (if bulletinGood gathered ∧ gathered = t.bulletin then .pass else .fail) s
  | _, _ => s

/-- R192 f. -/
def loopTimeout (s : State) : State :=
  match s.port.loopTest with
  | none => s
  | some t => if t.deadline ≤ s.elapsed then endLoopTest .fail s else s

/-! ### Frames -/

/-- R184: a request answered: its response replaces the held response. -/
def answer (code : Nat) (a : Answer) : State :=
  { a.state with port.heldResponse := responseFrame (BitVec.ofNat 8 code) a.status a.data }

/-- R187: the request of a code with its arguments; `counts` is what the gauges convert to if a COMMIT enters RUN. -/
def takeRequest (counts : GaugeCounts) (code : Nat) (args : List Byte) : State → Answer :=
  match code with
  | 1 => if args.length < 2 then inConfigOnly (turnedAway .badArgument)
         else reqLoadItem (byteAt args 0) (byteAt args 1) (args.drop 2)
  | 2 => reqCommit counts
  | 3 => reqReadStatus
  | 4 => reqReadPeer (byteAt args 0)
  | 5 => reqReadLogSlot (byteAt args 0)
  | 6 => reqReleaseRecord (natOf args)
  | 7 => reqReadOpenEvent
  | 8 => reqReadPending
  | 9 => reqReadTotals
  | 10 => reqReadRain
  | 11 => reqReadCapture (byteAt args 0)
  | 12 => reqReadEvents
  | 13 => reqSetEventMask (BitVec.ofNat 16 (natOf args))
  | 14 => reqSetTime (natOf args)
  | 15 => reqGateMode (byteAt args 0)
  | 16 => reqDrainMode (byteAt args 0)
  | 17 => reqSendLimit (fieldAt args 0 2) (fieldAt args 2 2)
  | 18 => reqSilence
  | 19 => reqRejoin
  | 20 => reqClearFault (byteAt args 0)
  | 21 => reqRestart
  | 22 => reqLoopTest
  | _ => turnedAway .badFrame

/-- R184 b, R185: the gathered bytes checked as a request frame and taken, or answered BAD_FRAME. -/
def takeFrame (gathered : List Byte) (counts : GaugeCounts) (s : State) : State :=
  match parseFrame gathered with
  | none => answer (byteAt gathered 0) (turnedAway .badFrame s)
  | some f => answer f.1 (takeRequest counts f.1 f.2 s)

/-- R184: a transaction closed by the release of select. -/
def takeTransaction (gathered : List Byte) (clocked : Nat) (counts : GaugeCounts) (s : State) : State :=
  let s1 := { s with port.sent := sentBytes s.port.heldResponse clocked }
  if gathered.isEmpty then s1 else takeFrame gathered counts s1

end Sys2Proof.Machine
end

