-- ==== Sys2Proof/Machine/Requests.lean ====
section
/-! DEFINITION. The meanings of the host's commands: the reset, the transaction, each request as a transaction whose
frame passes its check (log 16), and the loop test's ends. -/

namespace Sys2Proof.Machine

/-- The outcome of a command: a next state. -/
abbrev Result := Host.Outcome State Fault Refusal

/-- FULL_RESET. -/
def execFullReset (s : State) : Result := .next (resetPart s)

/-- TRANSACTION (R184). -/
def execTransaction (gathered : List Byte) (clocked : Nat) (counts : GaugeCounts) (s : State) : Result :=
  .next (takeTransaction gathered clocked counts s)

/-- LOAD_ITEM (R188). -/
def execLoadItem (item place : Byte) (value : List Byte) (s : State) : Result :=
  .next (answer 1 (reqLoadItem item.toNat place.toNat value s))

/-- COMMIT (R189, R190). -/
def execCommit (counts : GaugeCounts) (s : State) : Result := .next (answer 2 (reqCommit counts s))

/-- READ_STATUS (R194). -/
def execReadStatus (s : State) : Result := .next (answer 3 (reqReadStatus s))

/-- READ_PEER (R45). -/
def execReadPeer (index : Byte) (s : State) : Result := .next (answer 4 (reqReadPeer index.toNat s))

/-- READ_LOG_SLOT (R179). -/
def execReadLogSlot (slot : Byte) (s : State) : Result := .next (answer 5 (reqReadLogSlot slot.toNat s))

/-- RELEASE_RECORD (R177). -/
def execReleaseRecord (number : BitVec 32) (s : State) : Result :=
  .next (answer 6 (reqReleaseRecord number.toNat s))

/-- READ_OPEN_EVENT (R180). -/
def execReadOpenEvent (s : State) : Result := .next (answer 7 (reqReadOpenEvent s))

/-- READ_PENDING (R180). -/
def execReadPending (s : State) : Result := .next (answer 8 (reqReadPending s))

/-- READ_TOTALS (R180). -/
def execReadTotals (s : State) : Result := .next (answer 9 (reqReadTotals s))

/-- READ_RAIN (R135). -/
def execReadRain (s : State) : Result := .next (answer 10 (reqReadRain s))

/-- READ_CAPTURE (R73). -/
def execReadCapture (input : Byte) (s : State) : Result := .next (answer 11 (reqReadCapture input.toNat s))

/-- READ_EVENTS (R196). -/
def execReadEvents (s : State) : Result := .next (answer 12 (reqReadEvents s))

/-- SET_EVENT_MASK (R197). -/
def execSetEventMask (mask : BitVec 16) (s : State) : Result := .next (answer 13 (reqSetEventMask mask s))

/-- SET_TIME (R59). -/
def execSetTime (ms : BitVec 64) (s : State) : Result := .next (answer 14 (reqSetTime ms.toNat s))

/-- GATE_MODE (R101). -/
def execGateMode (mode : Byte) (s : State) : Result := .next (answer 15 (reqGateMode mode.toNat s))

/-- DRAIN_MODE (R158). -/
def execDrainMode (mode : Byte) (s : State) : Result := .next (answer 16 (reqDrainMode mode.toNat s))

/-- SEND_LIMIT (R193). -/
def execSendLimit (capacity validity : BitVec 16) (s : State) : Result :=
  .next (answer 17 (reqSendLimit capacity.toNat validity.toNat s))

/-- SILENCE (R21). -/
def execSilence (s : State) : Result := .next (answer 18 (reqSilence s))

/-- REJOIN (R22). -/
def execRejoin (s : State) : Result := .next (answer 19 (reqRejoin s))

/-- CLEAR_FAULT with the argument gate (R102). -/
def execClearFaultGate (s : State) : Result := .next (answer 20 (reqClearFaultGate s))

/-- CLEAR_FAULT with the argument pump (R157). -/
def execClearFaultPump (s : State) : Result := .next (answer 20 (reqClearFaultPump s))

/-- RESTART (R191). -/
def execRestart (s : State) : Result := .next (answer 21 (reqRestart s))

/-- LOOP_TEST (R192 a to c). -/
def execLoopTest (s : State) : Result := .next (answer 22 (reqLoopTest s))

/-- LOOP_TEST_GATHERED (R192 d, e). -/
def execLoopTestGathered (gathered : List Byte) (s : State) : Result := .next (loopGathered gathered s)

/-- LOOP_TEST_TIMEOUT (R192 f). -/
def execLoopTestTimeout (s : State) : Result := .next (loopTimeout s)

end Sys2Proof.Machine
end

