-- ==== Sys2Proof/Machine/LineEvents.lean ====
section
/-! DEFINITION. The meanings of the trunk's events and of the ageing of what peers have said. A command of a timer acts
when the timer runs and its expiry has been reached; otherwise it changes nothing (log 1). -/

namespace Sys2Proof.Machine

/-- LINE_FREE (R1, R7, R15). -/
def execLineFree (s : State) : Result := .next (if idleGapSeen s then takeLineFree s else s)

/-- DEFERRAL_EXPIRY (R7, R8). -/
def execDeferralExpiry (s : State) : Result :=
  .next (if s.trunk.tx = .defer ∧ s.due s.trunk.txUntil then beginAttempt s else s)

/-- COLLISION (R8 to R10, R15). -/
def execCollision (atByte : Nat) (s : State) : Result := .next (takeCollision atByte s)

/-- LAST_BYTE_DRIVEN (R8, R11, R12), at the earliest when the bulletin's byte-times have passed (R1, log 1, log 2). The
byte driven is activity on the line (R1). -/
def execLastByteDriven (s : State) : Result :=
  .next (match s.trunk.attempt with
    | none => s
    | some a => if a.driven s.elapsed then attemptEnds a { s with trunk.lastActivity := s.elapsed } else s)

/-- BACKOFF_EXPIRY (R14). -/
def execBackoffExpiry (s : State) : Result :=
  .next (if s.trunk.tx = .backoff ∧ s.due s.trunk.txUntil then transmitterRests s else s)

/-- BYTE_RECEIVED (R15); in CONFIG the line is not heard (R25). -/
def execByteReceived (b : Byte) (s : State) : Result := .next (if s.inRun then receiveByte b s else s)

/-- PRESENCE_INTERVAL_EXPIRY (R6). -/
def execPresenceIntervalExpiry (s : State) : Result :=
  .next (if s.due s.trunk.presence then queueBody .presence (restartPresence s) else s)

/-- CUTOFF_HOLD_EXPIRY (R20). -/
def execCutoffHoldExpiry (s : State) : Result := .next (if s.due s.trunk.cutoffHold then holdElapses s else s)

/-- CLAIM_PART_STALE (R36). -/
def execClaimPartStale (peer : Addr) (s : State) : Result :=
  .next (match claimPartAt peer s with
    | none => s
    | some c => if c.staleDue s.elapsed then claimGoesStale peer s else s)

/-- CLAIM_PART_REMOVED (R36, R39). -/
def execClaimPartRemoved (peer : Addr) (s : State) : Result :=
  .next (match claimPartAt peer s with
    | none => s
    | some c => if c.removalDue s.elapsed then claimGoes peer s else s)

/-- RAIN_LIFETIME_EXPIRY (R38, R39). -/
def execRainLifetimeExpiry (peer : Addr) (s : State) : Result := .next (if rainDue peer s then rainGoes peer s else s)

/-- FORGET_TIME_EXPIRY (R39). -/
def execForgetTimeExpiry (peer : Addr) (s : State) : Result := .next (forgetEntry peer s)

/-- LIMIT_VALIDITY_EXPIRY (R43). -/
def execLimitValidityExpiry (s : State) : Result := .next (if limitDue s then limitLapses s else s)

end Sys2Proof.Machine
end

