-- ==== Sys2Proof/Machine/TimerEvents.lean ====
section
/-! DEFINITION. The meanings of the oscillator's, the field's and the remaining timers' events. A command of a timer acts
when the timer runs and its expiry has been reached; otherwise it changes nothing (log 1). -/

namespace Sys2Proof.Machine

/-- ANCHOR_PREFERENCE_LAPSE (R51). -/
def execAnchorPreferenceLapse (s : State) : Result :=
  .next (if s.due (s.time.anchorPref.map (· + seconds 60)) then { s with time.anchorPref := none } else s)

/-- TRUNK_TIME_TICK (R48). -/
def execTrunkTimeTick (s : State) : Result := .next (advanceTime s)

/-- ADJUST (R56, R57): taken before the tick that ends the elapsed second (log 15). -/
def execAdjust (s : State) : Result :=
  .next (match s.time.nextAdjust with
    | none => s
    | some x => if x ≤ s.elapsed + 1 then makeAdjust s else s)

/-- SAMPLE (R66 to R69). -/
def execSample (counts : GaugeCounts) (s : State) : Result :=
  .next (if s.due s.input.nextSample then takeSample counts s else s)

/-- RAW_TRANSITION (R70 a, b). -/
def execRawTransition (input : DigitalIn) (asserted : Bool) (s : State) : Result :=
  .next (setInput input (contactMoves asserted s.now (s.input.digital.get input)) s)

/-- FILTER_EXPIRY (R70 c, R71, R72). -/
def execFilterExpiry (input : DigitalIn) (s : State) : Result :=
  .next (match filterDue input s with
    | none => s
    | some e => takeEdge input e s)

/-- RELEASE_TIMER_EXPIRY (R85, R90). -/
def execReleaseTimerExpiry (s : State) : Result := .next (if s.due s.tank.releaseTimer then releaseExpires s else s)

/-- Whether the gate is travelling. -/
def travelling (s : State) : Bool := s.tank.gate == some .opening || s.tank.gate == some .closing

/-- GATE_TRAVEL_EXPIRY (R97). -/
def execGateTravelExpiry (s : State) : Result :=
  .next (if travelling s ∧ s.due s.tank.gateTimer then afterGate s (travelExpires s) else s)

/-- RETRY_WAIT_EXPIRY (R97). -/
def execRetryWaitExpiry (s : State) : Result :=
  .next (if s.tank.gate = some .retryWait ∧ s.due s.tank.gateTimer then afterGate s (retryWaitExpires s) else s)

/-- REVERSAL_PAUSE_EXPIRY (R98). -/
def execReversalPauseExpiry (s : State) : Result :=
  .next (if s.tank.gate = some .reversing ∧ s.due s.tank.gateTimer then afterGate s (pauseExpires s) else s)

/-- START_DEBOUNCE_EXPIRY (R112 a). -/
def execStartDebounceExpiry (s : State) : Result :=
  .next (if s.spill.state = .onset ∧ s.due s.spill.debounce then confirmSpill s else s)

/-- STOP_DEBOUNCE_EXPIRY (R113 c). -/
def execStopDebounceExpiry (s : State) : Result :=
  .next (if s.spill.state = .subsiding ∧ s.due s.spill.debounce then endSpill s else s)

/-- MINUTE_END (R125). -/
def execMinuteEnd (s : State) : Result := .next (if s.due s.rain.nextMinute then minuteEnds s else s)

/-- ALERT_HOLD_EXPIRY (R130). -/
def execAlertHoldExpiry (s : State) : Result := .next (if s.due s.rain.hold then holdExpires s else s)

/-- RAIN_REPEAT_EXPIRY (R132). -/
def execRainRepeatExpiry (s : State) : Result := .next (if s.due s.rain.rainRepeat then repeatExpires s else s)

/-- CLAIM_TIMER_EXPIRY (R141; log 32). -/
def execClaimTimerExpiry (s : State) : Result := .next (if claimTimerDue s then claimTimerExpires s else s)

/-- START_TIMEOUT_EXPIRY (R152 b). -/
def execStartTimeoutExpiry (s : State) : Result :=
  .next (if s.drain.pump = some .starting ∧ s.due s.drain.pumpTimer then pumpTimeout s else s)

/-- STOP_TIMEOUT_EXPIRY (R154 b). -/
def execStopTimeoutExpiry (s : State) : Result :=
  .next (if s.drain.pump = some .stopping ∧ s.due s.drain.pumpTimer then pumpTimeout s else s)

/-- REST_TIMER_EXPIRY (R155 a). -/
def execRestTimerExpiry (s : State) : Result := .next (if s.due s.drain.restTimer then restExpires s else s)

/-- BLOCK_NOMINAL_END (R166). -/
def execBlockNominalEnd (s : State) : Result := .next (blockNominalEnd s)

end Sys2Proof.Machine
end

