-- ==== Sys2Proof/Machine/Dispatch.lean ====
section
/-! DEFINITION. Which meaning each command has. -/

namespace Sys2Proof.Machine

/-- The effect of a command on everything but the queue. -/
def exec (i : Instr) (s : State) : Host.Outcome State Fault Refusal :=
  match i with
  | .fullReset => Sys2Proof.Machine.execFullReset s
  | .transaction gathered clocked counts => Sys2Proof.Machine.execTransaction gathered clocked counts s
  | .loadItem item place value => Sys2Proof.Machine.execLoadItem item place value s
  | .commit counts => Sys2Proof.Machine.execCommit counts s
  | .readStatus => Sys2Proof.Machine.execReadStatus s
  | .readPeer index => Sys2Proof.Machine.execReadPeer index s
  | .readLogSlot slot => Sys2Proof.Machine.execReadLogSlot slot s
  | .releaseRecord number => Sys2Proof.Machine.execReleaseRecord number s
  | .readOpenEvent => Sys2Proof.Machine.execReadOpenEvent s
  | .readPending => Sys2Proof.Machine.execReadPending s
  | .readTotals => Sys2Proof.Machine.execReadTotals s
  | .readRain => Sys2Proof.Machine.execReadRain s
  | .readCapture input => Sys2Proof.Machine.execReadCapture input s
  | .readEvents => Sys2Proof.Machine.execReadEvents s
  | .setEventMask mask => Sys2Proof.Machine.execSetEventMask mask s
  | .setTime ms => Sys2Proof.Machine.execSetTime ms s
  | .gateMode mode => Sys2Proof.Machine.execGateMode mode s
  | .drainMode mode => Sys2Proof.Machine.execDrainMode mode s
  | .sendLimit capacity validity => Sys2Proof.Machine.execSendLimit capacity validity s
  | .silence => Sys2Proof.Machine.execSilence s
  | .rejoin => Sys2Proof.Machine.execRejoin s
  | .clearFaultGate => Sys2Proof.Machine.execClearFaultGate s
  | .clearFaultPump => Sys2Proof.Machine.execClearFaultPump s
  | .restart => Sys2Proof.Machine.execRestart s
  | .loopTest => Sys2Proof.Machine.execLoopTest s
  | .loopTestGathered gathered => Sys2Proof.Machine.execLoopTestGathered gathered s
  | .loopTestTimeout => Sys2Proof.Machine.execLoopTestTimeout s
  | .lineFree => Sys2Proof.Machine.execLineFree s
  | .deferralExpiry => Sys2Proof.Machine.execDeferralExpiry s
  | .collision atByte => Sys2Proof.Machine.execCollision atByte s
  | .lastByteDriven => Sys2Proof.Machine.execLastByteDriven s
  | .backoffExpiry => Sys2Proof.Machine.execBackoffExpiry s
  | .byteReceived b => Sys2Proof.Machine.execByteReceived b s
  | .presenceIntervalExpiry => Sys2Proof.Machine.execPresenceIntervalExpiry s
  | .cutoffHoldExpiry => Sys2Proof.Machine.execCutoffHoldExpiry s
  | .claimPartStale peer => Sys2Proof.Machine.execClaimPartStale peer s
  | .claimPartRemoved peer => Sys2Proof.Machine.execClaimPartRemoved peer s
  | .rainLifetimeExpiry peer => Sys2Proof.Machine.execRainLifetimeExpiry peer s
  | .forgetTimeExpiry peer => Sys2Proof.Machine.execForgetTimeExpiry peer s
  | .limitValidityExpiry => Sys2Proof.Machine.execLimitValidityExpiry s
  | .anchorPreferenceLapse => Sys2Proof.Machine.execAnchorPreferenceLapse s
  | .trunkTimeTick => Sys2Proof.Machine.execTrunkTimeTick s
  | .adjust => Sys2Proof.Machine.execAdjust s
  | .sample counts => Sys2Proof.Machine.execSample counts s
  | .rawTransition input asserted => Sys2Proof.Machine.execRawTransition input asserted s
  | .filterExpiry input => Sys2Proof.Machine.execFilterExpiry input s
  | .releaseTimerExpiry => Sys2Proof.Machine.execReleaseTimerExpiry s
  | .gateTravelExpiry => Sys2Proof.Machine.execGateTravelExpiry s
  | .retryWaitExpiry => Sys2Proof.Machine.execRetryWaitExpiry s
  | .reversalPauseExpiry => Sys2Proof.Machine.execReversalPauseExpiry s
  | .startDebounceExpiry => Sys2Proof.Machine.execStartDebounceExpiry s
  | .stopDebounceExpiry => Sys2Proof.Machine.execStopDebounceExpiry s
  | .minuteEnd => Sys2Proof.Machine.execMinuteEnd s
  | .alertHoldExpiry => Sys2Proof.Machine.execAlertHoldExpiry s
  | .rainRepeatExpiry => Sys2Proof.Machine.execRainRepeatExpiry s
  | .claimTimerExpiry => Sys2Proof.Machine.execClaimTimerExpiry s
  | .startTimeoutExpiry => Sys2Proof.Machine.execStartTimeoutExpiry s
  | .stopTimeoutExpiry => Sys2Proof.Machine.execStopTimeoutExpiry s
  | .restTimerExpiry => Sys2Proof.Machine.execRestTimerExpiry s
  | .blockNominalEnd => Sys2Proof.Machine.execBlockNominalEnd s

end Sys2Proof.Machine
end

