-- ==== Sys2Proof/Safety.lean ====
section
/-! DEFINITION. What claims are stated in: what counts as a safe run, the invariants that the manual gives the part, and
the masks that say what a command leaves alone. -/

namespace Sys2Proof.Machine

/-! ### A safe step -/

/-- A step is safe where the part goes on: no fault and no refusal. -/
def safeStep (s : State) : Prop := ∃ t, step s = .next t

/-- A command completes: exec answers a next state, and a fact holds of it. -/
def completes (c : Instr) (s : State) (P : State → Prop) : Prop := ∃ t, exec c s = .next t ∧ P t

/-! ### Masks: two states agree outside what a group of blocks owns -/

/-- All but what the Drain Controller may change: the queued bulletins and the transmitter's wait, its own state, the
pump drives, and the free values' counters. -/
def outsideDrain (s : State) : State :=
  { s with
    trunk := { s.trunk with slots := ⟨.empty, .empty, .empty, .empty⟩, tx := .idle, txUntil := none }
    drain := .reset
    input := { s.input with pumpRun := false, pumpRate := 0 }
    free := ⟨0, 0, 0⟩ }

/-- All but what the Tank Controller may change as well: its own state and the gate drive. -/
def outsideTank (s : State) : State :=
  { outsideDrain s with
    input := { s.input with pumpRun := false, pumpRate := 0, gateDrive := .off }
    tank := .reset }

/-- All but what the Rain Unit and the Spill Counter may change as well: their own states, the lamp, and the event flags
with the attention line. -/
def outsideControl (s : State) : State :=
  { outsideTank s with
    input := { s.input with pumpRun := false, pumpRate := 0, gateDrive := .off, lamp := false }
    rain := .reset, counter := .reset
    port := { s.port with flags := 0, attention := false } }

/-- The elapsed time, the queue, and the Site Port without its flags and its attention line. -/
def outsideBlocks (s : State) : State :=
  { State.reset with
    elapsed := s.elapsed, port := { s.port with flags := 0, attention := false }, pending := s.pending }

/-! ### What a response says -/

/-- The held response answers the request of a code with a status and data (R183, R184). -/
def answered (code : Nat) (st : Status) (data : List Byte) (t : State) : Prop :=
  t.port.heldResponse = responseFrame (BitVec.ofNat 8 code) st data

/-- A request answered with a status and data, and nothing else changed. -/
def onlyAnswered (code : Nat) (st : Status) (data : List Byte) (s : State) : State :=
  { s with port.heldResponse := responseFrame (BitVec.ofNat 8 code) st data }

/-! ### The encodings of response fields (R183 a to c) -/

/-- R183 a. -/
def flagByte (b : Bool) : List Byte := [if b then 1 else 0]

/-- R183 b: the code of a named value, its place in the list that names it, counted from 0. -/
def codeIn {α : Type} [DecidableEq α] (names : List α) (x : α) : List Byte := [BitVec.ofNat 8 (names.idxOf x)]

/-- R183 c: a presence byte, and the value where there is one. -/
def present {α : Type} (x : Option α) (field : α → List Byte) : List Byte :=
  match x with
  | none => [0]
  | some a => 1 :: field a

/-- Whether a timer runs, and its whole seconds remaining in k bytes. -/
def remaining (k : Nat) (s : State) (timer : Option Nat) : List Byte :=
  present timer fun x => bytesOf k ((x - s.elapsed) / 1000)

/-! ### What the trunk's commands leave -/

/-- R1, R7: line activity at the present instant, in RUN. -/
def lineHeard (s : State) : State :=
  { s with trunk := { s.trunk with
    lineFree := false, lastActivity := s.elapsed
    tx := if s.trunk.tx = .defer then .waitLine else s.trunk.tx
    txUntil := if s.trunk.tx = .defer then none else s.trunk.txUntil } }

/-- What a failed attempt of a slot of kind k leaves, its body b the n-th time tried and `next` queued behind it, when the
failure itself scores `score` (R4, R9, R10, R12 to R14, R19). A CLAIM that the notice of a changed standing queues may
have become the next content of a CLAIM's slot. -/
def attemptFailed (k : Kind) (b : Body) (n : Nat) (next : Option Body) (score : Nat) (s t : State) : Prop :=
  t.trunk.attempt = none ∧ t.trunk.rxScore = s.trunk.rxScore ∧
  (n + 1 < 12 → t.trunk.txScore = min 200 (s.trunk.txScore + score) ∧
    ∃ b', t.trunk.slots.get k = .waiting b' (n + 1) ∧
      (k ≠ .claim ∨ t.trunk.standing = s.trunk.standing → b' = next.getD b)) ∧
  (n + 1 = 12 → t.trunk.txScore = min 200 (s.trunk.txScore + score + 20) ∧ t.trunk.slots.get k = .empty) ∧
  (∀ j : Kind, j ≠ k → j ≠ .claim → t.trunk.slots.get j = s.trunk.slots.get j) ∧
  (s.trunk.standing.silent = false → t.trunk.standing = .cutOff .score →
    t.trunk.cutoffHold = some (s.elapsed + 1000 * s.cfg.cutoffHold)) ∧
  (t.trunk.standing.silent = true → t.trunk.tx = .idle ∧ t.trunk.txUntil = none) ∧
  (t.trunk.standing.silent = false → t.trunk.tx = .backoff ∧
    ∃ m, m < 2 ^ min (n + 1) 5 ∧ t.trunk.txUntil = some (s.elapsed + m * 25 / 3))

/-- What the end of an attempt that R24 disregards leaves (R24, R25 c): no score and no slot changed, the transmitter
IDLE, or in RUN with an eligible slot waiting for the line. -/
def disregardedEnds (s t : State) : Prop :=
  t = { s with
    trunk := { s.trunk with attempt := none, tx := t.trunk.tx, txUntil := t.trunk.txUntil }, free := t.free } ∧
  (s.inRun = false ∨ s.trunk.firstEligible = none → t.trunk.tx = .idle ∧ t.trunk.txUntil = none ∧ t.free = s.free) ∧
  (s.inRun = true → s.trunk.firstEligible ≠ none → s.trunk.lineFree = false →
    t.trunk.tx = .waitLine ∧ t.trunk.txUntil = none ∧ t.free = s.free) ∧
  (s.inRun = true → s.trunk.firstEligible ≠ none → s.trunk.lineFree = true →
    t.trunk.tx = .defer ∧ ∃ n, n < 4 ∧ t.trunk.txUntil = some (s.elapsed + n * 25 / 3))

/-- R19: standing is the one that the two scores give, but in CUT_OFF and SILENCED, which stay; STANDING_CHANGE is raised by
a change of standing or of its cause, and its flag otherwise stays. -/
def standingFollows (s t : State) : Prop :=
  (s.trunk.standing.silent = true → t.trunk.standing = s.trunk.standing) ∧
  (s.trunk.standing.silent = false → t.trunk.standing =
    if 200 ≤ t.trunk.txScore then .cutOff .score else if 100 ≤ t.trunk.txScore then .quiet
      else if 40 ≤ t.trunk.txScore ∨ 40 ≤ t.trunk.rxScore then .warned else .normal) ∧
  (t.port.flags.getLsbD 6 = true ↔ s.port.flags.getLsbD 6 = true ∨ t.trunk.standing ≠ s.trunk.standing)

/-- R41: LIMIT_CHANGE is raised by a LIMIT of a capacity where the record is absent, not fresh or of another capacity, and
its flag otherwise stays. -/
def limitFlagged (capacity : Option Nat) (s t : State) : Prop :=
  t.port.flags.getLsbD 9 = true ↔ s.port.flags.getLsbD 9 = true ∨
    ∃ c, capacity = some c ∧ ∀ r, s.peers.limit = some r → r.fresh = false ∨ r.capacity ≠ c

/-! ### What the notices between the blocks leave -/

/-- R143, R149: the share computation has run on the peer table, the branch alert and the standing that an event leaves. This
is said where the tank and the pump keep their states, since a change of those has further runs. -/
def shareFollows (s t : State) : Prop :=
  t.tank.state = s.tank.state → t.drain.pump = s.drain.pump →
  ∀ u : State, u = runShare { s with
      peers := t.peers, rain.branch := t.rain.branch, trunk.standing := t.trunk.standing } →
    t.drain.last = u.drain.last ∧ t.drain.share = u.drain.share ∧ t.drain.shareStamp = u.drain.shareStamp

/-- R139, R140: the own claim is formed as the other blocks stand, and a changed requested rate or urgency has queued a CLAIM
that carries it. -/
def claimReformed (s t : State) : Prop :=
  t.drain.claim =
    { requested := if (t.tank.state = .holding ∨ t.tank.state = .draining) ∧ t.drain.mode = .auto ∧
        t.drain.pump ≠ some .fault ∧ t.tankGauge.status ≠ .failed then t.cfg.pumpMax else 0
      drawn := match t.drain.pump with
        | some .starting => t.drain.setpoint
        | some .running => t.drain.setpoint
        | some .stopping => t.drain.lastNonzero.getD t.cfg.pumpMax
        | some .fault => if t.asserted .pumpRunning then t.drain.lastNonzero.getD t.cfg.pumpMax else 0
        | _ => 0
      fill := t.tank.fill, spilling := decide (t.spill.state = .spilling ∨ t.spill.state = .subsiding)
      weight := t.cfg.priorityWeight } ∧
  (t.drain.claim.requested ≠ s.drain.claim.requested ∨ t.drain.claim.spilling ≠ s.drain.claim.spilling →
    ∃ c : ClaimBody, c.requested = t.drain.claim.requested ∧ c.urgency = (if t.drain.claim.spilling then 1 else 0) ∧
      c.weight = t.cfg.priorityWeight ∧ c.period = t.cfg.claimPeriod ∧
      t.trunk.slots.claim = s.trunk.slots.claim.queue (.claim c))

/-- R85: the release timer in ADMITTING after a sample event or a notice of the branch alert, by the SEWER channel and the
branch alert as they then stand. In the band between the two conditions it is left as it was (log 21). -/
def releaseFollows (s t : State) : Prop :=
  ∀ admits low : Bool,
    (admits = true ↔ (t.sewer.status ≠ .failed ∧ t.cfg.admitLevel ≤ t.sewer.level) ∨
      t.rain.branch = .warning ∨ t.rain.branch = .severe) →
    (low = true ↔ t.sewer.status = .failed ∨ t.sewer.level + t.cfg.admitHyst ≤ t.cfg.admitLevel) →
    t.tank.releaseTimer =
      if admits then none
      else if low = true ∧ s.tank.releaseTimer = none then some (s.elapsed + 1000 * s.cfg.admitHold)
      else s.tank.releaseTimer

/-- R134, R84, R85, R90: what a change of the branch alert leaves at the Site Port, the Drain Controller and the Tank
Controller. -/
def alertNotified (s t : State) : Prop :=
  t.rain.branch ≠ s.rain.branch →
    t.port.flags.getLsbD 5 = true ∧ shareFollows s t ∧
    (s.tank.state = .admitting → t.tank.state = .admitting ∧ releaseFollows s t) ∧
    (t.rain.branch = .warning ∨ t.rain.branch = .severe → s.tank.state ∈ [.dry, .holding, .draining] →
      t.tank.state = .admitting ∧ t.tank.releaseTimer = none ∧
      (t.tank.openDeferred = true ↔ s.drain.pump ∈ [some .starting, some .running, some .stopping]))

/-- R90, R93, R94, R95: what a notice that the pump is STOPPED or FAULT leaves of a deferred open command. -/
def deferralEnds (s t : State) : Prop :=
  s.tank.state = .admitting → s.tank.openDeferred = true →
    t.tank.state = .admitting ∧ t.tank.openDeferred = false ∧ t.tank.releaseTimer = s.tank.releaseTimer ∧
    (s.tank.mode = .auto → t.tank.target = some .toOpen ∧
      (s.tank.target = some .toClose → s.tank.gate = some .closed → s.asserted .gateOpenLimit = false →
        t.tank.gate = some .opening ∧ t.tank.gateDir = some .toOpen ∧ t.tank.retries = 0 ∧
        t.tank.gateTimer = some (s.elapsed + 1000 * s.cfg.gateTravel) ∧ t.input.gateDrive = .driveOpen))

/-! ### What the field leaves -/

/-- R110 to R113: the Spill Monitor after its combined condition c has been evaluated, a change of it dated `change`. -/
def spillAfter (s : State) (c : Bool) (change : Stamped) (p : Spill) : Spill :=
  match p.state, c with
  | .clear, true => { p with
      state := .onset, onset := some change, stateInstant := some change, subsiding := none
      debounce := some (change.instant + 1000 * s.cfg.spillStartDebounce)
      remainder := 0, provisional := 0, marks := ⟨false, false, false⟩ }
  | .onset, false => { p with
      state := .clear, onset := none, stateInstant := some change, debounce := none
      remainder := 0, provisional := 0, marks := ⟨false, false, false⟩ }
  | .spilling, false => { p with
      state := .subsiding, subsiding := some change, stateInstant := some change
      debounce := some (change.instant + 1000 * s.cfg.spillStopDebounce) }
  | .subsiding, true => { p with
      state := .spilling, subsiding := none, stateInstant := some change, debounce := none }
  | _, _ => p

/-- R127 to R129, R131 to R133: what an evaluation of the own alert leaves. A rise is noted and its RAIN queued, the hold
stops and the branch alert is formed; without one the alerts stay and the hold follows the condition. -/
def alertEvaluated (s t : State) : Prop :=
  t.rain.own = (if s.rain.own.code < t.rain.targetLevel.code then t.rain.targetLevel else s.rain.own) ∧
  (s.rain.own.code < t.rain.targetLevel.code →
    t.rain.lastRise = some s.elapsed ∧ t.rain.hold = none ∧
    t.rain.rainRepeat = some (s.elapsed + 60000 * s.cfg.rainRepeat) ∧
    t.trunk.slots.rain = s.trunk.slots.rain.queue (.rain ⟨t.rain.own.code, t.rain.short, t.rain.long, 0⟩) ∧
    t.rain.own.code ≤ t.rain.branch.code ∧
    (∀ e ∈ s.peers.entries, ∀ p, e.rain = some p → p.level.code ≤ t.rain.branch.code) ∧
    (t.rain.branch = t.rain.own ∨ ∃ e ∈ s.peers.entries, ∃ p, e.rain = some p ∧ p.level = t.rain.branch) ∧
    (t.rain.branch ≠ s.rain.branch → t.port.flags.getLsbD 5 = true)) ∧
  (¬ s.rain.own.code < t.rain.targetLevel.code →
    t.rain.lastRise = s.rain.lastRise ∧ t.rain.rainRepeat = s.rain.rainRepeat ∧
    t.trunk.slots.rain = s.trunk.slots.rain ∧ t.rain.branch = s.rain.branch ∧
    t.rain.hold = (if t.rain.condition t.rain.own then none
      else if s.rain.hold = none then some (s.elapsed + 60000 * s.cfg.alertHold) else s.rain.hold))

/-- R67, R68: a gauge channel after a conversion to a count at an instant. -/
def converted (datum span instant : Nat) (count : BitVec 12) (c : GaugeChannel) : GaugeChannel :=
  if 600 ≤ count.toNat ∧ count.toNat ≤ 3800 then
    { level := datum + (count.toNat - 600) * span / 3200, status := .good, run := 0, proven := true, raw := count
      previous := some instant }
  else
    { level := c.level, status := if c.proven = true ∧ c.run + 1 ≤ 2 then .held else .failed
      run := min 255 (c.run + 1), proven := c.proven, raw := count, previous := some instant }

/-! ### The requests as frames (11.2) -/

/-- The code and the argument bytes of each request that is a command (the table of 11.2; R188, R183). -/
def requestOf : Instr → Option (Nat × List Byte)
  | .loadItem item place value => some (1, item :: place :: value)
  | .commit _ => some (2, [])
  | .readStatus => some (3, [])
  | .readPeer index => some (4, [index])
  | .readLogSlot slot => some (5, [slot])
  | .releaseRecord number => some (6, bytesOf 4 number.toNat)
  | .readOpenEvent => some (7, [])
  | .readPending => some (8, [])
  | .readTotals => some (9, [])
  | .readRain => some (10, [])
  | .readCapture input => some (11, [input])
  | .readEvents => some (12, [])
  | .setEventMask mask => some (13, bytesOf 2 mask.toNat)
  | .setTime ms => some (14, bytesOf 8 ms.toNat)
  | .gateMode mode => some (15, [mode])
  | .drainMode mode => some (16, [mode])
  | .sendLimit capacity validity => some (17, bytesOf 2 capacity.toNat ++ bytesOf 2 validity.toNat)
  | .silence => some (18, [])
  | .rejoin => some (19, [])
  | .clearFaultGate => some (20, [0])
  | .clearFaultPump => some (20, [1])
  | .restart => some (21, [])
  | .loopTest => some (22, [])
  | _ => none

/-- The argument length of each request but LOAD_ITEM (the table of 11.2). -/
def argumentTable : List (Nat × Nat) :=
  [(2, 0), (3, 0), (4, 1), (5, 1), (6, 4), (7, 0), (8, 0), (9, 0), (10, 0), (11, 1), (12, 0), (13, 2), (14, 8), (15, 1),
   (16, 1), (17, 4), (18, 0), (19, 0), (20, 1), (21, 0), (22, 0)]

/-! ### The configuration table (11.3) -/

/-- An item that is a number with one place: its number, its range and its value. -/
structure NumberItem where
  item : Nat
  low  : Nat
  high : Nat
  get  : Items → Nat

/-- The items of 11.3 that are numbers with one place and a plain range. -/
def numberItems : List NumberItem :=
  [⟨2, 1, 15, Items.priorityWeight⟩, ⟨3, 5, 60, Items.claimPeriod⟩, ⟨4, 50, 2000, Items.claimSpacing⟩,
   ⟨5, 10, 120, Items.presenceInterval⟩, ⟨6, 60, 600, Items.forgetTime⟩, ⟨8, 30, 600, Items.cutoffHold⟩,
   ⟨9, 0, 50, Items.lineDelay⟩, ⟨10, 0, 6, Items.clockDepth⟩, ⟨11, 1000, 60000, Items.stepLimit⟩,
   ⟨13, 1, 10, Items.samplePeriod⟩, ⟨19, 0, 65535, Items.emptyVolume⟩, ⟨20, 0, 20000, Items.admitLevel⟩,
   ⟨21, 0, 500, Items.admitHyst⟩, ⟨22, 60, 3600, Items.admitHold⟩, ⟨23, 0, 20000, Items.returnLevel⟩,
   ⟨24, 0, 500, Items.returnHyst⟩, ⟨25, 10, 600, Items.gateTravel⟩, ⟨26, 0, 7, Items.gateRetries⟩,
   ⟨27, 10, 5000, Items.pumpMax⟩, ⟨28, 1, 5000, Items.pumpMin⟩, ⟨29, 5, 120, Items.pumpStartTimeout⟩,
   ⟨30, 5, 120, Items.pumpStopTimeout⟩, ⟨31, 30, 1800, Items.pumpRest⟩, ⟨32, 0, 500, Items.setpointDeadband⟩,
   ⟨33, 0, 5000, Items.silentAllowance⟩, ⟨34, 0, 20000, Items.fallbackCapacity⟩, ⟨35, 0, 300, Items.margin⟩,
   ⟨36, 0, 20000, Items.crest⟩, ⟨37, 0, 100, Items.spillDeadband⟩, ⟨38, 10, 600, Items.spillStartDebounce⟩,
   ⟨39, 60, 3600, Items.spillStopDebounce⟩, ⟨41, 1, 10, Items.tipDepth⟩, ⟨42, 1, 10, Items.tipMinSpacing⟩,
   ⟨44, 0, 65535, Items.tWatch⟩, ⟨45, 0, 65535, Items.tWarn⟩, ⟨46, 0, 65535, Items.tSevere⟩,
   ⟨47, 10, 120, Items.alertHold⟩, ⟨48, 1, 30, Items.rainRepeat⟩, ⟨49, 5, 60, Items.rainLifetime⟩,
   ⟨50, 1, 24, Items.blockFirst⟩, ⟨51, 1, 48, Items.blockNext⟩]

/-- What a LOAD_ITEM of an item, a place and a value leaves: the items `taken`, with the loaded mark of that item and
place, or BAD_ARGUMENT and nothing changed where none are taken (R188). -/
def loads (item place : Byte) (v : List Byte) (taken : Option Items) (s : State) : Prop :=
  completes (.loadItem item place v) s fun t =>
    match taken with
    | none => t = onlyAnswered 1 .badArgument [] s
    | some it =>
      (∀ r, r ∈ t.port.loaded ↔ r = ⟨item.toNat, place.toNat⟩ ∨ r ∈ s.port.loaded) ∧
      t = { s with port := { s.port with
        items := it, loaded := t.port.loaded, heldResponse := responseFrame 1 .done [] } }

/-- The value of a number item in 1, 2 or 4 bytes, where it lies within a range (R188). -/
def numberIn (low high : Nat) (v : List Byte) : Option Nat :=
  if (v.length = 1 ∨ v.length = 2 ∨ v.length = 4) ∧ low ≤ natOf v ∧ natOf v ≤ high then some (natOf v) else none

/-- The value bytes of a table of points (R188). -/
def tableBytes (ps : List Point) : List Byte := bytesOf 1 ps.length ++ ps.flatMap fun p => bytesOf 2 p.x ++ bytesOf 2 p.y

/-- The acceptance entries in force at a COMMIT (R30): entry 0 derived while ACCEPT_0 is unloaded. -/
def acceptAtCommit (s : State) (a : Addr) : AcceptTable :=
  if ⟨7, 0⟩ ∈ s.port.loaded then s.port.items.accept
  else { s.port.items.accept with e0 := ⟨a &&& 0xFF00#16, 0xFF00#16, ⟨true, true, true, true⟩⟩ }

/-- The checks of a COMMIT in their order, each with the item and the place it names when it fails (R189). -/
def commitChecks (s : State) : List (Prop × ItemRef) :=
  let it := s.port.items
  [(it.stationAddress = none, ⟨1, 0⟩),
   (¬ it.stage.IsChain (fun p q => p.x < q.x ∧ p.y ≤ q.y), ⟨18, 0⟩),
   (¬ it.weir.IsChain (fun p q => p.x < q.x ∧ p.y ≤ q.y), ⟨40, 0⟩),
   (it.pumpMax < it.pumpMin, ⟨28, 0⟩),
   (∀ p, it.stage.getLast? = some p → p.y ≤ it.emptyVolume, ⟨19, 0⟩),
   (it.tWarn ≤ it.tWatch, ⟨45, 0⟩),
   (it.tSevere ≤ it.tWarn, ⟨46, 0⟩),
   (it.admitLevel ≤ it.returnLevel, ⟨23, 0⟩),
   (∀ a, it.stationAddress = some a →
      ∀ e ∈ [(acceptAtCommit s a).e0, (acceptAtCommit s a).e1, (acceptAtCommit s a).e2, (acceptAtCommit s a).e3],
        e.uses = ⟨false, false, false, false⟩, ⟨7, 0⟩)]

/-! ### Records in the spill log (10.3.1) -/

/-- The ten bytes of a block entry. -/
def entryBytes (e : BlockEntry) : List Byte :=
  bytesOf 3 (e.index * 262144 + e.seconds) ++ bytesOf 5 (e.start / 1000) ++ bytesOf 2 e.peak

/-- The slots of a record of n entries: a HEAD and one slot for each three entries, the last one begun counted. -/
def slotCount (r : SpillRecord) : Nat := 1 + (r.entries.length + 2) / 3

/-- The flags word. -/
def flagsWord (f : RecordFlags) : Nat :=
  (if f.timeUnset then 1 else 0) + (if f.timeSet then 2 else 0) + (if f.sensorHeld then 4 else 0) +
  (if f.switchOnly then 8 else 0) + (if f.headBeyondTable then 16 else 0) + (if f.gateFault then 32 else 0) +
  (if f.interrupted then 64 else 0) + (if f.split then 128 else 0) + (if f.continued then 256 else 0)

/-- The 32 bytes of slot k of a record, the HEAD being slot 0. -/
def slotOf (r : SpillRecord) (k : Nat) : List Byte :=
  if k = 0 then
    bytesOf 1 1 ++ bytesOf 1 (slotCount r) ++ bytesOf 4 r.number ++ bytesOf 6 r.start ++ bytesOf 6 r.finish ++
    bytesOf 1 r.entries.length ++ codeIn [AlertLevel.clear, .watch, .warning, .severe] r.peak ++
    bytesOf 2 (flagsWord r.flags) ++ bytesOf 4 r.seconds ++ bytesOf 3 (min 16777215 r.volume) ++
    bytesOf 3 (min 16777215 r.rain)
  else
    let es := (r.entries.drop (3 * (k - 1))).take 3
    bytesOf 1 (if k + 1 = slotCount r then 3 else 2) ++ bytesOf 1 es.length ++ es.flatMap entryBytes ++
    List.replicate (30 - 10 * es.length) 0

/-- A record stands whole in the log from slot p on, slot 47 being followed by slot 0. -/
def standsAt (l : SpillLog) (p : Nat) (r : SpillRecord) : Prop :=
  ∀ k, k < slotCount r → l.owners[(p + k) % 48]? = some .host ∧
    (List.range 32).map (fun i => Memory.read l.content (32 * ((p + k) % 48) + i)) = slotOf r k

/-- R175: 48 slots, positions 0..47, and the bytes of the log in their canonical form within the 48 slots. -/
def LogOk (s : State) : Prop :=
  s.counter.log.owners.length = 48 ∧ s.counter.log.readPos < 48 ∧ s.counter.log.writePos < 48 ∧
  Memory.wf s.counter.log.content = true ∧ ∀ c ∈ s.counter.log.content, c.1 < 48 * 32

/-- R176 a: whether a record that is handed to the log is written at once. -/
def placedAtOnce (r : SpillRecord) (s : State) : Prop :=
  s.counter.pendingRecords = [] ∧ slotCount r ≤ s.counter.log.owners.count .log

/-- R176: a record that is handed to the log stands in it, waits, or is dropped; `flag` is the event flag that goes with it:
RECORD_READY, LOG_FULL or RECORD_DROPPED. -/
def recordPlaced (r : SpillRecord) (flag : Nat) (s t : State) : Prop :=
  t.port.flags.getLsbD flag = true ∧
  (placedAtOnce r s → flag = 2 ∧ t.counter.pendingRecords = [] ∧
    t.counter.log.readPos = s.counter.log.readPos ∧
    t.counter.log.writePos = (s.counter.log.writePos + slotCount r) % 48 ∧
    (LogOk s → standsAt t.counter.log s.counter.log.writePos r ∧
      ∀ i, i < 48 → slotCount r ≤ (i + 48 - s.counter.log.writePos) % 48 →
        t.counter.log.owners[i]? = s.counter.log.owners[i]? ∧
        ∀ j, j < 32 →
          Memory.read t.counter.log.content (32 * i + j) = Memory.read s.counter.log.content (32 * i + j))) ∧
  (¬ placedAtOnce r s → t.counter.log = s.counter.log) ∧
  (¬ placedAtOnce r s → s.counter.pendingRecords.length < 2 →
    flag = 3 ∧ t.counter.pendingRecords = s.counter.pendingRecords ++ [r]) ∧
  (s.counter.pendingRecords.length < 2 →
    t.counter.totals.droppedRecords = s.counter.totals.droppedRecords ∧
    t.counter.totals.droppedBlocks = s.counter.totals.droppedBlocks) ∧
  (2 ≤ s.counter.pendingRecords.length →
    flag = 4 ∧ t.counter.pendingRecords = s.counter.pendingRecords ∧
    t.counter.totals.droppedRecords = (s.counter.totals.droppedRecords + 1) % 2 ^ 32 ∧
    t.counter.totals.droppedBlocks = (s.counter.totals.droppedBlocks + r.entries.length) % 2 ^ 32)

/-- The slots of several records. -/
def slotsOf (rs : List SpillRecord) : Nat := (rs.map slotCount).sum

/-- R175: the HOST slots are those of the records rs, which lie one after the other from the read position; the write
position is the slot after them. -/
def ringHolds (l : SpillLog) (rs : List SpillRecord) : Prop :=
  slotsOf rs ≤ 48 ∧ l.writePos = (l.readPos + slotsOf rs) % 48 ∧
  (∀ i, i < 48 → (l.owners[(l.readPos + i) % 48]? = some .host ↔ i < slotsOf rs)) ∧
  ∀ before r after, rs = before ++ r :: after → standsAt l (l.readPos + slotsOf before) r

/-! ### Invariants -/

/-- R197: the attention line is asserted while any flag is set whose mask bit is set. -/
def AttentionOk (s : State) : Prop := s.port.attention = attentionOf s.port.flags s.port.mask

/-- R19, R20: the scores within their bounds; standing as the scores give it, but in CUT_OFF and SILENCED; the cut-off
hold running exactly in CUT_OFF with cause SCORE. -/
def ScoresOk (s : State) : Prop :=
  s.trunk.txScore ≤ 200 ∧ s.trunk.rxScore ≤ 100 ∧
  (s.trunk.standing.silent = false → s.trunk.standing = standingOf s.trunk.txScore s.trunk.rxScore) ∧
  (s.trunk.cutoffHold.isSome = true ↔ s.trunk.standing = .cutOff .score)

/-- R32: at most 24 entries, in ascending order of address (so at most one for each address), none with the own
address. -/
def PeersOk (s : State) : Prop :=
  s.peers.entries.length ≤ 24 ∧ s.peers.entries.Pairwise (fun a b => a.address < b.address) ∧
  ∀ e ∈ s.peers.entries, e.address ≠ s.ownAddress

/-- R48, R55: trunk time within 0..2^48 - 1, the estimate within ±16 × STEP_LIMIT, and 0 in CONFIG. -/
def TimeOk (s : State) : Prop :=
  s.time.t ≤ maxTime ∧ s.time.e.natAbs ≤ 16 * s.cfg.stepLimit ∧ (s.inRun = false → s.time.e = 0)

/-- The gate drive that a gate state goes with (R74, R95 to R98, R100). -/
def driveOf : Option GateState → GateDrive
  | some .opening => .driveOpen
  | some .closing => .driveClose
  | _ => .off

/-- Whether the pump is driven in a pump state (the table of 9.6). -/
def pumpDriven : Option PumpState → Bool
  | some .starting => true
  | some .running => true
  | _ => false

/-- R74, R75 and the tables of 9.6 and 6.6: the drives are those that the gate state, the pump state and the setpoint
call for; the setpoint is 0 unless the pump is driven. -/
def DrivesOk (s : State) : Prop :=
  s.input.gateDrive = driveOf s.tank.gate ∧ s.input.pumpRun = pumpDriven s.drain.pump ∧
  (s.drain.setpoint ≠ 0 → pumpDriven s.drain.pump = true) ∧
  s.input.pumpRate = s.drain.setpoint * 1000 / s.cfg.pumpMax

/-- A digital input in CONFIG: its recognised level undetermined, no candidate (R79 c). -/
def DigitalInput.atRest (d : DigitalInput) : Prop := d.recognised = none ∧ d.candidate = none

/-- The Trunk Interface in CONFIG (R23 to R25): an attempt in flight is a disregarded one. -/
def Trunk.atRest (t : Trunk) : Prop :=
  t.rx = .off ∧ (t.tx = .idle ∨ t.tx = .send) ∧ (∀ a, t.attempt = some a → a.disregarded = true) ∧
  t.standing = .normal ∧ t.txScore = 0 ∧ t.rxScore = 0 ∧ t.cutoffHold = none ∧ t.presence = none

/-- The Input Unit in CONFIG (R78, R79). -/
def InputUnit.atRest (i : InputUnit) : Prop :=
  i.digital.rainTip.atRest ∧ i.digital.gateOpenLimit.atRest ∧ i.digital.gateClosedLimit.atRest ∧
  i.digital.spillFloat.atRest ∧ i.digital.pumpRunning.atRest ∧
  i.nextSample = none ∧ i.gateDrive = .off ∧ i.pumpRun = false ∧ i.pumpRate = 0 ∧ i.lamp = false

/-- The Tank Controller in CONFIG (R105, R106): the gate at no state that moves or waits. -/
def Tank.atRest (t : Tank) : Prop :=
  t.state = .off ∧ t.target = none ∧ t.releaseTimer = none ∧ t.openDeferred = false ∧ t.gateDir = none ∧
  t.gateTimer = none ∧ t.retries = 0 ∧ restGate t.gate = t.gate

/-- The Spill Monitor in CONFIG (R120, R121). -/
def Spill.atRest (p : Spill) : Prop := p.state = .clear ∧ p.debounce = none

/-- The Rain Unit in CONFIG (R137, R138). -/
def Rain.atRest (r : Rain) : Prop :=
  r.bins = [] ∧ r.nextMinute = none ∧ r.own = .clear ∧ r.hold = none ∧ r.rainRepeat = none ∧ r.branch = .clear

/-- The Drain Controller in CONFIG (R161, R162). -/
def Drain.atRest (d : Drain) : Prop :=
  d.setpoint = 0 ∧ d.share = 0 ∧ d.claim.requested = 0 ∧ d.claimTarget = none ∧ d.pumpTimer = none ∧
  d.restTimer = none ∧ pumpDriven d.pump = false

/-- The Spill Counter in CONFIG (R181, R182). -/
def Counter.atRest (c : Counter) : Prop :=
  c.spill = .clear ∧ c.event = none ∧ c.current = none ∧ c.deferred = none ∧ c.spillSince = none

/-- In CONFIG every block is at rest (1.2.2 and the chapters' rules on resets and run states). -/
def ConfigAtRest (s : State) : Prop :=
  s.inRun = false →
    s.trunk.atRest ∧ s.peers = .reset ∧ s.time.nextAdjust = none ∧ s.time.anchorPref = none ∧ s.input.atRest ∧
    s.tank.atRest ∧ s.spill.atRest ∧ s.rain.atRest ∧ s.drain.atRest ∧ s.counter.atRest

/-- R150, R149, R139: the setpoint is 0 or within PUMP_MIN..PUMP_MAX and not above the own share; it is nonzero only in
DRAINING with the gate CLOSED and the branch alert below SEVERE; a silent station's share is at most its allowance, and
SEVERE leaves no share; in DRAINING the gate is CLOSED. PUMP_MIN is at least 1 (11.3). -/
def SetpointOk (s : State) : Prop :=
  1 ≤ s.cfg.pumpMin ∧ 1 ≤ s.port.items.pumpMin ∧
  s.drain.claim.requested ≤ s.cfg.pumpMax ∧ s.drain.share ≤ s.cfg.pumpMax ∧
  (s.trunk.standing.silent = true → s.drain.share ≤ s.cfg.silentAllowance) ∧
  (s.rain.branch = .severe → s.drain.share = 0) ∧
  (s.tank.state = .draining → s.tank.gate = some .closed) ∧
  (s.drain.setpoint ≠ 0 →
    s.tank.state = .draining ∧ s.tank.gate = some .closed ∧ s.rain.branch ≠ .severe ∧
    s.cfg.pumpMin ≤ s.drain.setpoint ∧ s.drain.setpoint ≤ s.drain.share)

/-- R76, R128, R129, R133, in RUN: the lamp is on exactly while the branch alert is WARNING or SEVERE or the spill state
SPILLING or SUBSIDING; the branch alert is the highest of the own alert and the peers' rain parts; the own alert is at or
above the target; the alert hold runs exactly while the condition of the own alert's level is false. -/
def AlertsOk (s : State) : Prop :=
  s.inRun = true →
    s.input.lamp = decide (2 ≤ s.rain.branch.code ∨ s.spill.state = .spilling ∨ s.spill.state = .subsiding) ∧
    s.rain.own.code ≤ s.rain.branch.code ∧
    (∀ e ∈ s.peers.entries, ∀ p, e.rain = some p → p.level.code ≤ s.rain.branch.code) ∧
    (s.rain.branch = s.rain.own ∨ ∃ e ∈ s.peers.entries, ∃ p, e.rain = some p ∧ p.level = s.rain.branch) ∧
    s.rain.targetLevel.code ≤ s.rain.own.code ∧ s.rain.hold.isSome = !s.rain.condition s.rain.own

/-- R170, R176: an open event holds fewer than 60 entries, has a current block, and is the only one that a block may be
deferred for; at most two records are pending. -/
def CountingOk (s : State) : Prop :=
  (∀ ev, s.counter.event = some ev → ev.entries.length < 60) ∧
  s.counter.event.isSome = s.counter.current.isSome ∧
  (s.counter.deferred.isSome = true → s.counter.event.isSome = true) ∧
  s.counter.pendingRecords.length ≤ 2

/-- R175, R178: the log holds whole records, of at most 60 entries as the pending ones are, and the blocks counted are,
modulo 2^32, those of the open event, of the pending records, of the log, released and dropped. -/
def LogHoldsRecords (s : State) : Prop :=
  (∀ r ∈ s.counter.pendingRecords, r.entries.length ≤ 60) ∧
  ∃ rs, (∀ r ∈ rs, r.entries.length ≤ 60) ∧ ringHolds s.counter.log rs ∧
    s.counter.totals.counted % 2 ^ 32 =
      ((s.counter.event.elim 0 fun ev => ev.entries.length) +
        (s.counter.pendingRecords.map fun r => r.entries.length).sum + (rs.map fun r => r.entries.length).sum +
        s.counter.totals.released + s.counter.totals.droppedBlocks) % 2 ^ 32

end Sys2Proof.Machine
end

