-- ==== Sys2Proof/Certificates/Slice0/Obligations.lean ====
section
/-! DEFINITION. The statements for the provers. A statement that rests on a choice of the model names the log entry
(notes/assumptions); times are elapsed milliseconds. -/

open Sys2Proof Sys2Proof.Machine

/-! ### The queue -/

/-- The model's queue (log 8): a step takes the command in front and runs it on the state with the queue's rest. -/
def Obligations.StepTakesFront : Prop :=
  ∀ (c : Instr) (rest : List Instr) (s : State), s.pending = c :: rest → step s = exec c { s with pending := rest }

/-- The model's queue (log 8): an empty queue idles, and every command completes and leaves the queue it finds. -/
def Obligations.EveryCommandCompletes : Prop :=
  (∀ s : State, s.pending = [] → step s = .next s) ∧
  ∀ (c : Instr) (s : State), completes c s fun t => t.pending = s.pending

/-! ### Full reset -/

/-- R63, R78, R120: "none committed" is a weir table with no points, and trunk time advances from the reset onward. -/
def Obligations.FullResetTimeInputSpill : Prop :=
  ∀ s : State, completes .fullReset s fun t =>
    t.time.t = 0 ∧ t.time.clock = .unset ∧ t.time.e = 0 ∧ t.time.settleRun = 0 ∧ t.time.outlierRun = 0 ∧
    t.time.anchorPref = none ∧ t.time.lastSample = none ∧ t.port.flags = 0 ∧
    (∀ g : Gauge, t.input.gauges.get g =
      { level := 0, status := .failed, run := 0, proven := false, raw := 0, previous := none }) ∧
    (∀ i : DigitalIn, (t.input.digital.get i).recognised = none ∧ (t.input.digital.get i).candidate = none ∧
      (t.input.digital.get i).rising = ⟨false, false, 0⟩ ∧ (t.input.digital.get i).falling = ⟨false, false, 0⟩ ∧
      t.port.items.capture.get i = ⟨.continuous, .continuous⟩ ∧ t.port.items.filter.get i = 100) ∧
    t.input.gateDrive = .off ∧ t.input.pumpRun = false ∧ t.input.pumpRate = 0 ∧ t.input.lamp = false ∧
    t.cfg.weir = [] ∧ t.spill.state = .clear ∧ t.spill.head = none ∧ t.spill.status = none ∧ t.spill.flow = 0 ∧
    t.spill.beyond = false ∧ t.spill.levelCond = false ∧ t.spill.floatCond = false ∧ t.spill.levelInstant = none ∧
    t.spill.stateInstant = none ∧ t.spill.onset = none ∧ t.spill.subsiding = none ∧ t.spill.debounce = none ∧
    t.spill.remainder = 0 ∧ t.spill.provisional = 0 ∧ t.spill.marks = ⟨false, false, false⟩ ∧ t.spill.confirmed = 0 ∧
    completes .trunkTimeTick t fun u => u.time.t = 1

/-- R23, R46, R105, R137, R161, R181, R186, R191, and the defaults of 11.3. That the contacts and the queue stay is the
model's choice (log 10). -/
def Obligations.FullResetOtherBlocks : Prop :=
  ∀ s : State, completes .fullReset s fun t =>
    t.pending = s.pending ∧ (∀ i : DigitalIn, (t.input.digital.get i).raw = (s.input.digital.get i).raw) ∧
    t.port.run = .config ∧ t.port.loaded = [] ∧ t.port.mask = 0 ∧ t.port.attention = false ∧
    t.port.loopResult = .none ∧ t.port.loopTest = none ∧ t.port.lastRefusal = none ∧
    t.port.heldResponse = [0, 0, 0, 0, 0] ∧ t.cfg.stationAddress = none ∧
    (∀ i, i < 4 → (t.port.items.accept.get i).uses = ⟨false, false, false, false⟩) ∧
    t.port.items = {
      stationAddress := none, priorityWeight := 1, claimPeriod := 10, claimSpacing := 250, presenceInterval := 30
      forgetTime := 180, accept := t.port.items.accept, cutoffHold := 120, lineDelay := 2, clockDepth := 3
      stepLimit := 5000, anchor := false, samplePeriod := 2, span := ⟨5000, 5000, 5000⟩, datum := ⟨0, 0, 0⟩
      filter := ⟨100, 100, 100, 100, 100⟩
      capture := ⟨⟨.continuous, .continuous⟩, ⟨.continuous, .continuous⟩, ⟨.continuous, .continuous⟩,
        ⟨.continuous, .continuous⟩, ⟨.continuous, .continuous⟩⟩
      stage := [⟨0, 0⟩, ⟨4000, 1000⟩], emptyVolume := 5, admitLevel := 2000, admitHyst := 50, admitHold := 600
      returnLevel := 1000, returnHyst := 50, gateTravel := 90, gateRetries := 2, pumpMax := 100, pumpMin := 20
      pumpStartTimeout := 20, pumpStopTimeout := 30, pumpRest := 120, setpointDeadband := 20, silentAllowance := 0
      fallbackCapacity := 0, margin := 50, crest := 3000, spillDeadband := 10, spillStartDebounce := 60
      spillStopDebounce := 300, weir := [⟨0, 0⟩, ⟨500, 1000⟩], tipDepth := 2, tipMinSpacing := 2, shortWindow := 5
      tWatch := 40, tWarn := 150, tSevere := 400, alertHold := 30, rainRepeat := 5, rainLifetime := 20, blockFirst := 12
      blockNext := 24 } ∧
    t.trunk.slots = ⟨.empty, .empty, .empty, .empty⟩ ∧ t.trunk.tx = .idle ∧ t.trunk.rx = .off ∧ t.trunk.txScore = 0 ∧
    t.trunk.rxScore = 0 ∧ t.trunk.standing = .normal ∧ t.trunk.cutoffHold = none ∧ t.trunk.presence = none ∧
    t.trunk.attempt = none ∧ t.peers.entries = [] ∧ t.peers.limit = none ∧
    t.tank.state = .off ∧ t.tank.volume = 0 ∧ t.tank.fill = 0 ∧ t.tank.assumedFull = false ∧ t.cfg.stage = [] ∧
    t.tank.releaseTimer = none ∧ t.tank.openDeferred = false ∧ t.tank.gate = none ∧ t.tank.gateDir = none ∧
    t.tank.retries = 0 ∧ t.tank.gateTimer = none ∧ t.tank.mode = .auto ∧ t.tank.target = none ∧
    t.rain.bins = [] ∧ t.rain.total = 0 ∧ t.rain.accepted = 0 ∧ t.rain.rejected = 0 ∧ t.rain.own = .clear ∧
    t.rain.branch = .clear ∧ t.rain.hold = none ∧ t.rain.rainRepeat = none ∧ t.rain.lastTip = none ∧
    t.rain.minutes = 0 ∧ t.rain.short = 0 ∧ t.rain.long = 0 ∧ t.rain.condWatch = false ∧ t.rain.condWarning = false ∧
    t.rain.condSevere = false ∧ t.rain.lastRise = none ∧
    t.drain.last.k0 = 0 ∧ t.drain.last.ka = 0 ∧ t.drain.last.rs = 0 ∧ t.drain.last.m = 0 ∧ t.drain.last.keff = 0 ∧
    t.drain.last.claimants = [] ∧ t.drain.last.own = 0 ∧
    t.drain.claim = ⟨0, 0, 0, false, 1⟩ ∧ t.drain.claimTarget = none ∧ t.drain.share = 0 ∧ t.drain.shareStamp = none ∧
    t.drain.setpoint = 0 ∧ t.drain.lastNonzero = none ∧ t.drain.pump = none ∧ t.drain.pumpTimer = none ∧
    t.drain.restTimer = none ∧ t.drain.restElapsed = false ∧ t.drain.mode = .auto ∧
    t.counter.eventNumber = 0 ∧ t.counter.event = none ∧ t.counter.current = none ∧ t.counter.deferred = none ∧
    t.counter.spillSince = none ∧ t.counter.levelSeen = false ∧ t.counter.summary = ⟨0, 0, false⟩ ∧
    t.counter.log.owners = List.replicate 48 .log ∧ (∀ a, Memory.read t.counter.log.content a = 0) ∧
    t.counter.log.readPos = 0 ∧ t.counter.log.writePos = 0 ∧ t.counter.pendingRecords = [] ∧
    t.counter.totals = ⟨0, 0, 0, 0, 0, 0⟩

/-! ### Trunk time -/

/-- R48, R56, R57: the end of an elapsed millisecond, and an adjust. An adjust comes before the tick of its instant, and
a withheld increment (R56 b) is the next one due (log 15). That neither queues a CLAIM, though R141 tests the claim timer at
each advance of T, is the model's choice: the timer's expiry is a command of its own (log 32). -/
def Obligations.TimeTicksSlewsAndSettles : Prop :=
  (∀ s : State, completes .trunkTimeTick s fun t => t = { s with
    elapsed := s.elapsed + 1
    time.t := if s.time.withheld then s.time.t else min (2 ^ 48 - 1) (s.time.t + 1)
    time.withheld := false }) ∧
  ∀ (s : State) (x : Nat), s.time.nextAdjust = some x → x ≤ s.elapsed + 1 → completes .adjust s fun t =>
    (16 ≤ s.time.e → t.time.t = min (2 ^ 48 - 1) (s.time.t + 1) ∧ t.time.e = s.time.e - 16 ∧
      t.time.withheld = s.time.withheld) ∧
    (s.time.e ≤ -16 → t.time.t = s.time.t ∧ t.time.e = s.time.e + 16 ∧ t.time.withheld = true) ∧
    (-16 < s.time.e ∧ s.time.e < 16 → t.time.t = s.time.t ∧ t.time.e = s.time.e ∧ t.time.withheld = s.time.withheld) ∧
    (s.time.clock = .following ∧ t.time.e.natAbs < 32 ∧ s.time.settleRun + 1 = 10 →
      t.time.clock = .settled ∧ t.time.settleRun = 0 ∧
      t.port = s.port.withEvents (s.port.flags ||| BitVec.twoPow 15 7) s.port.mask) ∧
    (s.time.clock = .following ∧ t.time.e.natAbs < 32 ∧ s.time.settleRun + 1 ≠ 10 →
      t.time.clock = .following ∧ t.time.settleRun = s.time.settleRun + 1 ∧ t.port = s.port) ∧
    (s.time.clock = .following ∧ 32 ≤ t.time.e.natAbs →
      t.time.clock = .following ∧ t.time.settleRun = 0 ∧ t.port = s.port) ∧
    (s.time.clock ≠ .following →
      t.time.clock = s.time.clock ∧ t.time.settleRun = s.time.settleRun ∧ t.port = s.port) ∧
    t = { s with
      port := t.port
      time := { s.time with
        t := t.time.t, e := t.time.e, withheld := t.time.withheld, clock := t.time.clock, settleRun := t.time.settleRun
        nextAdjust := some (x + 1000) } }

/-- R59, R60, R142, R173 a, in RUN. The claim instants are those of `nextClaimInstant` (R141). -/
def Obligations.SetTimeStepsTrunkTime : Prop :=
  ∀ (s : State) (ms : BitVec 64), s.inRun = true → completes (.setTime ms) s fun t =>
    t.time = { s.time with
      t := min (2 ^ 48 - 1) ms.toNat, e := 0, settleRun := 0, outlierRun := 0
      clock := if s.cfg.anchor then .anchored else .settled } ∧
    t.port.flags = (if t.time.clock = s.time.clock then s.port.flags else s.port.flags ||| BitVec.twoPow 15 7) ∧
    answered 14 .done [] t ∧
    t.drain.claimTarget = nextClaimInstant s t.time.t ∧
    (∀ x, s.drain.claimTarget = some x → x ≤ t.time.t →
      t.trunk.slots.claim = s.trunk.slots.claim.queue (.claim (claimBody s))) ∧
    (¬ (∃ x, s.drain.claimTarget = some x ∧ x ≤ t.time.t) → t.trunk.slots.claim = s.trunk.slots.claim) ∧
    t.counter.event = s.counter.event.map (fun ev => { ev with flags.timeSet := true }) ∧
    (∀ g, s.trunk.rx = .frame g → t.trunk.rx = .frame { g with stepped := true }) ∧
    t.elapsed = s.elapsed ∧ t.peers = s.peers ∧ t.input = s.input ∧ t.tank = s.tank ∧ t.spill = s.spill ∧
    t.rain = s.rain ∧ t.drain = { s.drain with claimTarget := t.drain.claimTarget } ∧
    t.trunk.standing = s.trunk.standing ∧ t.counter.log = s.counter.log ∧ t.counter.totals = s.counter.totals

/-- R51, R39: the anchor preference lapses after 60 s, and an entry without parts is removed after FORGET_TIME. -/
def Obligations.PreferenceLapsesAndEntriesAreForgotten : Prop :=
  (∀ (s : State) (p : Nat), s.time.anchorPref = some p → p + 60000 ≤ s.elapsed →
    completes .anchorPreferenceLapse s fun t => t = { s with time.anchorPref := none }) ∧
  ∀ (s : State) (a : Addr), completes (.forgetTimeExpiry a) s fun t =>
    (∀ e, e ∈ t.peers.entries ↔ e ∈ s.peers.entries ∧ ¬ (e.address = a ∧ e.claim = none ∧ e.rain = none ∧
      e.accepted + 1000 * s.cfg.forgetTime ≤ s.elapsed)) ∧
    t.peers.entries.Sublist s.peers.entries ∧ t = { s with peers.entries := t.peers.entries }

/-! ### The site port -/

/-- R184: the bytes sent during a transaction; with no byte gathered nothing else changes. -/
def Obligations.TransactionSendsHeldResponse : Prop :=
  ∀ (s : State) (gathered : List Byte) (clocked : Nat) (counts : GaugeCounts),
    completes (.transaction gathered clocked counts) s fun t =>
      t.port.sent.length = clocked ∧ (∀ i, i < clocked → t.port.sent[i]? = some (s.port.heldResponse.getD i 0)) ∧
      (gathered = [] → t = { s with port.sent := t.port.sent })

/-- R185. -/
def Obligations.BadFrameIsAnswered : Prop :=
  (∀ (s : State) (gathered : List Byte) (clocked : Nat) (counts : GaugeCounts), gathered ≠ [] →
    (gathered.length < 3 ∨ gathered.length < byteAt gathered 1 + 3 ∨
      byteSum (gathered.take (byteAt gathered 1 + 3)) ≠ 0 ∨
      byteAt gathered 0 = 0 ∨ 22 < byteAt gathered 0 ∨
      (∃ n, (byteAt gathered 0, n) ∈ argumentTable ∧ byteAt gathered 1 ≠ n)) →
    completes (.transaction gathered clocked counts) s fun t => t = { s with
      port.sent := t.port.sent, port.heldResponse := responseFrame (gathered.getD 0 0) .badFrame [] }) ∧
  ∀ (s : State) (gathered extra : List Byte) (clocked : Nat) (counts : GaugeCounts),
    3 ≤ gathered.length → byteAt gathered 1 + 3 ≤ gathered.length →
    exec (.transaction (gathered ++ extra) clocked counts) s = exec (.transaction gathered clocked counts) s

/-- R183, R184 b, R187: a request that comes as a frame has the effect of its command (log 16), whatever is clocked after
the frame. The gauge counts of a COMMIT are those of the transaction (log 17). -/
def Obligations.TransactionTakesRequest : Prop :=
  ∀ (s : State) (c : Instr) (code : Nat) (args extra : List Byte) (clocked : Nat) (counts : GaugeCounts),
    requestOf c = some (code, args) → args.length ≤ 255 → (∀ k, c = .commit k → k = counts) →
    byteSum (requestFrame (BitVec.ofNat 8 code) args) = 0 ∧
    exec (.transaction (requestFrame (BitVec.ofNat 8 code) args ++ extra) clocked counts) s =
      exec c { s with port.sent := sentBytes s.port.heldResponse clocked }

/-- R187, R102, R188 b: a request that the run state does not allow is answered REFUSED, with no data, and changes nothing
else; so are, as frames, a CLEAR_FAULT of another object and a LOAD_ITEM without item and instance, which the run state that
allows the request answers BAD_ARGUMENT. -/
def Obligations.RunStateRefuses : Prop :=
  (∀ s : State, s.inRun = true →
    (∀ i k v, exec (.loadItem i k v) s = .next (onlyAnswered 1 .refused [] s)) ∧
    (∀ k, exec (.commit k) s = .next (onlyAnswered 2 .refused [] s)) ∧
    exec .loopTest s = .next (onlyAnswered 22 .refused [] s) ∧
    ∀ (clocked : Nat) (counts : GaugeCounts) (u : State),
      u = { s with port.sent := sentBytes s.port.heldResponse clocked } →
      (∀ object : Byte, 1 < object.toNat →
        exec (.transaction (requestFrame 20 [object]) clocked counts) s = .next (onlyAnswered 20 .badArgument [] u)) ∧
      ∀ args : List Byte, args.length < 2 →
        exec (.transaction (requestFrame 1 args) clocked counts) s = .next (onlyAnswered 1 .refused [] u)) ∧
  ∀ s : State, s.inRun = false →
    (∀ ms, exec (.setTime ms) s = .next (onlyAnswered 14 .refused [] s)) ∧
    (∀ c v, exec (.sendLimit c v) s = .next (onlyAnswered 17 .refused [] s)) ∧
    exec .silence s = .next (onlyAnswered 18 .refused [] s) ∧
    exec .rejoin s = .next (onlyAnswered 19 .refused [] s) ∧
    exec .clearFaultGate s = .next (onlyAnswered 20 .refused [] s) ∧
    exec .clearFaultPump s = .next (onlyAnswered 20 .refused [] s) ∧
    ∀ (clocked : Nat) (counts : GaugeCounts) (u : State),
      u = { s with port.sent := sentBytes s.port.heldResponse clocked } →
      (∀ object : Byte,
        exec (.transaction (requestFrame 20 [object]) clocked counts) s = .next (onlyAnswered 20 .refused [] u)) ∧
      ∀ args : List Byte, args.length < 2 →
        exec (.transaction (requestFrame 1 args) clocked counts) s = .next (onlyAnswered 1 .badArgument [] u)

/-- R45, R62, R77, R104, R119, R135, R160, R179, R180, R183, R194: the requests that only read change nothing but the held
response, whose data is written out field by field. The model's choices in it are its widths (log 19), what shares a
presence byte (log 20), an open event without a current block (log 31), READ_RAIN's seconds in CONFIG (log 46), the
orders and forms of logs 48 to 52, the order of READ_STATUS's claimants as the last computation holds them (log 55), and
the place of the own assignment (log 56). -/
def Obligations.ReadsOnlyAnswer : Prop :=
  ∀ s : State,
    completes .readStatus s (fun t => t = onlyAnswered 3 .done (
      (codeIn [RunState.config, .run] s.port.run ++
       present (if s.inRun then s.cfg.stationAddress else none) (fun a => bytesOf 2 a.toNat) ++
       codeIn [LoopResult.none, .inFlight, .pass, .fail] s.port.loopResult ++
       present s.port.lastRefusal (fun r => bytesOf 1 r.item ++ bytesOf 1 r.place) ++
       bytesOf 2 s.port.flags.toNat ++ bytesOf 2 s.port.mask.toNat ++ flagByte s.port.attention) ++
      ((match s.trunk.standing with
        | .normal => [0, 0] | .warned => [1, 0] | .quiet => [2, 0]
        | .cutOff .score => [3, 1, 0] | .cutOff .clash => [3, 1, 1] | .silenced => [4, 0]) ++
       bytesOf 1 s.trunk.txScore ++ bytesOf 1 s.trunk.rxScore ++
       codeIn [TxState.idle, .waitLine, .defer, .send, .backoff] s.trunk.tx ++
       [s.trunk.slots.claim, s.trunk.slots.rain, s.trunk.slots.limit, s.trunk.slots.presence].flatMap (fun v =>
         match v with
         | .empty => [0, 0]
         | .waiting _ n => 1 :: bytesOf 1 n
         | .sending _ n _ => 2 :: bytesOf 1 n)) ++
      present s.peers.limit (fun r => bytesOf 2 r.capacity ++ bytesOf 2 r.validity ++ bytesOf 2 r.sender.toNat ++
        bytesOf 6 r.arrival.stamp ++ flagByte r.fresh ++
        bytesOf 2 (if r.fresh then (r.arrival.instant + 1000 * r.validity - s.elapsed) / 1000 else 0)) ++
      (bytesOf 6 s.time.t ++ codeIn [ClockState.unset, .following, .settled, .anchored] s.time.clock ++
       bytesOf 3 (s.time.e % 256 ^ 3).toNat ++ bytesOf 1 s.time.settleRun ++ bytesOf 1 s.time.outlierRun ++
       present s.time.lastSample (fun l => bytesOf 2 l.sender.toNat ++ bytesOf 7 (l.value % 256 ^ 7).toNat ++
         codeIn [SampleOutcome.step, .outlier, .used] l.outcome ++ bytesOf 4 ((s.elapsed - l.taken) / 1000)) ++
       present s.time.anchorPref (fun p => bytesOf 1 ((s.elapsed - p) / 1000))) ++
      ([s.input.gauges.sewer, s.input.gauges.tank, s.input.gauges.overflow].flatMap (fun g =>
         bytesOf 2 g.level ++ codeIn [ChannelStatus.good, .held, .failed] g.status ++ bytesOf 1 g.run ++
         flagByte g.proven ++ bytesOf 2 g.raw.toNat) ++
       [s.input.digital.rainTip, s.input.digital.gateOpenLimit, s.input.digital.gateClosedLimit,
         s.input.digital.spillFloat, s.input.digital.pumpRunning].flatMap (fun d =>
         flagByte d.raw ++ present d.recognised flagByte ++ flagByte d.candidate.isSome) ++
       codeIn [GateDrive.off, .driveOpen, .driveClose] s.input.gateDrive ++ flagByte s.input.pumpRun ++
       bytesOf 2 s.input.pumpRate ++ flagByte s.input.lamp) ++
      (bytesOf 2 s.tank.volume ++ bytesOf 2 s.tank.fill ++ flagByte s.tank.assumedFull ++
       codeIn [TankState.off, .dry, .admitting, .holding, .draining] s.tank.state ++
       remaining 2 s s.tank.releaseTimer ++ flagByte s.tank.openDeferred ++
       present s.tank.gate (codeIn [.closed, .opening, .opened, .closing, .stopped, .retryWait, .reversing, .fault]) ++
       present s.tank.gateDir (codeIn [.toOpen, .toClose]) ++ bytesOf 1 s.tank.retries ++
       remaining 2 s s.tank.gateTimer ++ codeIn [GateMode.auto, .forceOpen, .forceClosed] s.tank.mode ++
       present s.tank.target (codeIn [.toOpen, .toClose])) ++
      (codeIn [SpillState.clear, .onset, .spilling, .subsiding] s.spill.state ++ remaining 2 s s.spill.debounce ++
       (match s.spill.head, s.spill.status with
         | some h, some st => 1 :: bytesOf 2 (h % 256 ^ 2).toNat ++ codeIn [ChannelStatus.good, .held, .failed] st ++
           bytesOf 2 s.spill.flow ++ flagByte s.spill.beyond
         | _, _ => [0]) ++
       flagByte s.spill.levelCond ++ flagByte s.spill.floatCond ++
       present s.spill.onset (fun x => bytesOf 6 x.stamp) ++ present s.spill.subsiding (fun x => bytesOf 6 x.stamp) ++
       bytesOf 4 s.spill.provisional ++ bytesOf 2 s.spill.remainder ++ flagByte s.spill.marks.held ++
       flagByte s.spill.marks.beyond ++ flagByte s.spill.marks.level ++ bytesOf 4 s.spill.confirmed) ++
      (bytesOf 2 s.drain.claim.requested ++ bytesOf 2 s.drain.claim.drawn ++ bytesOf 2 s.drain.claim.fill ++
       flagByte s.drain.claim.spilling ++ bytesOf 1 s.drain.claim.weight ++
       present s.drain.claimTarget (bytesOf 6) ++
       bytesOf 2 s.drain.last.k0 ++ codeIn [CapacitySource.limitRecord, .fallback] s.drain.last.source ++
       bytesOf 2 s.drain.last.ka ++ bytesOf 3 s.drain.last.rs ++ bytesOf 2 s.drain.last.m ++
       bytesOf 2 s.drain.last.keff ++ bytesOf 1 s.drain.last.claimants.length ++ bytesOf 2 s.drain.last.own ++
       s.drain.last.claimants.flatMap (fun c => bytesOf 2 c.address.toNat ++ bytesOf 1 c.weight ++
         bytesOf 2 c.requested ++ bytesOf 2 (c.assigned.getD 0)) ++
       bytesOf 2 s.drain.share ++ present s.drain.shareStamp (bytesOf 6) ++
       bytesOf 2 s.drain.setpoint ++ present s.drain.lastNonzero (bytesOf 2) ++
       present s.drain.pump (codeIn [.stopped, .starting, .running, .stopping, .fault]) ++
       remaining 1 s s.drain.pumpTimer ++ remaining 2 s s.drain.restTimer ++ flagByte s.drain.restElapsed ++
       codeIn [DrainMode.auto, .hold] s.drain.mode) ++
      codeIn [AlertLevel.clear, .watch, .warning, .severe] s.rain.branch) s) ∧
    (∀ index : Byte, completes (.readPeer index) s fun t =>
      if 23 < index.toNat then t = onlyAnswered 4 .badArgument [] s
      else t = onlyAnswered 4 .done (bytesOf 1 s.peers.entries.length ++
        match s.peers.entries[index.toNat]? with
        | none => []
        | some e => bytesOf 2 e.address.toNat ++ bytesOf 1 e.hit ++ bytesOf 6 e.firstHeard ++ bytesOf 6 e.lastHeard ++
            codeIn [ClockState.unset, .following, .settled, .anchored] e.lastClock ++ flagByte e.lastQuiet ++
            present e.claim (fun c => bytesOf 2 c.requested ++ bytesOf 2 c.drawn ++ bytesOf 2 c.fill ++
              bytesOf 1 c.weight ++ flagByte c.spilling ++ bytesOf 1 c.period ++ [if c.fresh then 0 else 1] ++
              bytesOf 2 ((s.elapsed - c.arrival) / 1000)) ++
            present e.rain (fun r => codeIn [AlertLevel.clear, .watch, .warning, .severe] r.level ++
              bytesOf 2 r.short ++ bytesOf 2 r.long ++ bytesOf 2 r.age ++
              bytesOf 2 ((s.elapsed - r.arrival) / 1000))) s) ∧
    (∀ slot : Byte, completes (.readLogSlot slot) s fun t =>
      if 47 < slot.toNat then t = onlyAnswered 5 .badArgument [] s
      else if s.counter.log.owners.getD slot.toNat .log = .host then
        t = onlyAnswered 5 .done ([1] ++
          ((List.range 32).map fun i => Memory.read s.counter.log.content (32 * slot.toNat + i)) ++
          [1, Memory.read s.counter.log.content (32 * slot.toNat)]) s
      else t = onlyAnswered 5 .done ([0] ++
          ((List.range 32).map fun i => Memory.read s.counter.log.content (32 * slot.toNat + i)) ++ [0]) s) ∧
    completes .readOpenEvent s (fun t => t = onlyAnswered 7 .done (present s.counter.event fun ev =>
      bytesOf 4 ev.number ++ bytesOf 6 ev.start.stamp ++ bytesOf 2 (flagsWord ev.flags) ++
      bytesOf 1 ev.entries.length ++
      present ev.entries.getLast? (fun e =>
        bytesOf 1 e.index ++ bytesOf 6 e.start ++ bytesOf 3 e.seconds ++ bytesOf 2 e.peak) ++
      bytesOf 4 ev.litres ++ bytesOf 4 (s.rain.total - ev.rainAtOpen) ++
      codeIn [AlertLevel.clear, .watch, .warning, .severe] ev.peakAlert ++
      (match s.counter.current with
        | none => List.replicate 13 0
        | some b => bytesOf 1 b.index ++ bytesOf 6 b.start.stamp ++ flagByte b.containsSpill ++
            bytesOf 3 (b.credited / 1000) ++ bytesOf 2 b.peak) ++
      present s.counter.deferred (fun b => bytesOf 1 b.index)) s) ∧
    completes .readPending s (fun t => t = onlyAnswered 8 .done
      (bytesOf 1 s.counter.pendingRecords.length ++ s.counter.pendingRecords.flatMap fun r =>
        bytesOf 4 r.number ++ bytesOf 6 r.start ++ bytesOf 6 r.finish ++ bytesOf 1 r.entries.length ++
        bytesOf 4 r.seconds ++ bytesOf 3 (min 16777215 r.volume) ++ bytesOf 3 (min 16777215 r.rain) ++
        codeIn [AlertLevel.clear, .watch, .warning, .severe] r.peak ++ bytesOf 2 (flagsWord r.flags) ++
        bytesOf 1 (slotCount r)) s) ∧
    completes .readTotals s (fun t => t = onlyAnswered 9 .done
      (bytesOf 4 s.counter.totals.opened ++ bytesOf 4 s.counter.totals.counted ++ bytesOf 4 s.counter.totals.released ++
       bytesOf 4 s.counter.totals.droppedBlocks ++ bytesOf 4 s.counter.totals.droppedRecords ++
       bytesOf 4 s.counter.totals.seconds ++ bytesOf 4 s.counter.eventNumber ++
       [BitVec.ofNat 8 s.counter.log.readPos, BitVec.ofNat 8 s.counter.log.writePos,
        BitVec.ofNat 8 (s.counter.log.owners.count .log), BitVec.ofNat 8 s.counter.pendingRecords.length]) s) ∧
    completes .readRain s (fun t => t = onlyAnswered 10 .done
      (bytesOf 1 s.rain.bins.length ++ s.rain.bins.flatMap (bytesOf 1) ++ bytesOf 4 s.rain.minutes ++
       bytesOf 1 (s.rain.nextMinute.elim 0 fun x => (60000 - (x - s.elapsed)) / 1000) ++
       bytesOf 4 s.rain.total ++ bytesOf 2 s.rain.accepted ++ bytesOf 2 s.rain.rejected ++
       present s.rain.lastTip (fun x => bytesOf 6 x.stamp) ++ bytesOf 2 s.rain.short ++ bytesOf 2 s.rain.long ++
       flagByte s.rain.condWatch ++ flagByte s.rain.condWarning ++ flagByte s.rain.condSevere ++
       codeIn [AlertLevel.clear, .watch, .warning, .severe] s.rain.own ++
       present s.rain.lastRise (fun x => bytesOf 4 ((s.elapsed - x) / 60000)) ++
       remaining 2 s s.rain.hold ++ remaining 2 s s.rain.rainRepeat ++
       codeIn [AlertLevel.clear, .watch, .warning, .severe] s.rain.branch) s)

/-- R73: both records are returned, then their flags cleared and their stamps kept. -/
def Obligations.ReadCaptureClearsFlags : Prop :=
  ∀ (s : State) (input : Byte),
    (4 < input.toNat → completes (.readCapture input) s fun t => t = onlyAnswered 11 .badArgument [] s) ∧
    ∀ i : DigitalIn, [DigitalIn.rainTip, .gateOpenLimit, .gateClosedLimit, .spillFloat, .pumpRunning][input.toNat]? = some i →
      completes (.readCapture input) s fun t =>
        answered 11 .done
          ([if (s.input.digital.get i).rising.captured then 1 else 0, if (s.input.digital.get i).rising.lost then 1 else 0] ++
           bytesOf 6 (s.input.digital.get i).rising.stamp ++
           [if (s.input.digital.get i).falling.captured then 1 else 0, if (s.input.digital.get i).falling.lost then 1 else 0] ++
           bytesOf 6 (s.input.digital.get i).falling.stamp) t ∧
        t.input.digital.get i = { s.input.digital.get i with
          rising := ⟨false, false, (s.input.digital.get i).rising.stamp⟩
          falling := ⟨false, false, (s.input.digital.get i).falling.stamp⟩ } ∧
        (∀ j, j ≠ i → t.input.digital.get j = s.input.digital.get j) ∧
        t = { s with input.digital := t.input.digital, port.heldResponse := t.port.heldResponse }

/-- R196. -/
def Obligations.ReadEventsClearsFlags : Prop :=
  ∀ s : State, completes .readEvents s fun t =>
    answered 12 .done [BitVec.ofNat 8 (s.port.flags.toNat / 256), BitVec.ofNat 8 s.port.flags.toNat] t ∧
    t = { s with port.flags := 0, port.attention := false, port.heldResponse := t.port.heldResponse }

/-- R197, R195: SET_EVENT_MASK, and the raising of a flag. -/
def Obligations.MaskAndFlagsDriveAttention : Prop :=
  (∀ (s : State) (mask : BitVec 16), completes (.setEventMask mask) s fun t =>
    answered 13 .done [] t ∧ t.port.mask = mask.setWidth 15 ∧
    (t.port.attention = true ↔ ∃ i, i < 15 ∧ s.port.flags.getLsbD i = true ∧ mask.getLsbD i = true) ∧
    t = { s with
      port.mask := t.port.mask, port.attention := t.port.attention, port.heldResponse := t.port.heldResponse }) ∧
  ∀ (s : State) (f : EventFlag),
    (raise f s).port.flags.getLsbD f.bit = true ∧
    (∀ g : EventFlag, g ≠ f → (raise f s).port.flags.getLsbD g.bit = s.port.flags.getLsbD g.bit) ∧
    ((raise f s).port.attention = true ↔
      ∃ i, i < 15 ∧ (raise f s).port.flags.getLsbD i = true ∧ s.port.mask.getLsbD i = true) ∧
    raise f s = { s with port.flags := (raise f s).port.flags, port.attention := (raise f s).port.attention }

/-! ### The configuration -/

/-- R188 and the table of 11.3, for the items that are numbers with one place and a plain range. -/
def Obligations.LoadItemTakesNumbers : Prop :=
  ∀ (s : State) (x : NumberItem) (place : Byte) (v : List Byte), s.inRun = false → x ∈ numberItems →
    (place = 0 ∧ v.length ∈ [1, 2, 4] ∧ x.low ≤ natOf v ∧ natOf v ≤ x.high →
      completes (.loadItem (BitVec.ofNat 8 x.item) place v) s fun t =>
        x.get t.port.items = natOf v ∧ (∀ y ∈ numberItems, y.item ≠ x.item → y.get t.port.items = y.get s.port.items) ∧
        t.port.items.stationAddress = s.port.items.stationAddress ∧ t.port.items.accept = s.port.items.accept ∧
        t.port.items.anchor = s.port.items.anchor ∧ t.port.items.span = s.port.items.span ∧
        t.port.items.datum = s.port.items.datum ∧ t.port.items.filter = s.port.items.filter ∧
        t.port.items.capture = s.port.items.capture ∧ t.port.items.stage = s.port.items.stage ∧
        t.port.items.weir = s.port.items.weir ∧ t.port.items.shortWindow = s.port.items.shortWindow ∧
        (∀ r, r ∈ t.port.loaded ↔ r = ⟨x.item, 0⟩ ∨ r ∈ s.port.loaded) ∧ answered 1 .done [] t ∧
        t = { s with
          port.items := t.port.items, port.loaded := t.port.loaded, port.heldResponse := t.port.heldResponse }) ∧
    (¬ (place = 0 ∧ v.length ∈ [1, 2, 4] ∧ x.low ≤ natOf v ∧ natOf v ≤ x.high) →
      completes (.loadItem (BitVec.ofNat 8 x.item) place v) s fun t => t = onlyAnswered 1 .badArgument [] s)

/-- R188 and the table of 11.3, for the items of other kinds, at every place and value, and for an item number outside the
table. -/
def Obligations.LoadItemTakesOtherKinds : Prop :=
  ∀ (s : State) (place : Byte) (v : List Byte) (it : Items), s.inRun = false → it = s.port.items →
    loads 1 place v (if place = 0 ∧ v.length = 2 ∧ 1 ≤ byteAt v 1 ∧ byteAt v 1 ≤ 254 then
      some { it with stationAddress := some (BitVec.ofNat 16 (256 * byteAt v 0 + byteAt v 1)) } else none) s ∧
    (∀ e : AcceptEntry, e = ⟨BitVec.ofNat 16 (256 * byteAt v 0 + byteAt v 1),
        BitVec.ofNat 16 (256 * byteAt v 2 + byteAt v 3),
        ⟨(v.getD 4 0).getLsbD 0, (v.getD 4 0).getLsbD 1, (v.getD 4 0).getLsbD 2, (v.getD 4 0).getLsbD 3⟩⟩ →
      loads 7 place v (if v.length = 5 ∧ byteAt v 4 < 16 then match place.toNat with
        | 0 => some { it with accept.e0 := e }
        | 1 => some { it with accept.e1 := e }
        | 2 => some { it with accept.e2 := e }
        | 3 => some { it with accept.e3 := e }
        | _ => none
      else none) s) ∧
    loads 12 place v (if place = 0 ∧ v = [0] then some { it with anchor := false }
      else if place = 0 ∧ v = [1] then some { it with anchor := true } else none) s ∧
    loads 14 place v (match place.toNat, numberIn 500 10000 v with
      | 0, some n => some { it with span.sewer := n }
      | 1, some n => some { it with span.tank := n }
      | 2, some n => some { it with span.overflow := n }
      | _, _ => none) s ∧
    loads 15 place v (match place.toNat, numberIn 0 10000 v with
      | 0, some n => some { it with datum.sewer := n }
      | 1, some n => some { it with datum.tank := n }
      | 2, some n => some { it with datum.overflow := n }
      | _, _ => none) s ∧
    loads 16 place v (match place.toNat, numberIn 10 2000 v with
      | 0, some n => some { it with filter.rainTip := n }
      | 1, some n => some { it with filter.gateOpenLimit := n }
      | 2, some n => some { it with filter.gateClosedLimit := n }
      | 3, some n => some { it with filter.spillFloat := n }
      | 4, some n => some { it with filter.pumpRunning := n }
      | _, _ => none) s ∧
    (∀ m : Option CaptureMode, (m = if v = [0] then some .off else if v = [1] then some .single
        else if v = [2] then some .continuous else none) →
      loads 17 place v (match place.toNat, m with
        | 0, some m => some { it with capture.rainTip.rising := m }
        | 1, some m => some { it with capture.rainTip.falling := m }
        | 2, some m => some { it with capture.gateOpenLimit.rising := m }
        | 3, some m => some { it with capture.gateOpenLimit.falling := m }
        | 4, some m => some { it with capture.gateClosedLimit.rising := m }
        | 5, some m => some { it with capture.gateClosedLimit.falling := m }
        | 6, some m => some { it with capture.spillFloat.rising := m }
        | 7, some m => some { it with capture.spillFloat.falling := m }
        | 8, some m => some { it with capture.pumpRunning.rising := m }
        | 9, some m => some { it with capture.pumpRunning.falling := m }
        | _, _ => none) s) ∧
    (∀ ps : List Point, place = 0 → v = tableBytes ps →
      (2 ≤ ps.length ∧ ps.length ≤ 12 ∧ (∀ p ∈ ps, p.x ≤ 20000 ∧ p.y ≤ 65535) →
        loads 18 place v (some { it with stage := ps }) s) ∧
      (2 ≤ ps.length ∧ ps.length ≤ 8 ∧ (∀ p ∈ ps, p.x ≤ 20000 ∧ p.y ≤ 20000) ∧ (∀ p, ps.head? = some p → p.x = 0) →
        loads 40 place v (some { it with weir := ps }) s)) ∧
    ((∀ ps : List Point, 2 ≤ ps.length → ps.length ≤ 12 → (∀ p ∈ ps, p.x ≤ 20000 ∧ p.y ≤ 65535) →
        place ≠ 0 ∨ v ≠ tableBytes ps) → loads 18 place v none s) ∧
    ((∀ ps : List Point, 2 ≤ ps.length → ps.length ≤ 8 → (∀ p ∈ ps, p.x ≤ 20000 ∧ p.y ≤ 20000) →
        (∀ p, ps.head? = some p → p.x = 0) → place ≠ 0 ∨ v ≠ tableBytes ps) → loads 40 place v none s) ∧
    loads 43 place v (match place.toNat, numberIn 5 15 v with
      | 0, some n => if n = 5 ∨ n = 10 ∨ n = 15 then some { it with shortWindow := n } else none
      | _, _ => none) s ∧
    ∀ item : Byte, item = 0 ∨ 51 < item.toNat → loads item place v none s

/-- R189: a COMMIT in CONFIG is BUSY during a loop test; otherwise the first check that fails refuses it and is named. -/
def Obligations.CommitIsRefused : Prop :=
  (∀ (s : State) (counts : GaugeCounts), s.inRun = false → s.port.loopTest ≠ none →
    completes (.commit counts) s fun t => t = onlyAnswered 2 .busy [] s) ∧
  ∀ (s : State) (counts : GaugeCounts) (before after : List (Prop × ItemRef)) (p : Prop) (r : ItemRef),
    s.inRun = false → s.port.loopTest = none → commitChecks s = before ++ (p, r) :: after → (∀ q ∈ before, ¬ q.1) → p →
    completes (.commit counts) s fun t => t = { s with
      port.lastRefusal := some r
      port.heldResponse := responseFrame 2 .refused [BitVec.ofNat 8 r.item, BitVec.ofNat 8 r.place] }

/-- R190, R30, and what R25, R47, R65, R66, R80, R88, R122, R136, R140 d and R163 give the blocks at entry to RUN, from a
CONFIG at rest. The order of the entries is log 6. -/
def Obligations.CommitEntersRun : Prop :=
  ∀ (s : State) (counts : GaugeCounts) (a : Addr),
    s.inRun = false → s.port.loopTest = none → (∀ q ∈ commitChecks s, ¬ q.1) → s.port.items.stationAddress = some a →
    completes (.commit counts) s fun t =>
      answered 2 .done [] t ∧ t.port.run = .run ∧ t.port.lastRefusal = none ∧
      t.cfg = { s.port.items with
        accept := acceptAtCommit s a, silentAllowance := min s.port.items.silentAllowance s.port.items.pumpMax } ∧
      t.port.items = s.port.items ∧ t.port.loaded = s.port.loaded ∧
      t.peers.entries = [] ∧ t.peers.limit = none ∧
      t.trunk.rx = .discard ∧ t.trunk.lineFree = false ∧
      t.trunk.presence = some (s.elapsed + 1000 * s.port.items.presenceInterval) ∧
      t.time.t = s.time.t ∧ t.time.e = s.time.e ∧ t.time.nextAdjust = some (s.elapsed + 1000) ∧
      t.time.clock = (match s.port.items.anchor, s.time.clock with
        | true, .following => .unset
        | true, .settled => .unset
        | false, .anchored => .following
        | _, c => c) ∧
      (∀ i : DigitalIn, t.input.digital.get i =
        { s.input.digital.get i with recognised := some (s.input.digital.get i).raw, candidate := none }) ∧
      t.input.nextSample = some (s.elapsed + 1000 * s.port.items.samplePeriod) ∧
      t.input.lamp = decide (2 ≤ t.rain.branch.code ∨ t.spill.state = .spilling ∨ t.spill.state = .subsiding) ∧
      t.rain.bins = [0] ∧ t.rain.minutes = 0 ∧ t.rain.nextMinute = some (s.elapsed + 60000) ∧ t.elapsed = s.elapsed ∧
      (∀ g : Gauge, t.input.gauges.get g = converted (s.port.items.datum.get g) (s.port.items.span.get g) s.elapsed
        (match g with | .sewer => counts.sewer | .tank => counts.tank | .overflow => counts.overflow)
        (s.input.gauges.get g)) ∧
      (ConfigAtRest s →
        (∀ opened closed pumping float admits : Bool, opened = s.input.digital.gateOpenLimit.raw →
          closed = s.input.digital.gateClosedLimit.raw → pumping = s.input.digital.pumpRunning.raw →
          float = s.input.digital.spillFloat.raw →
          (admits = true ↔ t.input.gauges.sewer.status ≠ .failed ∧
            s.port.items.admitLevel ≤ t.input.gauges.sewer.level) →
          (t.input.gauges.tank.status ≠ .failed →
            t.tank.volume = interpolate s.port.items.stage t.input.gauges.tank.level ∧
            t.tank.fill = t.tank.volume * 1000 / lastY s.port.items.stage ∧ t.tank.assumedFull = false) ∧
          (t.input.gauges.tank.status = .failed →
            t.tank.volume = lastY s.port.items.stage ∧ t.tank.fill = 1000 ∧ t.tank.assumedFull = true) ∧
          t.tank.state = (if admits then .admitting
            else if t.tank.volume ≤ s.port.items.emptyVolume then .dry else .holding) ∧
          t.tank.openDeferred = (admits && pumping) ∧ t.tank.releaseTimer = none ∧ t.tank.mode = s.tank.mode ∧
          t.tank.target = (match s.tank.mode with
            | .forceOpen => some .toOpen
            | .forceClosed => some .toClose
            | .auto => if admits = true ∧ pumping = false then some .toOpen else some .toClose) ∧
          t.tank.gate = (match opened, closed, t.tank.target with
            | true, true, _ => some .fault
            | true, false, some .toClose => some .closing
            | true, false, _ => some .opened
            | false, true, some .toOpen => some .opening
            | false, true, _ => some .closed
            | false, false, some .toOpen => some .opening
            | false, false, _ => some .closing) ∧
          (t.tank.gate = some .fault → t.port.flags.getLsbD 10 = true) ∧ t.tank.retries = 0 ∧
          t.tank.gateDir = (match t.tank.gate with
            | some .opening => some .toOpen | some .closing => some .toClose | _ => none) ∧
          t.tank.gateTimer = (if t.tank.gateDir = none then none
            else some (s.elapsed + 1000 * s.port.items.gateTravel)) ∧
          t.input.gateDrive = driveOf t.tank.gate ∧
          t.spill.floatCond = float ∧ t.spill.levelInstant = some ⟨s.elapsed, s.time.t⟩ ∧
          t.spill.stateInstant = some ⟨s.elapsed, s.time.t⟩ ∧ t.counter.spill = t.spill.state ∧
          t.spill.state = (if t.spill.levelCond || float then .onset else .clear) ∧
          (t.spill.levelCond = true ↔ t.input.gauges.overflow.status ≠ .failed ∧
            s.port.items.crest + s.port.items.spillDeadband ≤ t.input.gauges.overflow.level) ∧
          (t.spill.state = .onset → t.spill.onset = some ⟨s.elapsed, s.time.t⟩ ∧ t.spill.provisional = 0 ∧
            t.spill.debounce = some (s.elapsed + 1000 * s.port.items.spillStartDebounce)) ∧
          t.drain.pump = (if pumping then some .stopping else some .stopped) ∧ t.drain.setpoint = 0 ∧
          t.drain.pumpTimer = (if pumping then some (s.elapsed + 1000 * s.port.items.pumpStopTimeout) else none) ∧
          t.drain.restTimer = (if pumping then none else some (s.elapsed + 1000 * s.port.items.pumpRest)) ∧
          t.drain.restElapsed = (pumping && s.drain.restElapsed) ∧ t.drain.claimTarget = nextClaimInstant t s.time.t ∧
          t.drain.claim = { fill := t.tank.fill, spilling := false, weight := s.port.items.priorityWeight
                            requested := if t.tank.state = .holding ∧ s.drain.mode = .auto ∧
                              t.input.gauges.tank.status ≠ .failed then s.port.items.pumpMax else 0
                            drawn := if pumping then s.drain.lastNonzero.getD s.port.items.pumpMax else 0 } ∧
          t.drain.last.k0 = s.port.items.fallbackCapacity ∧ t.drain.last.source = .fallback ∧
          t.drain.share = t.drain.last.own) ∧
        (s.trunk.slots = ⟨.empty, .empty, .empty, .empty⟩ →
          t.trunk.slots.presence = .waiting .presence 0 ∧ t.trunk.slots.limit = .empty ∧
          t.trunk.slots.claim = .waiting (.claim (claimBody t)) 0 ∧ t.trunk.standing = .normal ∧
          t.trunk.tx = (if s.trunk.tx = .send then .send else .waitLine) ∧ t.trunk.attempt = s.trunk.attempt))

/-- R191, R24, R47, R64, R79, R106, R121, R138, R162: what a restart leaves of every block but the Spill Counter.
That the capacity source of the last computation is then FALLBACK_CAPACITY (log 27), that the line counts as busy (log 43),
and the pump state in CONFIG before the first COMMIT (log 47) are the model's choices. -/
def Obligations.RestartResetsBlocks : Prop :=
  ∀ s : State, completes .restart s fun t =>
    answered 21 .done [] t ∧ t.port.run = .config ∧ t.port.loopTest = none ∧
    t.port.loopResult = (if s.port.loopResult = .inFlight then .none else s.port.loopResult) ∧
    t.port.items = s.port.items ∧ t.port.loaded = s.port.loaded ∧ t.port.mask = s.port.mask ∧
    t.port.lastRefusal = s.port.lastRefusal ∧
    t.trunk = { s.trunk with
      slots := ⟨.empty, .empty, .empty, .empty⟩, txScore := 0, rxScore := 0, standing := .normal, cutoffHold := none
      presence := none, rx := .off, lineFree := false, txUntil := none
      tx := if s.trunk.tx = .send then .send else .idle
      attempt := s.trunk.attempt.map fun a => { a with disregarded := true } } ∧
    (s.trunk.standing ≠ .normal → t.port.flags.getLsbD 6 = true) ∧
    t.peers.entries = [] ∧ t.peers.limit = none ∧
    t.time = { s.time with
      e := 0, settleRun := 0, outlierRun := 0, anchorPref := none, lastSample := none, nextAdjust := none
      clock := if s.time.clock = .settled then .following else s.time.clock } ∧
    (s.time.clock = .settled → t.port.flags.getLsbD 7 = true) ∧
    t.input.gateDrive = .off ∧ t.input.pumpRun = false ∧ t.input.pumpRate = 0 ∧ t.input.lamp = false ∧
    t.input.nextSample = none ∧
    (∀ g : Gauge, t.input.gauges.get g = { s.input.gauges.get g with previous := none }) ∧
    (∀ i : DigitalIn, t.input.digital.get i = { s.input.digital.get i with recognised := none, candidate := none }) ∧
    t.tank = { s.tank with
      state := .off, target := none, releaseTimer := none, openDeferred := false, gateDir := none, gateTimer := none
      retries := 0
      gate := if s.tank.gate ∈ [some .opening, some .closing, some .retryWait, some .reversing] then some .stopped
        else s.tank.gate } ∧
    t.spill = { s.spill with
      state := .clear, debounce := none, remainder := 0, provisional := 0, onset := none, subsiding := none
      marks := ⟨false, false, false⟩ } ∧
    t.rain.own = .clear ∧ t.rain.branch = .clear ∧ t.rain.total = s.rain.total ∧
    (s.rain.branch ≠ .clear → t.port.flags.getLsbD 5 = true) ∧
    t.drain = { s.drain with
      setpoint := 0, pumpTimer := none, restTimer := none, restElapsed := false, claimTarget := none
      pump := some (if s.input.digital.pumpRunning.raw then .stopping else .stopped)
      claim := { s.drain.claim with requested := 0, drawn := 0, spilling := false }
      last := ⟨0, .fallback, 0, 0, 0, 0, [], 0⟩, share := 0 } ∧
    t.elapsed = s.elapsed

/-- R182, R174, R176: a restart closes an open event with INTERRUPTED, and its record stands in the log, waits or is dropped;
with none open the Counter loses its provisional summary alone. The blocks' order is log 7, the end of an event with no interval ended log 31. -/
def Obligations.RestartInterruptsEvent : Prop :=
  (∀ s : State, completes .restart s fun t =>
    t.counter.event = none ∧ t.counter.current = none ∧ t.counter.deferred = none ∧ t.counter.spillSince = none ∧
    t.counter.summary = ⟨0, 0, false⟩ ∧ t.counter.spill = .clear ∧ t.counter.eventNumber = s.counter.eventNumber) ∧
  (∀ s : State, s.counter.event = none → completes .restart s fun t =>
    t.counter.log = s.counter.log ∧ t.counter.pendingRecords = s.counter.pendingRecords ∧
    t.counter.totals = s.counter.totals) ∧
  ∀ (s : State) (ev : SpillEvent) (b : Block) (x : Nat), s.counter.event = some ev → s.counter.current = some b →
    s.counter.deferred = none →
    (s.counter.spill = .clear ∨ s.counter.spill = .onset → b.containsSpill = false → completes .restart s fun t =>
      (∃ flag, recordPlaced
        { number := ev.number, start := ev.start.stamp, finish := (ev.lastEnd.getD ev.start).stamp
          seconds := (ev.entries.map BlockEntry.seconds).sum, volume := ev.litres / 1000
          rain := s.rain.total - ev.rainAtOpen, peak := ev.peakAlert
          flags := { ev.flags with interrupted := true }, entries := ev.entries } flag s t) ∧
      t.counter.totals = { s.counter.totals with
        droppedRecords := t.counter.totals.droppedRecords, droppedBlocks := t.counter.totals.droppedBlocks }) ∧
    ∀ last : BlockEntry, s.counter.spill = .spilling → s.counter.spillSince = some x → b.containsSpill = true →
      ev.entries.length < 60 → last = ⟨b.index, b.start.stamp, (b.credited + (s.elapsed - x)) / 1000, b.peak⟩ →
      completes .restart s fun t => ∃ flag, recordPlaced
        { number := ev.number, start := ev.start.stamp, finish := s.time.t
          seconds := (ev.entries.map BlockEntry.seconds).sum + last.seconds, volume := ev.litres / 1000
          rain := s.rain.total - ev.rainAtOpen, peak := ev.peakAlert
          flags := { ev.flags with
            interrupted := true, switchOnly := ev.flags.switchOnly || !s.counter.levelSeen }
          entries := ev.entries ++ [last] } flag s t

/-! ### Requests in RUN, and the loop test -/

/-- R193, R4, R192. The host queues a LIMIT with clamped values; a loop test begins, and ends in one of three ways. -/
def Obligations.SendLimitQueuesAndLoopTestRuns : Prop :=
  (∀ (s : State) (c v : BitVec 16) (l : LimitBody), s.inRun = true →
    l = ⟨if 20000 < c.toNat then 20000 else c.toNat,
      if v.toNat < 10 then 10 else if 3600 < v.toNat then 3600 else v.toNat⟩ →
    completes (.sendLimit c v) s fun t =>
      answered 17 .done (bytesOf 2 l.capacity ++ bytesOf 2 l.validity) t ∧
      t.trunk.slots = { s.trunk.slots with limit := match s.trunk.slots.limit with
        | .empty => .waiting (.limit l) 0
        | .waiting _ n => .waiting (.limit l) n
        | .sending b n _ => .sending b n (some (.limit l)) } ∧
      (s.trunk.tx ≠ .idle → t.trunk.tx = s.trunk.tx) ∧
      (s.trunk.tx = .idle → s.trunk.standing = .normal → t.trunk.slots.limit.isWaiting = true →
        t.trunk.tx = if s.trunk.lineFree then .defer else .waitLine) ∧
      t = { s with
        trunk := { s.trunk with slots := t.trunk.slots, tx := t.trunk.tx, txUntil := t.trunk.txUntil }
        free := t.free, port.heldResponse := t.port.heldResponse }) ∧
  (∀ s : State, s.inRun = false →
    (s.port.loopTest ≠ none → completes .loopTest s fun t => t = onlyAnswered 22 .busy [] s) ∧
    (s.port.loopTest = none → s.port.items.stationAddress = none →
      completes .loopTest s fun t => t = onlyAnswered 22 .refused [] s) ∧
    ∀ a, s.port.loopTest = none → s.port.items.stationAddress = some a → completes .loopTest s fun t => t = { s with
      port.loopResult := .inFlight
      port.loopTest := some ⟨composeBulletin .presence a s.time.clock false s.time.t, s.elapsed + 100⟩
      port.heldResponse := responseFrame 22 .done [] }) ∧
  ∀ (s : State) (lt : LoopTest), s.port.loopTest = some lt →
    (∀ gathered, s.trunk.attempt = none → completes (.loopTestGathered gathered) s fun t => t = { s with
      port.loopTest := none
      port.loopResult := if bulletinGood gathered = true ∧ gathered = lt.bulletin then .pass else .fail }) ∧
    (lt.deadline ≤ s.elapsed → completes .loopTestTimeout s fun t => t = { s with
      port.loopTest := none, port.loopResult := .fail })

/-- R19 to R22, R143 d: SILENCE, REJOIN and the end of the cut-off hold. -/
def Obligations.StandingCommands : Prop :=
  ∀ s : State,
    (s.inRun = true → s.trunk.standing = .cutOff .clash →
      (completes .silence s fun t => t = onlyAnswered 18 .refused [] s) ∧
      completes .rejoin s fun t => t = onlyAnswered 19 .refused [] s) ∧
    (s.inRun = true → s.trunk.standing = .silenced →
      completes .silence s fun t => t = onlyAnswered 18 .done [] s) ∧
    (s.inRun = true → s.trunk.standing ∈ [.normal, .warned, .quiet] →
      completes .rejoin s fun t => t = onlyAnswered 19 .done [] s) ∧
    (s.inRun = true → s.trunk.standing ∈ [.normal, .warned, .quiet, .cutOff .score] → completes .silence s fun t =>
      answered 18 .done [] t ∧ t.trunk.standing = .silenced ∧ t.trunk.cutoffHold = none ∧
      t.trunk.tx = (if s.trunk.tx = .send then .send else .idle) ∧ t.drain.share ≤ s.cfg.silentAllowance ∧ shareFollows s t ∧
      t.port.flags = s.port.flags ||| BitVec.twoPow 15 6 ∧
      outsideTank t = outsideTank { s with
        trunk.standing := .silenced, trunk.cutoffHold := none
        port := { s.port with
          flags := t.port.flags, attention := t.port.attention, heldResponse := t.port.heldResponse } }) ∧
    (∀ (c : Instr) (tx : Nat) (hold : Option Nat),
      (c = .rejoin ∧ s.inRun = true ∧ s.trunk.standing = .silenced ∧ tx = s.trunk.txScore ∧ hold = s.trunk.cutoffHold) ∨
      (c = .rejoin ∧ s.inRun = true ∧ s.trunk.standing = .cutOff .score ∧ tx = 0 ∧ hold = none) ∨
      (c = .cutoffHoldExpiry ∧ s.trunk.standing = .cutOff .score ∧ tx = 0 ∧ hold = none ∧
        ∃ x, s.trunk.cutoffHold = some x ∧ x ≤ s.elapsed) →
      completes c s fun t =>
        t.trunk.txScore = tx ∧
        t.trunk.standing = (if 200 ≤ tx then .cutOff .score else if 100 ≤ tx then .quiet
          else if 40 ≤ tx ∨ 40 ≤ s.trunk.rxScore then .warned else .normal) ∧
        t.trunk.cutoffHold = (if 200 ≤ tx then some (s.elapsed + 1000 * s.cfg.cutoffHold) else hold) ∧
        t.port.flags = s.port.flags ||| BitVec.twoPow 15 6 ∧
        (tx < 200 → s.trunk.tx = .idle → t.trunk.firstEligible.isSome = true → t.trunk.tx ∈ [.waitLine, .defer]) ∧
        (c = .rejoin → answered 19 .done [] t) ∧ shareFollows s t ∧
        outsideTank t = outsideTank { s with
          trunk := { s.trunk with
            txScore := tx, standing := t.trunk.standing, cutoffHold := t.trunk.cutoffHold }
          port := { s.port with
            flags := t.port.flags, attention := t.port.attention, heldResponse := t.port.heldResponse } })

/-- R101, R94, R95, R98. The target is the one that the tank state and the mode give; a change of it moves the gate by the
table of R94, one that stays leaves it. Under AUTO this is said where the tank's evaluation keeps its state. The gate
direction at a limit is log 23. -/
def Obligations.GateModeMovesTheGate : Prop :=
  ∀ (s : State) (mode : Byte),
    (2 < mode.toNat → completes (.gateMode mode) s fun t => t = onlyAnswered 15 .badArgument [] s) ∧
    ∀ m : GateMode, [GateMode.auto, .forceOpen, .forceClosed][mode.toNat]? = some m →
      (s.inRun = false → completes (.gateMode mode) s fun t => t = { s with
        tank.mode := m, port.heldResponse := responseFrame 15 .done [] }) ∧
      (s.inRun = true → s.tank.state ≠ .off → completes (.gateMode mode) s fun t =>
        answered 15 .done [] t ∧ t.tank.mode = m ∧ t.tank.state ≠ .off ∧
        (m = .forceOpen → t.tank.target = some .toOpen) ∧ (m = .forceClosed → t.tank.target = some .toClose) ∧
        (m = .auto → t.tank.target =
          if t.tank.state = .admitting ∧ t.tank.openDeferred = false then some .toOpen else some .toClose) ∧
        (m = .forceOpen → s.tank.gate = some .closed → s.tank.target = some .toClose →
          s.asserted .gateOpenLimit = false →
          t.tank.gate = some .opening ∧ t.tank.gateDir = some .toOpen ∧ t.tank.retries = 0 ∧
          t.tank.gateTimer = some (s.elapsed + 1000 * s.cfg.gateTravel) ∧ t.input.gateDrive = .driveOpen) ∧
        (s.tank.gate = some .fault → t.tank.gate = some .fault ∧ t.input.gateDrive = s.input.gateDrive) ∧
        (∀ d turned : GateDir, (d, turned) ∈ [(GateDir.toOpen, GateDir.toClose), (.toClose, .toOpen)] →
          d = (match m with
            | .forceOpen => .toOpen
            | .forceClosed => .toClose
            | .auto => if s.tank.state = .admitting ∧ s.tank.openDeferred = false then .toOpen else .toClose) →
          m ≠ .auto ∨ t.tank.state = s.tank.state →
          t.tank.target = some d ∧
          (s.tank.target ≠ some d →
            (s.tank.gate = some turned.atLimit ∨ s.tank.gate = some .stopped →
              (s.asserted d.limit = true → t.tank.gate = some d.atLimit ∧ t.tank.gateDir = none ∧
                t.tank.gateTimer = none ∧ t.tank.retries = 0 ∧ t.input.gateDrive = .off) ∧
              (s.asserted d.limit = false → t.tank.gate = some d.moving ∧ t.tank.gateDir = some d ∧
                t.tank.gateTimer = some (s.elapsed + 1000 * s.cfg.gateTravel) ∧ t.tank.retries = 0 ∧
                t.input.gateDrive = d.drive)) ∧
            (s.tank.gate = some turned.moving ∨ (s.tank.gate = some .retryWait ∧ s.tank.gateDir ≠ some d) →
              t.tank.gate = some .reversing ∧ t.tank.gateDir = some d ∧
              t.tank.gateTimer = some (s.elapsed + 2000) ∧ t.tank.retries = s.tank.retries ∧
              t.input.gateDrive = .off) ∧
            (s.tank.gate = some .reversing → t.tank.gate = some .reversing ∧ t.tank.gateDir = some d ∧
              t.tank.gateTimer = s.tank.gateTimer ∧ t.tank.retries = s.tank.retries ∧
              t.input.gateDrive = s.input.gateDrive)) ∧
          (s.tank.target = some d ∨ s.tank.gate ∈ [none, some .fault, some d.atLimit, some d.moving] ∨
              (s.tank.gate = some .retryWait ∧ s.tank.gateDir = some d) →
            t.tank.gate = s.tank.gate ∧ t.tank.gateDir = s.tank.gateDir ∧ t.tank.gateTimer = s.tank.gateTimer ∧
            t.tank.retries = s.tank.retries ∧ t.input.gateDrive = s.input.gateDrive)) ∧
        outsideTank t = outsideTank { s with port.heldResponse := t.port.heldResponse })

/-- R158, R139, R140. -/
def Obligations.DrainModeActs : Prop :=
  ∀ (s : State) (mode : Byte),
    (1 < mode.toNat → completes (.drainMode mode) s fun t => t = onlyAnswered 16 .badArgument [] s) ∧
    ∀ m : DrainMode, [DrainMode.auto, .hold][mode.toNat]? = some m →
      (m = s.drain.mode → completes (.drainMode mode) s fun t => t = onlyAnswered 16 .done [] s) ∧
      (s.inRun = false → completes (.drainMode mode) s fun t => t = { s with
        drain.mode := m, port.heldResponse := responseFrame 16 .done [] }) ∧
      (s.inRun = true → m ≠ s.drain.mode → completes (.drainMode mode) s fun t =>
        answered 16 .done [] t ∧ t.drain.mode = m ∧ claimReformed s t ∧
        (m = .hold → t.drain.claim.requested = 0 ∧ t.tank.state ≠ .draining) ∧
        (m = .hold → s.tank.state = .draining → t.drain.setpoint = 0) ∧
        (m = .auto → s.tank.state = .holding → t.tank.state = .holding → s.drain.pump ≠ some .fault →
          s.tankGauge.status ≠ .failed → t.drain.claim.requested = s.cfg.pumpMax) ∧
        outsideTank t = outsideTank { s with port.heldResponse := t.port.heldResponse })

/-- R102, R88, R90, R94, R95, R139, R157: CLEAR_FAULT. A gate that leaves FAULT is evaluated by the tank's state machine,
once and in the state in which its own action ends (log 45). -/
def Obligations.ClearFaultClears : Prop :=
  ∀ s : State, s.inRun = true →
    (s.tank.gate ≠ some .fault → completes .clearFaultGate s fun t => t = onlyAnswered 20 .refused [] s) ∧
    (s.tank.gate = some .fault → s.asserted .gateOpenLimit = true → s.asserted .gateClosedLimit = true →
      completes .clearFaultGate s fun t =>
        answered 20 .done [] t ∧ t.tank.gate = some .fault ∧ t.input.gateDrive = .off ∧
        t.port.flags = s.port.flags ||| BitVec.twoPow 15 10 ∧
        t.counter.event = s.counter.event.map (fun ev => { ev with flags.gateFault := true }) ∧
        outsideControl t = outsideControl { s with port.heldResponse := t.port.heldResponse }) ∧
    (s.tank.gate = some .fault → ¬ (s.asserted .gateOpenLimit = true ∧ s.asserted .gateClosedLimit = true) →
      completes .clearFaultGate s fun t =>
        answered 20 .done [] t ∧ ∃ u : State,
          t = { tankEvaluate false u with port.heldResponse := t.port.heldResponse } ∧
          u.tank.gate = (match s.asserted .gateOpenLimit, s.asserted .gateClosedLimit, s.tank.target with
            | true, _, some .toClose => some .closing
            | true, _, _ => some .opened
            | _, true, some .toOpen => some .opening
            | _, true, _ => some .closed
            | _, _, some .toOpen => some .opening
            | _, _, some .toClose => some .closing
            | _, _, none => some .stopped) ∧
          u.tank.retries = 0 ∧
          (u.tank.gate ∈ [some .opening, some .closing] →
            u.tank.gateTimer = some (s.elapsed + 1000 * s.cfg.gateTravel) ∧ u.input.gateDrive = driveOf u.tank.gate) ∧
          u = { s with
            tank := { s.tank with
              gate := u.tank.gate, gateDir := u.tank.gateDir, gateTimer := u.tank.gateTimer, retries := u.tank.retries }
            input.gateDrive := u.input.gateDrive }) ∧
    (¬ (s.drain.pump = some .fault ∧ s.asserted .pumpRunning = false) →
      completes .clearFaultPump s fun t => t = onlyAnswered 20 .refused [] s) ∧
    (s.drain.pump = some .fault → s.asserted .pumpRunning = false → completes .clearFaultPump s fun t =>
      answered 20 .done [] t ∧ t.drain.pump = some .stopped ∧ t.drain.restElapsed = false ∧
      t.drain.restTimer = some (s.elapsed + 1000 * s.cfg.pumpRest) ∧ t.drain.mode = s.drain.mode ∧
      claimReformed s t ∧ deferralEnds s t ∧
      outsideTank t = outsideTank { s with port.heldResponse := t.port.heldResponse })

/-- R177, R175, R176, 10.3.1: the oldest record released, and the pending records placed in order while they fit, each slot
as the layout gives it; several where the log holds whole records. -/
def Obligations.ReleaseRecordFreesSlots : Prop :=
  ∀ (s : State) (n : BitVec 32) (k : Nat), LogOk s →
    k = (Memory.read s.counter.log.content (32 * s.counter.log.readPos + 1)).toNat →
    (s.counter.log.owners.count .log = 48 →
      completes (.releaseRecord n) s fun t => t = onlyAnswered 6 .refused [] s) ∧
    (s.counter.log.owners.count .log ≠ 48 →
      natOf ((List.range 4).map fun i => Memory.read s.counter.log.content (32 * s.counter.log.readPos + 2 + i)) ≠ n.toNat →
      completes (.releaseRecord n) s fun t => t = onlyAnswered 6 .badArgument [] s) ∧
    (s.counter.log.owners.count .log ≠ 48 →
      natOf ((List.range 4).map fun i => Memory.read s.counter.log.content (32 * s.counter.log.readPos + 2 + i)) = n.toNat →
      completes (.releaseRecord n) s fun t =>
        answered 6 .done [] t ∧ t.counter.log.readPos = (s.counter.log.readPos + k) % 48 ∧
        t.counter.totals = { s.counter.totals with released := (s.counter.totals.released +
          (Memory.read s.counter.log.content (32 * s.counter.log.readPos + 18)).toNat) % 2 ^ 32 } ∧
        (s.counter.pendingRecords = [] →
          (∀ i, i < 48 → t.counter.log.owners[i]? =
            if (i + 48 - s.counter.log.readPos) % 48 < k then some .log else s.counter.log.owners[i]?) ∧
          t.counter.log.content = s.counter.log.content ∧ t.counter.log.writePos = s.counter.log.writePos ∧
          t.counter.pendingRecords = [] ∧ t.port.flags = s.port.flags) ∧
        (∀ r, s.counter.pendingRecords = [r] → slotCount r ≤
          (s.counter.log.freeSlots s.counter.log.readPos k).free →
          t.counter.pendingRecords = [] ∧ t.port.flags = s.port.flags ||| BitVec.twoPow 15 2 ∧
          t.counter.log.writePos = (s.counter.log.writePos + slotCount r) % 48 ∧
          standsAt t.counter.log s.counter.log.writePos r) ∧
        (∀ (rs placed waiting : List SpillRecord) (owners : List LogOwner), ringHolds s.counter.log rs →
          s.counter.pendingRecords = placed ++ waiting → owners.length = 48 →
          (∀ i, i < 48 → owners[i]? =
            if (i + 48 - s.counter.log.readPos) % 48 < k then some .log else s.counter.log.owners[i]?) →
          slotsOf placed ≤ owners.count .log →
          (∀ r, waiting.head? = some r → owners.count .log < slotsOf placed + slotCount r) →
          t.counter.pendingRecords = waiting ∧
          t.counter.log.writePos = (s.counter.log.writePos + slotsOf placed) % 48 ∧
          t.port.flags = (if placed = [] then s.port.flags else s.port.flags ||| BitVec.twoPow 15 2) ∧
          (∀ i, i < 48 → t.counter.log.owners[i]? =
            if (i + 48 - s.counter.log.writePos) % 48 < slotsOf placed then some .host else owners[i]?) ∧
          (∀ before r after, placed = before ++ r :: after →
            standsAt t.counter.log (s.counter.log.writePos + slotsOf before) r) ∧
          (∀ i j, i < 48 → slotsOf placed ≤ (i + 48 - s.counter.log.writePos) % 48 → j < 32 →
            Memory.read t.counter.log.content (32 * i + j) = Memory.read s.counter.log.content (32 * i + j))) ∧
        t = { s with
          counter := { s.counter with
            log := t.counter.log, pendingRecords := t.counter.pendingRecords, totals := t.counter.totals }
          port := { s.port with
            flags := t.port.flags, attention := t.port.attention, heldResponse := t.port.heldResponse } })

/-! ### The trunk line -/

/-- R1, R7, R14 to R16, R19, R143 d: the line becomes free, and a backoff ends. The idle gap is 2 elapsed ms and a backoff slot 25/3 ms
rounded down (log 2, log 14); the deferral drawn is any of the four (log 4). -/
def Obligations.LineFreeAndBackoffLetTheTransmitterGoOn : Prop :=
  (∀ s : State, s.inRun = true → s.trunk.lineFree = false → s.trunk.attempt = none →
    s.trunk.lastActivity + 2 ≤ s.elapsed → completes .lineFree s fun t =>
      t.trunk.lineFree = true ∧ t.trunk.rx = (if s.trunk.rx = .off then .off else .listen) ∧
      t.trunk.rxScore = (match s.trunk.rx with
        | .frame g => if g.echo then s.trunk.rxScore else min 100 (s.trunk.rxScore + 2)
        | _ => s.trunk.rxScore) ∧
      (ScoresOk s → standingFollows s t) ∧ (t.trunk.standing ≠ s.trunk.standing → shareFollows s t) ∧
      (s.trunk.tx = .waitLine → t.trunk.standing.silent = false → t.trunk.tx = .defer ∧
        ∃ n, n < 4 ∧ t.trunk.txUntil = some (s.elapsed + n * 25 / 3)) ∧
      (s.trunk.tx = .backoff → t.trunk.standing.silent = false →
        t.trunk.tx = .backoff ∧ t.trunk.txUntil = s.trunk.txUntil) ∧
      ((∀ g, s.trunk.rx ≠ .frame g) → t = { s with
        trunk := { s.trunk with lineFree := true, rx := t.trunk.rx, tx := t.trunk.tx, txUntil := t.trunk.txUntil }
        free := t.free }) ∧
      outsideTank t = outsideTank { s with
        trunk := { s.trunk with
          lineFree := true, rx := t.trunk.rx, rxScore := t.trunk.rxScore, standing := t.trunk.standing
          cutoffHold := t.trunk.cutoffHold }
        port := { s.port with flags := t.port.flags, attention := t.port.attention } }) ∧
  ∀ (s : State) (x : Nat), s.trunk.tx = .backoff → s.trunk.txUntil = some x → x ≤ s.elapsed →
    completes .backoffExpiry s fun t =>
      (s.trunk.firstEligible = none → t.trunk.tx = .idle ∧ t.trunk.txUntil = none) ∧
      (s.trunk.firstEligible ≠ none → s.trunk.lineFree = false → t.trunk.tx = .waitLine ∧ t.trunk.txUntil = none) ∧
      (s.trunk.firstEligible ≠ none → s.trunk.lineFree = true → t.trunk.tx = .defer ∧
        ∃ n, n < 4 ∧ t.trunk.txUntil = some (s.elapsed + n * 25 / 3)) ∧
      t = { s with trunk := { s.trunk with tx := t.trunk.tx, txUntil := t.trunk.txUntil }, free := t.free }

/-- R5, R2, R8: the end of a deferral begins an attempt with the eligible slot of the highest priority. -/
def Obligations.DeferralEndBeginsAttempt : Prop :=
  ∀ (s : State) (x : Nat), s.trunk.tx = .defer → s.trunk.txUntil = some x → x ≤ s.elapsed →
    (∀ may : Kind → Prop,
      (∀ k, may k ↔ (∃ b n, s.trunk.slots.get k = .waiting b n) ∧
        (s.trunk.standing = .normal ∨ s.trunk.standing = .warned ∨
          (s.trunk.standing = .quiet ∧ (k = .rain ∨ k = .claim)))) →
      (s.trunk.firstEligible = some .rain ↔ may .rain) ∧
      (s.trunk.firstEligible = some .limit ↔ ¬ may .rain ∧ may .limit) ∧
      (s.trunk.firstEligible = some .claim ↔ ¬ may .rain ∧ ¬ may .limit ∧ may .claim) ∧
      (s.trunk.firstEligible = some .presence ↔ ¬ may .rain ∧ ¬ may .limit ∧ ¬ may .claim ∧ may .presence)) ∧
    (s.trunk.firstEligible = none → completes .deferralExpiry s fun t => t = { s with
      trunk.tx := .idle, trunk.txUntil := none }) ∧
    ∀ (k : Kind) (b : Body) (n : Nat), s.trunk.firstEligible = some k → s.trunk.slots.get k = .waiting b n →
      completes .deferralExpiry s fun t => t = { s with trunk := { s.trunk with
        slots := s.trunk.slots.set k (.sending b n none), tx := .send, txUntil := none, lineFree := false
        lastActivity := s.elapsed
        attempt := some { kind := k, body := b, stamp := s.time.t, echo := none, disregarded := false
                          began := s.elapsed
                          bytes := composeBulletin b s.ownAddress s.time.clock (decide (s.trunk.standing = .quiet))
                            s.time.t } } }

/-- R8 to R10, R13 to R15, R19, R24, R25, R143 d: a collision reported. The command says which byte is being driven (log 12), a backoff
slot is 25/3 ms rounded down (log 2), the backoff drawn is any of its range (log 4), the score comes before the slot
(log 38), and the standing at the attempt's end says whether there is a backoff (log 44). -/
def Obligations.CollisionEndsAttempt : Prop :=
  (∀ (s : State) (atByte : Nat), s.inRun = false →
    (s.trunk.attempt = none → completes (.collision atByte) s fun t => t = s) ∧
    ∀ a : Attempt, s.trunk.attempt = some a → a.disregarded = true →
      completes (.collision atByte) s (disregardedEnds s)) ∧
  ∀ (s : State) (atByte : Nat), s.inRun = true →
    (s.trunk.attempt = none → completes (.collision atByte) s fun t => t = { lineHeard s with
      trunk.rx := match s.trunk.rx with | .frame _ => .discard | r => r }) ∧
    (∀ a : Attempt, s.trunk.attempt = some a → a.disregarded = true → completes (.collision atByte) s
      (disregardedEnds { lineHeard s with trunk.rx := match s.trunk.rx with | .frame _ => .discard | r => r })) ∧
    ∀ (a : Attempt) (b : Body) (n : Nat) (next : Option Body),
      s.trunk.attempt = some a → a.disregarded = false → s.trunk.slots.get a.kind = .sending b n next →
      s.trunk.txScore ≤ 200 → completes (.collision atByte) s fun t =>
        attemptFailed a.kind b n next (if atByte < 6 then 0 else 10) s t ∧ t.trunk.lineFree = false ∧
        t.trunk.lastActivity = s.elapsed ∧ t.trunk.rx = (match s.trunk.rx with | .frame _ => .discard | r => r) ∧
        (s.trunk.standing.silent = false → t.trunk.txScore ≠ s.trunk.txScore →
          t.trunk.standing = standingOf t.trunk.txScore s.trunk.rxScore) ∧
        (s.trunk.standing.silent = true → t.trunk.standing = s.trunk.standing) ∧
        (ScoresOk s → standingFollows s t ∧ (t.trunk.standing ≠ s.trunk.standing → shareFollows s t)) ∧
        outsideTank t = outsideTank { s with
          trunk := { s.trunk with
            attempt := none, lineFree := false, lastActivity := s.elapsed, rx := t.trunk.rx
            txScore := t.trunk.txScore, standing := t.trunk.standing, cutoffHold := t.trunk.cutoffHold }
          port := { s.port with flags := t.port.flags, attention := t.port.attention } }

/-- R1, R8, R11, R12, R19, R24, R25, R41, R42, R143: the last byte of an attempt has been driven, its L byte-times of 25/48 ms, rounded
down (log 2), having passed since it began; before that nothing changes (log 1). A clean send of a LIMIT sets the limit
record. An echo not yet whole is an echo fault (log 13), the last byte is activity on the line (log 14), the backoff drawn
is any of its range (log 4), the score comes before the slot (log 38), and the standing at the attempt's end says whether
there is a backoff (log 44). -/
def Obligations.LastByteEndsAttempt : Prop :=
  (∀ (s : State) (a : Attempt), s.trunk.attempt = some a → s.elapsed < a.began + a.bytes.length * 25 / 48 →
    completes .lastByteDriven s fun t => t = s) ∧
  (∀ (s : State) (a : Attempt), s.trunk.attempt = some a → a.began + a.bytes.length * 25 / 48 ≤ s.elapsed →
    a.disregarded = true →
    completes .lastByteDriven s (disregardedEnds { s with trunk.lastActivity := s.elapsed })) ∧
  ∀ (s : State) (a : Attempt) (b : Body) (n : Nat) (next : Option Body),
    s.trunk.attempt = some a → a.began + a.bytes.length * 25 / 48 ≤ s.elapsed → a.disregarded = false →
    s.trunk.slots.get a.kind = .sending b n next →
    a.body.kind = a.kind → s.trunk.txScore ≤ 200 →
    (a.echo ≠ some a.bytes → completes .lastByteDriven s fun t =>
      attemptFailed a.kind b n next 10 s t ∧ t.trunk.rx = s.trunk.rx ∧ t.trunk.lastActivity = s.elapsed ∧
      t.peers = s.peers ∧ t.time = s.time ∧
      (ScoresOk s → standingFollows s t ∧ (t.trunk.standing ≠ s.trunk.standing → shareFollows s t))) ∧
    (a.echo = some a.bytes → completes .lastByteDriven s fun t =>
      t.trunk.attempt = none ∧ t.trunk.txScore = s.trunk.txScore - 1 ∧ t.trunk.rxScore = s.trunk.rxScore ∧
      t.trunk.presence = some (s.elapsed + 1000 * s.cfg.presenceInterval) ∧
      (a.kind ≠ .claim ∨ t.trunk.standing = s.trunk.standing →
        t.trunk.slots.get a.kind = match next with | none => .empty | some b' => .waiting b' 0) ∧
      (∀ j : Kind, j ≠ a.kind → j ≠ .claim → t.trunk.slots.get j = s.trunk.slots.get j) ∧
      t.peers = { s.peers with limit := match a.body with
        | .limit l => some ⟨l.capacity, l.validity, s.ownAddress, ⟨s.elapsed, a.stamp⟩, true⟩
        | _ => s.peers.limit } ∧
      limitFlagged (match a.body with | .limit l => some l.capacity | _ => none) s t ∧
      (t.trunk.firstEligible = none → t.trunk.tx = .idle ∧ t.trunk.txUntil = none) ∧
      (t.trunk.firstEligible ≠ none → s.trunk.lineFree = false →
        t.trunk.tx = .waitLine ∧ t.trunk.txUntil = none) ∧
      (s.trunk.standing.silent = false → t.trunk.txScore ≠ s.trunk.txScore →
        t.trunk.standing = standingOf t.trunk.txScore s.trunk.rxScore) ∧
      (ScoresOk s → standingFollows s t) ∧
      (a.kind = .limit ∧ t.trunk.standing = s.trunk.standing ∨ a.kind ≠ .limit ∧ t.trunk.standing ≠ s.trunk.standing →
        shareFollows s t) ∧
      outsideTank t = outsideTank { s with
        trunk := { s.trunk with
          attempt := none, lastActivity := s.elapsed, txScore := t.trunk.txScore, standing := t.trunk.standing
          presence := t.trunk.presence, cutoffHold := t.trunk.cutoffHold }
        peers := t.peers, port := { s.port with flags := t.port.flags, attention := t.port.attention } })

/-- R15 to R19, in RUN: a byte arrives and is gathered; a bulletin that is bad is scored, an echo goes to the attempt, and
one with the own address is a clash. Its first byte is taken when it begins (log 11). -/
def Obligations.BytesAreGathered : Prop :=
  ∀ (s : State) (b : Byte), s.inRun = true →
    (s.trunk.rx = .off ∨ s.trunk.rx = .discard → completes (.byteReceived b) s fun t => t = lineHeard s) ∧
    (s.trunk.rx = .listen → completes (.byteReceived b) s fun t => t = { lineHeard s with
      trunk.rx := .frame ⟨[b], s.time.t, decide (s.trunk.tx = .send), false⟩ }) ∧
    ∀ (g : Gathering) (bs : List Byte), s.trunk.rx = .frame g → bs = g.bytes ++ [b] →
      (bs.length < 4 ∨ (bs.length = 4 ∧ headerGood bs = true ∧ byteAt bs 2 ≠ 4) ∨
        (4 < bs.length ∧ bs.length ≠ byteAt bs 2) →
        completes (.byteReceived b) s fun t => t = { lineHeard s with trunk.rx := .frame { g with bytes := bs } }) ∧
      (bs.length = 4 ∧ headerGood bs = false ∨ 4 < bs.length ∧ bs.length = byteAt bs 2 ∧ bulletinGood bs = false →
        completes (.byteReceived b) s fun t =>
          (g.echo = true → t = { lineHeard s with trunk.rx := .discard }) ∧
          (g.echo = false → t.trunk.rx = .discard ∧ t.trunk.rxScore = min 100 (s.trunk.rxScore + 2) ∧
            t.trunk.txScore = s.trunk.txScore ∧
            (s.trunk.cutoffHold.isSome = true → t.trunk.cutoffHold = some (s.elapsed + 1000 * s.cfg.cutoffHold)) ∧
            t.peers = s.peers ∧ t.time = s.time ∧ t.rain = s.rain ∧ t.elapsed = s.elapsed ∧
            (ScoresOk s → standingFollows s t) ∧ (t.trunk.standing ≠ s.trunk.standing → shareFollows s t))) ∧
      (4 < bs.length → bs.length = byteAt bs 2 → bulletinGood bs = true → completes (.byteReceived b) s fun t =>
        t.trunk.rx = .discard ∧
        (g.echo = true → t = { lineHeard s with
          trunk.rx := .discard, trunk.attempt := s.trunk.attempt.map fun a => { a with echo := some bs } }) ∧
        (g.echo = false → t.trunk.rxScore = s.trunk.rxScore - 1) ∧
        (g.echo = false → (parseBulletin bs).sender ≠ s.ownAddress → ScoresOk s → standingFollows s t) ∧
        (g.echo = false → (parseBulletin bs).sender = s.ownAddress →
          t.trunk.standing = .cutOff .clash ∧ t.port.flags.getLsbD 14 = true ∧ t.peers = s.peers ∧
          (s.trunk.standing ≠ .cutOff .clash → t.port.flags.getLsbD 6 = true) ∧
          t.time = s.time ∧ (s.trunk.standing ≠ .cutOff .clash → t.trunk.cutoffHold = none)))

/-- R17, R26 to R35, R37, R40, R41, R44, R134, R143: a good bulletin of another station, its last byte now received. The
release timer between its conditions is log 21. -/
def Obligations.GoodBulletinsAreTaken : Prop :=
  ∀ (s : State) (b : Byte) (g : Gathering) (bs : List Byte) (r : Received), s.inRun = true →
    s.trunk.rx = .frame g → g.echo = false → bs = g.bytes ++ [b] → 4 < bs.length → bs.length = byteAt bs 2 →
    bulletinGood bs = true → r = parseBulletin bs → r.sender ≠ s.ownAddress → PeersOk s →
    ((∀ i, i < 4 → (s.cfg.accept.get i).uses = ⟨false, false, false, false⟩ ∨
        r.sender &&& (s.cfg.accept.get i).mask ≠ (s.cfg.accept.get i).value &&& (s.cfg.accept.get i).mask) →
      completes (.byteReceived b) s fun t => t.peers = s.peers ∧ t.time = s.time ∧ t.rain = s.rain) ∧
    ∀ (hit : Nat) (u : Uses), hit < 4 → u = (s.cfg.accept.get hit).uses → u ≠ ⟨false, false, false, false⟩ →
      r.sender &&& (s.cfg.accept.get hit).mask = (s.cfg.accept.get hit).value &&& (s.cfg.accept.get hit).mask →
      (∀ i, i < hit → (s.cfg.accept.get i).uses = ⟨false, false, false, false⟩ ∨
        r.sender &&& (s.cfg.accept.get i).mask ≠ (s.cfg.accept.get i).value &&& (s.cfg.accept.get i).mask) →
      completes (.byteReceived b) s fun t =>
        (∀ e0, (e0 ∈ s.peers.entries ∧ e0.address = r.sender) ∨
            ((∀ e ∈ s.peers.entries, e.address ≠ r.sender) ∧ s.peers.entries.length < 24 ∧
              e0 = ⟨r.sender, hit, g.stamp, g.stamp, r.clock, r.quiet, none, none, s.elapsed⟩) →
          { e0 with
            lastHeard := g.stamp, lastClock := r.clock, lastQuiet := r.quiet, accepted := s.elapsed
            claim := (match r.body, u.claim with
              | .claim c, true => some
                { requested := min 20000 c.requested, drawn := min 20000 c.drawn, fill := min 1000 c.fill
                  weight := if c.weight = 0 then 1 else min 15 c.weight, spilling := decide (c.urgency ≠ 0)
                  period := if c.period < 5 then 5 else min 60 c.period, arrival := s.elapsed, fresh := true }
              | _, _ => e0.claim)
            rain := (match r.body, u.rain with
              | .rain x, true => if x.level = 0 then none else some
                ⟨[AlertLevel.clear, .watch, .warning, .severe].getD (min 3 x.level) .severe, x.short, x.long, x.age,
                  s.elapsed⟩
              | _, _ => e0.rain) } ∈ t.peers.entries ∧
          ∀ e, e.address ≠ r.sender → (e ∈ t.peers.entries ↔ e ∈ s.peers.entries)) ∧
        ((∀ e ∈ s.peers.entries, e.address ≠ r.sender) → s.peers.entries.length = 24 →
          (∀ e ∈ s.peers.entries, e.claim ≠ none ∨ e.rain ≠ none) →
          t.peers.entries = s.peers.entries ∧ t.port.flags.getLsbD 13 = true) ∧
        ((∀ e ∈ s.peers.entries, e.address ≠ r.sender) → s.peers.entries.length = 24 →
          (∃ e ∈ s.peers.entries, e.claim = none ∧ e.rain = none) →
          ∃ old ∈ s.peers.entries, old.claim = none ∧ old.rain = none ∧
            (∀ e ∈ s.peers.entries, e.claim = none → e.rain = none → old.accepted ≤ e.accepted) ∧
            (∃ e ∈ t.peers.entries, e.address = r.sender ∧ e.firstHeard = g.stamp) ∧
            ∀ e, e.address ≠ r.sender → (e ∈ t.peers.entries ↔ e ∈ s.peers.entries ∧ e ≠ old)) ∧
        t.peers.limit = (match r.body, u.limit with
          | .limit l, true => some
            ⟨min 20000 l.capacity, if l.validity < 10 then 10 else min 3600 l.validity, r.sender,
              ⟨s.elapsed, g.stamp⟩, true⟩
          | _, _ => s.peers.limit) ∧
        limitFlagged (match r.body, u.limit with | .limit l, true => some (min 20000 l.capacity) | _, _ => none) s t ∧
        (t.trunk.standing = s.trunk.standing → t.time.t = s.time.t →
          alertNotified s t ∧
          ((∃ c, r.body = .claim c) ∧ u.claim = true ∧ (∃ e ∈ t.peers.entries, e.address = r.sender) ∨
            (∃ l, r.body = .limit l) ∧ u.limit = true → shareFollows s t)) ∧
        t.time = (if u.time then (timeTakesSample ⟨r.sender, r.clock, r.time, g.stamp, g.stepped⟩ s).time else s.time) ∧
        t.elapsed = s.elapsed ∧ t.input.digital = s.input.digital ∧ t.input.gauges = s.input.gauges ∧ t.spill = s.spill

/-- R50 to R55, R58, R142: a time sample. At exactly 60 s after the preference the lapse decides (log 42). -/
def Obligations.TimeSamplesSetTheClock : Prop :=
  ∀ (s : State) (x : TimeSample) (v : Int), v = x.time + s.cfg.lineDelay - x.arrival →
    (x.clock = .unset ∨ x.clock = .following ∨ s.time.clock = .anchored ∨ s.cfg.anchor = true ∨ x.stepped = true ∨
      (x.clock = .settled ∧ ∃ p, s.time.anchorPref = some p ∧ s.elapsed < p + 60000) → timeTakesSample x s = s) ∧
    (s.time.clock ≠ .anchored → s.cfg.anchor = false → x.stepped = false →
      (x.clock = .anchored ∨ (x.clock = .settled ∧ ∀ p, s.time.anchorPref = some p → p + 60000 < s.elapsed)) →
      (timeTakesSample x s).time.lastSample = some ⟨x.sender, v,
        if s.time.clock = .unset then .step else if s.cfg.stepLimit < v.natAbs then .outlier else .used, s.elapsed⟩ ∧
      (timeTakesSample x s).time.anchorPref = (if x.clock = .anchored then some s.elapsed else s.time.anchorPref) ∧
      (s.time.clock = .unset →
        ((timeTakesSample x s).time.t : Int) = max 0 (min (2 ^ 48 - 1) (s.time.t + v)) ∧
        (timeTakesSample x s).time.clock = .following ∧ (timeTakesSample x s).time.e = 0 ∧
        (timeTakesSample x s).time.settleRun = 0 ∧ (timeTakesSample x s).time.outlierRun = 0 ∧
        (timeTakesSample x s).port.flags = s.port.flags ||| BitVec.twoPow 15 7 ∧
        (timeTakesSample x s).drain.claimTarget = nextClaimInstant s (timeTakesSample x s).time.t) ∧
      (s.time.clock ≠ .unset → s.cfg.stepLimit < v.natAbs →
        (timeTakesSample x s).time.t = s.time.t ∧ (timeTakesSample x s).time.e = s.time.e ∧
        (timeTakesSample x s).time.clock = s.time.clock ∧
        (timeTakesSample x s).time.outlierRun = (if s.time.outlierRun + 1 = 8 then 0 else s.time.outlierRun + 1) ∧
        (s.time.outlierRun + 1 = 8 → (timeTakesSample x s).port.flags = s.port.flags ||| BitVec.twoPow 15 8)) ∧
      (s.time.clock ≠ .unset → v.natAbs ≤ s.cfg.stepLimit →
        (timeTakesSample x s).time.t = s.time.t ∧ (timeTakesSample x s).time.outlierRun = 0 ∧
        (timeTakesSample x s).time.e = max (-(16 * (s.cfg.stepLimit : Int))) (min (16 * (s.cfg.stepLimit : Int))
          (s.time.e + Int.tdiv (16 * v - s.time.e) (2 ^ s.cfg.clockDepth))) ∧
        ((timeTakesSample x s).time.clock =
          if s.time.clock = .settled ∧ 160 ≤ (timeTakesSample x s).time.e.natAbs then .following else s.time.clock)))

/-! ### Composing and reading a bulletin -/

/-- R2, R3, R16: a bulletin composed from fields that fit passes every check, and reads back as those fields. -/
def Obligations.ComposedBulletinReadsBack : Prop :=
  ∀ (body : Body) (address : Addr) (clock : ClockState) (quiet : Bool) (time : Nat) (bs : List Byte),
    (match body with
      | .claim c => c.requested < 65536 ∧ c.drawn < 65536 ∧ c.fill < 65536 ∧ c.weight < 256 ∧ c.urgency < 256 ∧ c.period < 256
      | .rain r => r.level < 256 ∧ r.short < 65536 ∧ r.long < 65536 ∧ r.age < 65536
      | .limit l => l.capacity < 65536 ∧ l.validity < 65536
      | .presence => True) →
    stationOf address ≠ 0 → stationOf address ≠ 255 → time ≤ maxTime →
    bs = composeBulletin body address clock quiet time →
    bs.length = body.kind.length ∧ bulletinGood bs = true ∧ parseBulletin bs = ⟨address, clock, quiet, time, body⟩

/-! ### Timers of the trunk, of the claim and of the peer table -/

/-- R6, R140, R141: the presence interval and the claim timer queue their bulletins; the claim timer's expiry is a command
of its own (log 32). -/
def Obligations.TimersQueueBulletins : Prop :=
  (∀ (s : State) (x : Nat), s.trunk.presence = some x → x ≤ s.elapsed → completes .presenceIntervalExpiry s fun t =>
    t.trunk.slots = { s.trunk.slots with presence := match s.trunk.slots.presence with
      | .empty => .waiting .presence 0
      | .waiting _ n => .waiting .presence n
      | .sending b n _ => .sending b n (some .presence) } ∧
    t.trunk.presence = some (s.elapsed + 1000 * s.cfg.presenceInterval) ∧
    t = { s with
      trunk := { s.trunk with
        slots := t.trunk.slots, presence := t.trunk.presence, tx := t.trunk.tx, txUntil := t.trunk.txUntil }
      free := t.free }) ∧
  ∀ (s : State) (x p d : Nat), s.drain.claimTarget = some x → x ≤ s.time.t → 0 < s.cfg.claimPeriod →
    p = 1000 * s.cfg.claimPeriod → d = stationOf s.ownAddress * s.cfg.claimSpacing % p →
    completes .claimTimerExpiry s fun t =>
      t.trunk.slots = { s.trunk.slots with claim := s.trunk.slots.claim.queue (.claim
        { requested := s.drain.claim.requested, drawn := s.drain.claim.drawn, fill := s.drain.claim.fill
          weight := s.drain.claim.weight, urgency := if s.drain.claim.spilling then 1 else 0
          period := s.cfg.claimPeriod }) } ∧
      (∃ y, y % p = d ∧ s.time.t < y ∧ y ≤ s.time.t + p ∧
        t.drain.claimTarget = if y ≤ 2 ^ 48 - 1 then some y else none) ∧
      t = { s with
        trunk := { s.trunk with slots := t.trunk.slots, tx := t.trunk.tx, txUntil := t.trunk.txUntil }
        free := t.free, drain.claimTarget := t.drain.claimTarget }

/-- R36, R39, R44, R143 b: claim parts age, strictly beyond their bounds (log 33), and the share computation runs on what is
left. -/
def Obligations.ClaimPartsAge : Prop :=
  ∀ (s : State) (e : PeerEntry) (c : ClaimPart), PeersOk s → e ∈ s.peers.entries → e.claim = some c →
    (c.fresh = true → c.arrival + 1000 * (2 * c.period + 2) < s.elapsed →
      completes (.claimPartStale e.address) s fun t =>
        t = drainTakesShareNotice { s with peers.entries := t.peers.entries } ∧ shareFollows s t ∧
        t.peers.entries = s.peers.entries.map fun x => if x.address = e.address then
          { e with claim := some { c with fresh := false } } else x) ∧
    (s.elapsed ≤ c.arrival + 1000 * (2 * c.period + 2) → completes (.claimPartStale e.address) s fun t => t = s) ∧
    (c.arrival + 6000 * c.period < s.elapsed → completes (.claimPartRemoved e.address) s fun t =>
      t = drainTakesShareNotice { s with peers.entries := t.peers.entries } ∧ shareFollows s t ∧
      ∀ x, x ∈ t.peers.entries ↔ (x ∈ s.peers.entries ∧ x.address ≠ e.address) ∨
        (x = { e with claim := none } ∧
          ¬ (e.rain = none ∧ e.accepted + 1000 * s.cfg.forgetTime ≤ s.elapsed))) ∧
    (s.elapsed ≤ c.arrival + 6000 * c.period → completes (.claimPartRemoved e.address) s fun t => t = s)

/-- R38, R39, R43, R44, R85, R133, R134, R143: a rain part outlives RAIN_LIFETIME, and the limit record its validity.
The release timer between its conditions is log 21. -/
def Obligations.RainPartsAndLimitExpire : Prop :=
  (∀ (s : State) (e : PeerEntry) (p : RainPart), PeersOk s → e ∈ s.peers.entries → e.rain = some p →
    p.arrival + 60000 * s.cfg.rainLifetime ≤ s.elapsed → completes (.rainLifetimeExpiry e.address) s fun t =>
      (∀ x, x ∈ t.peers.entries ↔ (x ∈ s.peers.entries ∧ x.address ≠ e.address) ∨
        (x = { e with rain := none } ∧ ¬ (e.claim = none ∧ e.accepted + 1000 * s.cfg.forgetTime ≤ s.elapsed))) ∧
      s.rain.own.code ≤ t.rain.branch.code ∧
      (∀ x ∈ t.peers.entries, ∀ q, x.rain = some q → q.level.code ≤ t.rain.branch.code) ∧
      (t.rain.branch = s.rain.own ∨ ∃ x ∈ t.peers.entries, ∃ q, x.rain = some q ∧ q.level = t.rain.branch) ∧
      alertNotified s t ∧
      t.peers.limit = s.peers.limit ∧ t.rain = { s.rain with branch := t.rain.branch } ∧
      t.elapsed = s.elapsed ∧ t.time = s.time ∧ t.spill = s.spill) ∧
  ∀ (s : State) (r : LimitRecord), s.peers.limit = some r → r.fresh = true →
    r.arrival.instant + 1000 * r.validity ≤ s.elapsed → completes .limitValidityExpiry s fun t =>
      t = drainTakesShareNotice { s with
        peers.limit := some { r with fresh := false }
        port := s.port.withEvents (s.port.flags ||| BitVec.twoPow 15 9) s.port.mask } ∧ shareFollows s t ∧
      t.peers.limit = some { r with fresh := false } ∧ t.port.flags = s.port.flags ||| BitVec.twoPow 15 9

/-! ### The field -/

/-- R66 to R69, R82, R83, R108, R110 to R118, R139, R171: a sample of all three gauges, what the Spill Monitor makes of its head, flow
and volume, and what the Spill Counter takes of it. The table between two points is written out. A sample that makes a spell
lapse marks and adds nothing (log 26); the Tank Controller's and the Spill Monitor's events are taken in either order
(log 5). -/
def Obligations.SampleConvertsGauges : Prop :=
  (∀ (ps : List Point) (x : Nat), ps.IsChain (fun p q => p.x < q.x ∧ p.y ≤ q.y) →
    (∀ p, ps.head? = some p → x ≤ p.x → interpolate ps x = p.y) ∧
    (∀ p, ps.getLast? = some p → p.x ≤ x → interpolate ps x = p.y) ∧
    ∀ before p q after, ps = before ++ p :: q :: after → p.x ≤ x → x ≤ q.x →
      interpolate ps x = p.y + (x - p.x) * (q.y - p.y) / (q.x - p.x)) ∧
  ∀ (s : State) (x : Nat) (counts : GaugeCounts) (count : Gauge → BitVec 12),
    s.input.nextSample = some x → x ≤ s.elapsed →
    (count .sewer = counts.sewer ∧ count .tank = counts.tank ∧ count .overflow = counts.overflow) →
    completes (.sample counts) s fun t =>
      (∀ g : Gauge, 600 ≤ (count g).toNat ∧ (count g).toNat ≤ 3800 → t.input.gauges.get g =
        { level := s.cfg.datum.get g + ((count g).toNat - 600) * s.cfg.span.get g / 3200
          status := .good, run := 0, proven := true, raw := count g, previous := some s.elapsed }) ∧
      (∀ g : Gauge, ¬ (600 ≤ (count g).toNat ∧ (count g).toNat ≤ 3800) → t.input.gauges.get g =
        { level := (s.input.gauges.get g).level, run := min 255 ((s.input.gauges.get g).run + 1)
          status := if (s.input.gauges.get g).proven = true ∧ (s.input.gauges.get g).run + 1 ≤ 2 then .held else .failed
          proven := (s.input.gauges.get g).proven, raw := count g, previous := some s.elapsed }) ∧
      (t.port.flags.getLsbD 12 = true ↔ s.port.flags.getLsbD 12 = true ∨
        ∃ g : Gauge, ¬ (600 ≤ (count g).toNat ∧ (count g).toNat ≤ 3800) ∧ (s.input.gauges.get g).run = 2) ∧
      t.input.nextSample = some (s.elapsed + 1000 * s.cfg.samplePeriod) ∧ t.input.digital = s.input.digital ∧
      (t.input.gauges.tank.status ≠ .failed →
        t.tank.volume = interpolate s.cfg.stage t.input.gauges.tank.level ∧
        t.tank.fill = t.tank.volume * 1000 / lastY s.cfg.stage ∧ t.tank.assumedFull = false) ∧
      (t.input.gauges.tank.status = .failed →
        t.tank.volume = s.tank.volume ∧ t.tank.fill = s.tank.fill ∧ t.tank.assumedFull = s.tank.assumedFull) ∧
      (t.tank.fill ≠ s.tank.fill ∨ (t.tankGauge.status = .failed ↔ s.tankGauge.status ≠ .failed) ∨
          t.tank.state ≠ s.tank.state ∨ t.spill.state ≠ s.spill.state → claimReformed s t) ∧
      t.spill.head = some ((t.input.gauges.overflow.level : Int) - s.cfg.crest) ∧
      t.spill.status = some t.input.gauges.overflow.status ∧
      (t.spill.levelCond = true ↔ t.input.gauges.overflow.status ≠ .failed ∧
        s.cfg.crest + s.cfg.spillDeadband ≤ t.input.gauges.overflow.level) ∧
      t.spill.levelInstant = (if t.spill.levelCond = s.spill.levelCond then s.spill.levelInstant
        else some ⟨s.elapsed, s.time.t⟩) ∧
      (t.input.gauges.overflow.status = .failed ∨ t.input.gauges.overflow.level ≤ s.cfg.crest →
        t.spill.flow = 0 ∧ t.spill.beyond = false) ∧
      (t.input.gauges.overflow.status ≠ .failed → s.cfg.crest < t.input.gauges.overflow.level →
        (lastX s.cfg.weir < t.input.gauges.overflow.level - s.cfg.crest →
          t.spill.flow = lastY s.cfg.weir ∧ t.spill.beyond = true) ∧
        (t.input.gauges.overflow.level - s.cfg.crest ≤ lastX s.cfg.weir →
          t.spill.flow = interpolate s.cfg.weir (t.input.gauges.overflow.level - s.cfg.crest) ∧
          t.spill.beyond = false)) ∧
      t.spill.floatCond = s.spill.floatCond ∧ t.peers = s.peers ∧ t.time = s.time ∧ t.elapsed = s.elapsed ∧
      t.rain.bins = s.rain.bins ∧ t.rain.total = s.rain.total ∧ t.counter.log.readPos = s.counter.log.readPos ∧
      (∀ v : Spill, v = spillAfter s (t.spill.levelCond || s.spill.floatCond) ⟨s.elapsed, s.time.t⟩ { s.spill with
          head := t.spill.head, status := t.spill.status, flow := t.spill.flow, beyond := t.spill.beyond
          levelCond := t.spill.levelCond, levelInstant := t.spill.levelInstant } →
        (v.state = .clear → t.spill = v) ∧
        (s.spill.state = .onset → v.state = .clear → s.counter.spill = .onset →
          t.counter.summary = ⟨0, 0, false⟩ ∧
          (s.counter.event = none → t.counter.event = none ∧ t.counter.totals = s.counter.totals)) ∧
        ∀ (o : Stamped) (volume : Nat), v.state ≠ .clear → v.onset = some o →
          volume = v.remainder + v.flow * min
            (match s.input.gauges.overflow.previous with | none => 0 | some p => s.elapsed - p) (s.elapsed - o.instant) →
          (s.spill.state = .onset ∨ v.state = .onset →
            t.spill = { v with
              remainder := volume % 1000, provisional := v.provisional + volume / 1000
              marks := ⟨v.marks.held || decide (v.status = some .held), v.marks.beyond || v.beyond,
                v.marks.level || v.levelCond⟩ } ∧
            (∀ peak, s.counter.spill = s.spill.state →
              peak = (if v.status = some .failed then 0 else (v.head.getD 0).toNat) →
              t.counter.summary = (if s.counter.deferred.isSome
                then { s.counter.summary with after := max s.counter.summary.after peak }
                else { s.counter.summary with before := max s.counter.summary.before peak }) ∧
              t.counter.current = s.counter.current ∧ t.counter.levelSeen = s.counter.levelSeen ∧
              ∃ alert, t.counter.event = s.counter.event.map fun ev => { ev with peakAlert := alert })) ∧
          (s.spill.state ≠ .onset → v.state ≠ .onset →
            t.spill = { v with
              remainder := volume % 1000, confirmed := min (2 ^ 32 - 1) (v.confirmed + volume / 1000)
              marks := ⟨v.marks.held || decide (v.status = some .held), v.marks.beyond || v.beyond,
                v.marks.level || v.levelCond⟩ } ∧
            ∀ (ev : SpillEvent) (b : Block), s.counter.spill = s.spill.state → s.counter.event = some ev →
              s.counter.current = some b →
              t.counter.levelSeen = (s.counter.levelSeen || v.levelCond) ∧ t.counter.summary = s.counter.summary ∧
              t.counter.current = some { b with
                containsSpill := b.containsSpill || decide (v.state ≠ s.spill.state)
                peak := max b.peak (if v.status = some .failed then 0 else (v.head.getD 0).toNat) } ∧
              ∃ alert, ev.peakAlert.code ≤ alert.code ∧ t.counter.event = some { ev with
                litres := min (2 ^ 32 - 1) (ev.litres + volume / 1000), peakAlert := alert
                flags := { ev.flags with
                  sensorHeld := ev.flags.sensorHeld || decide (v.status = some .held)
                  headBeyondTable := ev.flags.headBeyondTable || v.beyond } })) ∧
      (s.counter.spill = s.spill.state → t.counter.spill = t.spill.state)

/-- R70 to R72: a contact moves, and a level that has held for its FILTER is recognised, captured and handed to the
owner of its input. What the gate (R96, R99, R100 b), the Spill Monitor (R109 to R113) and the Drain Controller (R152 to R156)
make of it is written out; the tank's state machine then evaluates a gate's edge (R103), and a changed pump's claim and notices
follow (R139, R143, R159), and with it an open command that waits for the pump (R90). The gate direction at a limit and in FAULT is log 23. -/
def Obligations.ContactsAreFiltered : Prop :=
  (∀ (s : State) (i : DigitalIn) (level : Bool), completes (.rawTransition i level) s fun t =>
    t.input.digital.get i = { s.input.digital.get i with
      raw := level
      candidate :=
        if (s.input.digital.get i).raw = level ∨ (s.input.digital.get i).recognised = none
          then (s.input.digital.get i).candidate
        else if (s.input.digital.get i).recognised = some level then none
        else some ⟨level, ⟨s.elapsed, s.time.t⟩⟩ } ∧
    (∀ j, j ≠ i → t.input.digital.get j = s.input.digital.get j) ∧
    t = { s with input.digital := t.input.digital }) ∧
  ∀ (s : State) (i : DigitalIn) (e : Candidate) (d : DigitalInput) (mode : CaptureMode) (old new : Capture),
    (s.input.digital.get i).candidate = some e → e.since.instant + s.cfg.filter.get i ≤ s.elapsed →
    d = s.input.digital.get i →
    (mode = if e.level then (s.cfg.capture.get i).rising else (s.cfg.capture.get i).falling) →
    (old = if e.level then d.rising else d.falling) →
    (new = match mode with
      | .continuous => ⟨true, old.lost || old.captured, e.since.stamp⟩
      | .single => if old.captured then ⟨true, true, old.stamp⟩ else ⟨true, old.lost, e.since.stamp⟩
      | .off => old) →
    completes (.filterExpiry i) s fun t =>
      t.input.digital.get i = { d with
        recognised := some e.level, candidate := none
        rising := if e.level then new else d.rising, falling := if e.level then d.falling else new } ∧
      (∀ j, j ≠ i → t.input.digital.get j = s.input.digital.get j) ∧
      t = (match i with
        | .rainTip => rainTakesEdge e.level e.since
        | .gateOpenLimit => tankTakesEdge .toOpen e.level
        | .gateClosedLimit => tankTakesEdge .toClose e.level
        | .spillFloat => spillTakesEdge e.level e.since
        | .pumpRunning => drainTakesEdge e.level) { s with input.digital := t.input.digital } ∧
      (∀ (d : GateDir) (u : State), (i, d) ∈ [(DigitalIn.gateOpenLimit, GateDir.toOpen), (.gateClosedLimit, .toClose)] →
        u = { s with input.digital := t.input.digital } →
        (s.tank.gate ≠ some .fault → u.asserted .gateOpenLimit = true → u.asserted .gateClosedLimit = true →
          t = tankEvaluate false { u with
            tank := { u.tank with gate := some .fault, gateDir := none, gateTimer := none, retries := 0 }
            input.gateDrive := .off
            port := u.port.withEvents (u.port.flags ||| BitVec.twoPow 15 10) u.port.mask
            counter.event := u.counter.event.map fun ev => { ev with flags.gateFault := true } }) ∧
        (s.tank.gate = some .fault → t = tankEvaluate false u) ∧
        (¬ (u.asserted .gateOpenLimit = true ∧ u.asserted .gateClosedLimit = true) →
          (e.level = true → s.tank.gate = some d.moving ∨ (s.tank.gate = some .retryWait ∧ s.tank.gateDir = some d) →
            t = tankEvaluate false { u with
              tank := { u.tank with gate := some d.atLimit, gateDir := none, gateTimer := none, retries := 0 }
              input.gateDrive := .off }) ∧
          (e.level = false → s.tank.gate = some d.atLimit → t = tankEvaluate false { u with
            tank := { u.tank with
              gate := some d.moving, gateDir := some d, retries := 0
              gateTimer := some (s.elapsed + 1000 * s.cfg.gateTravel) }
            input.gateDrive := d.drive }) ∧
          (¬ (e.level = true ∧
                (s.tank.gate = some d.moving ∨ (s.tank.gate = some .retryWait ∧ s.tank.gateDir = some d))) →
            ¬ (e.level = false ∧ s.tank.gate = some d.atLimit) → t = tankEvaluate false u))) ∧
      (i = .spillFloat → ∀ first change : Stamped,
        (first = match s.spill.stateInstant with
          | some b => if e.since.instant < b.instant then b else e.since
          | none => e.since) →
        (change = match e.level, s.spill.levelInstant with
          | false, some b => if first.instant < b.instant then b else first
          | _, _ => first) →
        t.spill = spillAfter s (s.spill.levelCond || e.level) change { s.spill with floatCond := e.level } ∧
        (t.spill.state ≠ s.spill.state → t.counter.spill = t.spill.state)) ∧
      (i = .pumpRunning → ∀ u : State, u = { s with input.digital := t.input.digital } →
        (s.drain.pump = some .starting → e.level = true →
          t = pumpChanges u { u with drain.pump := some .running, drain.pumpTimer := none } ∧
          t.drain.pump ∈ [some .running, some .stopping] ∧ claimReformed s t) ∧
        (s.drain.pump = some .stopping → e.level = false →
          t = pumpChanges u { u with drain := { u.drain with
            pump := some .stopped, pumpTimer := none, restElapsed := false
            restTimer := some (s.elapsed + 1000 * s.cfg.pumpRest) } } ∧
          t.drain.pump = some .stopped ∧ t.drain.pumpTimer = none ∧ t.drain.restElapsed = false ∧
          t.drain.restTimer = some (s.elapsed + 1000 * s.cfg.pumpRest) ∧ claimReformed s t ∧ deferralEnds s t) ∧
        (s.drain.pump = some .running ∧ e.level = false ∨ s.drain.pump = some .stopped ∧ e.level = true →
          t = pumpChanges u { u with
            drain := { u.drain with
              pump := some .fault, setpoint := 0, pumpTimer := none, restTimer := none, restElapsed := false }
            input.pumpRun := false, input.pumpRate := 0
            port := u.port.withEvents (u.port.flags ||| BitVec.twoPow 15 11) u.port.mask } ∧
          t.drain.pump = some .fault ∧ t.drain.setpoint = 0 ∧ t.input.pumpRun = false ∧ t.input.pumpRate = 0 ∧
          t.drain.claim.requested = 0 ∧
          t.drain.claim.drawn = (if e.level then s.drain.lastNonzero.getD s.cfg.pumpMax else 0) ∧
          t.tank.state ≠ .draining ∧ t.port.flags = s.port.flags ||| BitVec.twoPow 15 11 ∧ claimReformed s t ∧
          deferralEnds s t) ∧
        (s.drain.pump = some .fault →
          t = pumpChanges u u ∧ t.drain.pump = some .fault ∧ claimReformed s t ∧
          t.drain.claim.drawn = (if e.level then s.drain.lastNonzero.getD s.cfg.pumpMax else 0)) ∧
        ((s.drain.pump, e.level) ∈ [(none, true), (none, false), (some .starting, false), (some .running, true),
            (some .stopping, true), (some .stopped, false)] → t = u)) ∧
      t.input.gauges = s.input.gauges ∧ t.time = s.time ∧ t.peers = s.peers ∧ t.elapsed = s.elapsed

/-! ### Rain and alerts -/

/-- R123 to R129, R131 to R134: tips, the end of a minute, and the evaluation of the own alert that follows.
The release timer between its conditions is log 21. -/
def Obligations.TipsAndMinutesAreCounted : Prop :=
  (∀ (s : State) (tip : Stamped), rainTakesEdge false tip s = s) ∧
  (∀ (s : State) (tip last : Stamped), s.rain.lastTip = some last →
    tip.instant < last.instant + 1000 * s.cfg.tipMinSpacing →
    rainTakesEdge true tip s = { s with rain.rejected := min 65535 (s.rain.rejected + 1) }) ∧
  (∀ (s t : State) (tip : Stamped) (done : List Nat) (n : Nat),
    (∀ last, s.rain.lastTip = some last → last.instant + 1000 * s.cfg.tipMinSpacing ≤ tip.instant) →
    s.rain.bins = done ++ [n] → t = rainTakesEdge true tip s →
    t.rain.lastTip = some tip ∧ t.rain.bins = done ++ [min 255 (n + 1)] ∧ t.rain.minutes = s.rain.minutes ∧
    t.rain.total = min (2 ^ 32 - 1) (s.rain.total + s.cfg.tipDepth) ∧
    t.rain.accepted = min 65535 (s.rain.accepted + 1) ∧ t.rain.rejected = s.rain.rejected ∧
    t.rain.short = min 65535 ((t.rain.bins.drop (t.rain.bins.length - s.cfg.shortWindow)).sum * s.cfg.tipDepth * 60 /
      s.cfg.shortWindow) ∧
    t.rain.long = min 65535 ((t.rain.bins.drop (t.rain.bins.length - 60)).sum * s.cfg.tipDepth * 60 / 60) ∧
    (t.rain.condSevere = true ↔ s.cfg.tSevere ≤ t.rain.short) ∧
    (t.rain.condWarning = true ↔ s.cfg.tWarn ≤ t.rain.short) ∧
    (t.rain.condWatch = true ↔ s.cfg.tWatch ≤ t.rain.long ∨ s.spill.state = .spilling) ∧
    t.rain.own = (if s.rain.own.code < t.rain.targetLevel.code then t.rain.targetLevel else s.rain.own) ∧
    alertEvaluated s t ∧ alertNotified s t ∧ t.spill = s.spill ∧ t.elapsed = s.elapsed) ∧
  ∀ (s : State) (x : Nat), s.rain.nextMinute = some x → x ≤ s.elapsed → completes .minuteEnd s fun t =>
    t.rain.bins = (s.rain.bins ++ [0]).drop (s.rain.bins.length + 1 - 60) ∧ t.rain.minutes = s.rain.minutes + 1 ∧
    t.rain.nextMinute = some (x + 60000) ∧
    t.rain.short = min 65535 ((t.rain.bins.drop (t.rain.bins.length - s.cfg.shortWindow)).sum * s.cfg.tipDepth * 60 /
      s.cfg.shortWindow) ∧
    t.rain.long = min 65535 ((t.rain.bins.drop (t.rain.bins.length - 60)).sum * s.cfg.tipDepth * 60 / 60) ∧
    t.rain.own = (if s.rain.own.code < t.rain.targetLevel.code then t.rain.targetLevel else s.rain.own) ∧
    alertEvaluated s t ∧ alertNotified s t ∧ t.rain.lastTip = s.rain.lastTip ∧ t.rain.total = s.rain.total ∧ t.rain.accepted = s.rain.accepted ∧
    t.rain.rejected = s.rain.rejected ∧ t.spill = s.spill ∧ t.peers = s.peers ∧ t.time = s.time ∧
    t.elapsed = s.elapsed ∧ t.input.gauges = s.input.gauges ∧ t.input.digital = s.input.digital

/-- R129 to R134: the alert hold takes the own alert one level down, and the repeat timer repeats the RAIN. The
release timer between its conditions is log 21. -/
def Obligations.AlertsFallAndRepeat : Prop :=
  (∀ (s : State) (x : Nat) (lower : AlertLevel), s.rain.hold = some x → x ≤ s.elapsed →
    (s.rain.own, lower) ∈ [(AlertLevel.severe, AlertLevel.warning), (.warning, .watch), (.watch, .clear)] →
    s.rain.short < s.cfg.tSevere →
    (s.cfg.tWarn ≤ s.rain.short → lower = .warning) →
    (s.cfg.tWatch ≤ s.rain.long ∨ s.spill.state = .spilling → lower ≠ .clear) →
    completes .alertHoldExpiry s fun t =>
      t.rain.own = lower ∧ t.rain.lastRise = s.rain.lastRise ∧
      t.trunk.slots.rain = s.trunk.slots.rain.queue (.rain ⟨lower.code, s.rain.short, s.rain.long, alertAge s⟩) ∧
      t.rain.rainRepeat = (if lower = .clear then none else some (s.elapsed + 60000 * s.cfg.rainRepeat)) ∧
      t.rain.hold = (if t.rain.condition lower then none else some (s.elapsed + 60000 * s.cfg.alertHold)) ∧
      lower.code ≤ t.rain.branch.code ∧ alertNotified s t ∧
      t.rain.bins = s.rain.bins ∧ t.rain.total = s.rain.total ∧ t.spill = s.spill ∧ t.peers = s.peers ∧
      t.time = s.time ∧ t.elapsed = s.elapsed) ∧
  ∀ (s : State) (x : Nat), s.rain.rainRepeat = some x → x ≤ s.elapsed → completes .rainRepeatExpiry s fun t =>
    t.trunk.slots = { s.trunk.slots with
      rain := s.trunk.slots.rain.queue (.rain ⟨s.rain.own.code, s.rain.short, s.rain.long, alertAge s⟩) } ∧
    t.rain.rainRepeat = (if s.rain.own = .clear then none else some (s.elapsed + 60000 * s.cfg.rainRepeat)) ∧
    t = { s with
      trunk := { s.trunk with slots := t.trunk.slots, tx := t.trunk.tx, txUntil := t.trunk.txUntil }
      free := t.free, rain.rainRepeat := t.rain.rainRepeat }

/-! ### The tank and its gate -/

/-- R84 to R87, R89, R91 to R93, R139, R140, R150 to R153: the transition that an evaluation makes, and with it the start of the pump, its
stop command and the setpoint's following of the share. The setpoint follows only while the pump is driven (log 24). -/
def Obligations.TankTransitions : Prop :=
  (∀ s : State,
    (s.drain.pump = some .stopped → s.cfg.pumpMin ≤ s.drain.share → 0 < s.drain.share → pumpStart s = { s with
      drain := { s.drain with
        pump := some .starting, setpoint := s.drain.share, lastNonzero := some s.drain.share
        pumpTimer := some (s.elapsed + 1000 * s.cfg.pumpStartTimeout) }
      input.pumpRun := true, input.pumpRate := s.drain.share * 1000 / s.cfg.pumpMax }) ∧
    (s.drain.pump ≠ some .stopped ∨ s.drain.share < s.cfg.pumpMin → pumpStart s = s) ∧
    (s.drain.pump ∈ [some .starting, some .running] → commandStop s = { s with
      drain := { s.drain with
        pump := some .stopping, setpoint := 0, pumpTimer := some (s.elapsed + 1000 * s.cfg.pumpStopTimeout) }
      input.pumpRun := false, input.pumpRate := 0 }) ∧
    (s.drain.pump ∉ [some .starting, some .running] →
      commandStop s = { s with drain.setpoint := 0, input.pumpRate := 0 }) ∧
    (s.tank.state = .draining → s.drain.pump ∈ [some .starting, some .running] →
      (s.drain.share < s.cfg.pumpMin → followShare s = commandStop s) ∧
      (s.cfg.pumpMin ≤ s.drain.share → 0 < s.drain.share →
        followShare s =
          if s.drain.share < s.drain.setpoint ∨ s.drain.setpoint + s.cfg.setpointDeadband ≤ s.drain.share then { s with
            drain := { s.drain with setpoint := s.drain.share, lastNonzero := some s.drain.share }
            input.pumpRate := s.drain.share * 1000 / s.cfg.pumpMax } else s)) ∧
    (s.tank.state ≠ .draining ∨ s.drain.pump ∉ [some .starting, some .running] → followShare s = s) ∧
    ((shareAndSetpoint s).drain.setpoint = (followShare (runShare s)).drain.setpoint ∧
      (shareAndSetpoint s).drain.pump = (followShare (runShare s)).drain.pump)) ∧
  ∀ (s : State) (isSample left admits permit barred : Bool),
    (admits = true ↔ (s.sewer.status ≠ .failed ∧ s.cfg.admitLevel ≤ s.sewer.level) ∨
      s.rain.branch = .warning ∨ s.rain.branch = .severe) →
    (permit = true ↔ s.tank.gate = some .closed ∧ s.sewer.status ≠ .failed ∧ s.sewer.level ≤ s.cfg.returnLevel ∧
      s.tankGauge.status ≠ .failed ∧ s.drain.pump = some .stopped ∧ s.drain.restElapsed = true ∧ s.drain.mode = .auto ∧
      s.cfg.pumpMin ≤ s.drain.share) →
    (barred = true ↔ s.drain.share < s.cfg.pumpMin ∨ s.sewer.status = .failed ∨
      s.cfg.returnLevel + s.cfg.returnHyst < s.sewer.level ∨ s.tankGauge.status = .failed ∨
      s.tank.gate ≠ some .closed ∨ s.drain.mode = .hold ∨ s.drain.pump = some .fault) →
    tankDecides isSample left s = (match s.tank.state with
      | .off => none
      | .admitting => none
      | .dry => if admits then some .admitting
          else if isSample = true ∧ s.cfg.emptyVolume + lastY s.cfg.stage / 100 < s.tank.volume then some .holding else none
      | .holding => if admits then some .admitting
          else if s.tank.volume ≤ s.cfg.emptyVolume then some .dry
          else if permit = true ∧ left = false then some .draining else none
      | .draining => if admits then some .admitting
          else if s.tank.volume ≤ s.cfg.emptyVolume then some .dry
          else if barred then some .holding else none) ∧
    (tankDecides isSample left s = none → left = false → tankEvaluate isSample s = s) ∧
    (tankDecides isSample left s = some .admitting → left = false →
      (tankEvaluate isSample s).tank.state = .admitting ∧ (tankEvaluate isSample s).tank.releaseTimer = none ∧
      (tankEvaluate isSample s).drain.setpoint = 0 ∧ (tankEvaluate isSample s).drain.claim.requested = 0 ∧
      ((tankEvaluate isSample s).tank.openDeferred = true ↔
        s.drain.pump ∈ [some .starting, some .running, some .stopping])) ∧
    (∀ (next : TankState) (u : State), tankDecides isSample false s = some next → s.tank.state = .draining →
      u = tankEvaluate isSample s →
      u.tank.state = next ∧ u.drain.setpoint = 0 ∧ u.input.pumpRate = 0 ∧
      (s.drain.pump ∈ [some .starting, some .running] → u.drain.pump = some .stopping ∧ u.input.pumpRun = false ∧
        u.drain.pumpTimer = some (s.elapsed + 1000 * s.cfg.pumpStopTimeout)) ∧
      (s.drain.pump ∉ [some .starting, some .running] → u.drain.pump = s.drain.pump ∧
        u.input.pumpRun = s.input.pumpRun ∧ u.drain.pumpTimer = s.drain.pumpTimer)) ∧
    (∀ u : State, tankDecides isSample false s = some .draining → u = tankEvaluate isSample s → 1 ≤ s.cfg.pumpMin →
      (s.tank.target = (if s.tank.mode = .forceOpen then some .toOpen else some .toClose) →
        s.cfg.pumpMin ≤ u.drain.share → u.tank.state = .draining) ∧
      (u.tank.state = .draining →
        u.drain.pump = some .starting ∧ u.input.pumpRun = true ∧
        u.drain.pumpTimer = some (s.elapsed + 1000 * s.cfg.pumpStartTimeout) ∧
        u.drain.setpoint = (if u.drain.share < s.drain.share ∨ s.drain.share + s.cfg.setpointDeadband ≤ u.drain.share
          then u.drain.share else s.drain.share) ∧
        u.drain.lastNonzero = some u.drain.setpoint ∧
        u.input.pumpRate = u.drain.setpoint * 1000 / s.cfg.pumpMax ∧ s.cfg.pumpMin ≤ u.drain.setpoint)) ∧
    (∀ next : TankState, tankDecides isSample false s = some next → claimReformed s (tankEvaluate isSample s)) ∧
    outsideTank (tankEvaluate isSample s) = outsideTank s

/-- R85, R87, R90, R94, R95: the release timer starts and stops in ADMITTING by the sample of SEWER, and ends ADMITTING. That a
level between the two conditions leaves it is log 21. -/
def Obligations.ReleaseTimerEndsAdmitting : Prop :=
  (∀ (s : State) (x : Nat) (counts : GaugeCounts), s.input.nextSample = some x → x ≤ s.elapsed →
    s.tank.state = .admitting → completes (.sample counts) s fun t =>
      t.tank.state = .admitting ∧ (t.rain.branch = s.rain.branch → releaseFollows s t)) ∧
  ∀ (s : State) (x : Nat), s.tank.releaseTimer = some x → x ≤ s.elapsed → s.tank.state = .admitting →
    ¬ ((s.sewer.status ≠ .failed ∧ s.cfg.admitLevel ≤ s.sewer.level) ∨
      s.rain.branch = .warning ∨ s.rain.branch = .severe) →
    completes .releaseTimerExpiry s fun t =>
      t.tank.state ∈ [.holding, .dry, .draining] ∧ t.tank.releaseTimer = none ∧ t.tank.openDeferred = false ∧
      (t.tank.state = .dry → s.tank.volume ≤ s.cfg.emptyVolume) ∧
      (s.tank.mode = .auto → t.tank.target = some .toClose) ∧
      (s.tank.mode = .auto → s.tank.target = some .toOpen → s.tank.gate = some .opened →
        s.asserted .gateClosedLimit = false →
        t.tank.gate = some .closing ∧ t.tank.gateDir = some .toClose ∧ t.input.gateDrive = .driveClose ∧
        t.tank.gateTimer = some (s.elapsed + 1000 * s.cfg.gateTravel) ∧ t.tank.retries = 0) ∧
      t.tank.volume = s.tank.volume ∧ t.tank.fill = s.tank.fill ∧ t.tank.mode = s.tank.mode ∧
      outsideTank t = outsideTank s

/-- R95 to R98, R100, R103: the gate's own timers. What they leave is then evaluated by the tank's state machine.
The gate direction at a limit and in FAULT is none by log 23. -/
def Obligations.GateTimersMoveTheGate : Prop :=
  (∀ (s : State) (d : GateDir) (x : Nat), s.tank.gate = some d.moving → s.tank.gateTimer = some x → x ≤ s.elapsed →
    (s.tank.retries < s.cfg.gateRetries → completes .gateTravelExpiry s fun t => t = tankEvaluate false { s with
      tank.gate := some .retryWait, tank.gateTimer := some (s.elapsed + 10000), input.gateDrive := .off }) ∧
    (s.cfg.gateRetries ≤ s.tank.retries → completes .gateTravelExpiry s fun t => t = tankEvaluate false { s with
      tank := { s.tank with gate := some .fault, gateDir := none, gateTimer := none, retries := 0 }
      input.gateDrive := .off
      port := s.port.withEvents (s.port.flags ||| BitVec.twoPow 15 10) s.port.mask
      counter.event := s.counter.event.map fun ev => { ev with flags.gateFault := true } })) ∧
  ∀ (s : State) (c : Instr) (d : GateDir) (x retries : Nat),
    (c = .retryWaitExpiry ∧ s.tank.gate = some .retryWait ∧ retries = s.tank.retries + 1) ∨
    (c = .reversalPauseExpiry ∧ s.tank.gate = some .reversing ∧ retries = 0) →
    s.tank.gateDir = some d → s.tank.gateTimer = some x → x ≤ s.elapsed →
    (s.asserted d.limit = true → completes c s fun t => t = tankEvaluate false { s with
      tank := { s.tank with gate := some d.atLimit, gateDir := none, gateTimer := none, retries := 0 }
      input.gateDrive := .off }) ∧
    (s.asserted d.limit = false → completes c s fun t => t = tankEvaluate false { s with
      tank := { s.tank with
        gate := some d.moving, gateDir := some d, gateTimer := some (s.elapsed + 1000 * s.cfg.gateTravel)
        retries := retries }
      input.gateDrive := d.drive })

/-! ### Spills -/

/-- R112 a, R113 c, R76, R139, R140, R164, R165, R167, R168, R170, R176: a spell is confirmed, with no event open, within an open event, and with
a block deferred; a spill ends; a spell lapses with a block deferred. The litres and marks of a confirmation that gives the
60th entry go to the event that closes (log 25), and the end of an event with no interval ended is log 31. -/
def Obligations.DebouncesConfirmAndEndSpills : Prop :=
  (∀ (s : State) (x : Nat) (o : Stamped), s.spill.state = .onset → s.spill.debounce = some x → x ≤ s.elapsed →
    s.spill.onset = some o → completes .startDebounceExpiry s fun t =>
      t.spill = { s.spill with
        state := .spilling, stateInstant := some ⟨s.elapsed, s.time.t⟩, debounce := none
        confirmed := min (2 ^ 32 - 1) (s.spill.confirmed + s.spill.provisional) } ∧
      t.port.flags.getLsbD 0 = true ∧ t.input.lamp = true ∧ t.counter.spill = .spilling ∧ t.drain.claim.spilling = true ∧
      claimReformed s t ∧
      1 ≤ t.rain.own.code ∧
      (s.counter.spill = .onset → s.counter.event = none →
        t.counter.eventNumber = (s.counter.eventNumber + 1) % 2 ^ 32 ∧
        t.counter.totals.opened = (s.counter.totals.opened + 1) % 2 ^ 32 ∧
        t.counter.current = some
          ⟨1, o, o.instant + 3600000 * s.cfg.blockFirst, true, 0, s.counter.summary.before⟩ ∧
        t.counter.spillSince = some o.instant ∧ t.counter.summary = ⟨0, 0, false⟩ ∧
        ∃ ev, t.counter.event = some ev ∧ ev.number = (s.counter.eventNumber + 1) % 2 ^ 32 ∧ ev.start = o ∧
          ev.litres = s.spill.provisional ∧ ev.rainAtOpen = s.rain.total ∧ ev.entries = [] ∧
          s.rain.branch.code ≤ ev.peakAlert.code ∧
          ev.flags = { timeUnset := decide (s.time.clock = .unset), timeSet := s.counter.summary.stepped
                       sensorHeld := s.spill.marks.held, switchOnly := false, headBeyondTable := s.spill.marks.beyond
                       gateFault := decide (s.tank.gate = some .fault), interrupted := false, split := false
                       continued := false }) ∧
      (∀ (ev : SpillEvent) (c : Block) (since : Nat), s.counter.spill = .onset → s.counter.event = some ev →
        s.counter.current = some c → s.counter.deferred = none →
        since = max (max o.instant c.start.instant) (ev.lastCredit.getD 0) →
        t.counter.current = some { c with
          credited := c.credited + (s.elapsed - since), containsSpill := true
          peak := max c.peak s.counter.summary.before } ∧
        t.counter.spillSince = some s.elapsed ∧ t.counter.summary = ⟨0, 0, false⟩ ∧
        t.counter.levelSeen = s.spill.marks.level ∧ t.counter.totals = s.counter.totals ∧
        t.counter.eventNumber = s.counter.eventNumber ∧
        ∃ alert, t.counter.event = some { ev with
          litres := min (2 ^ 32 - 1) (ev.litres + s.spill.provisional), peakAlert := alert
          flags := { ev.flags with
            sensorHeld := ev.flags.sensorHeld || s.spill.marks.held
            headBeyondTable := ev.flags.headBeyondTable || s.spill.marks.beyond } }) ∧
      (∀ (ev : SpillEvent) (c d : Block) (since : Nat) (counted : BlockEntry) (flags : RecordFlags),
        s.counter.spill = .onset → s.counter.event = some ev → s.counter.current = some c → s.counter.deferred = some d →
        since = max (max o.instant d.start.instant) (ev.lastCredit.getD 0) →
        counted = ⟨d.index, d.start.stamp, (d.credited + (d.nominalEnd - since)) / 1000,
          max d.peak s.counter.summary.before⟩ →
        flags = { ev.flags with
          sensorHeld := ev.flags.sensorHeld || s.spill.marks.held
          headBeyondTable := ev.flags.headBeyondTable || s.spill.marks.beyond } →
        t.counter.deferred = none ∧ t.counter.spillSince = some c.start.instant ∧ t.counter.summary = ⟨0, 0, false⟩ ∧
        t.counter.totals.counted = (s.counter.totals.counted + 1) % 2 ^ 32 ∧
        t.counter.totals.seconds = (s.counter.totals.seconds + counted.seconds) % 2 ^ 32 ∧
        (ev.entries.length < 59 →
          t.counter.current = some { c with containsSpill := true, peak := max c.peak s.counter.summary.after } ∧
          t.counter.levelSeen = s.spill.marks.level ∧ t.counter.eventNumber = s.counter.eventNumber ∧
          ∃ alert, t.counter.event = some { ev with
            litres := min (2 ^ 32 - 1) (ev.litres + s.spill.provisional), flags := flags, peakAlert := alert
            entries := ev.entries ++ [counted] }) ∧
        (ev.entries.length = 59 →
          (∃ r flag, recordPlaced r flag s t ∧ r.number = ev.number ∧
            r.start = ev.start.stamp ∧ r.finish = s.time.t ∧ r.entries = ev.entries ++ [counted] ∧
            r.volume = min (2 ^ 32 - 1) (ev.litres + s.spill.provisional) / 1000 ∧
            r.rain = s.rain.total - ev.rainAtOpen ∧
            r.flags = { flags with split := true, switchOnly := ev.flags.switchOnly || !s.spill.marks.level }) ∧
          t.counter.current = some ⟨1, c.start, c.start.instant + 3600000 * s.cfg.blockFirst, true, 0,
            max c.peak s.counter.summary.after⟩ ∧
          t.counter.levelSeen = false ∧
          t.counter.eventNumber = (s.counter.eventNumber + 1) % 2 ^ 32 ∧
          t.counter.totals.opened = (s.counter.totals.opened + 1) % 2 ^ 32 ∧
          ∃ alert, s.rain.branch.code ≤ alert.code ∧ t.counter.event = some
            { number := (s.counter.eventNumber + 1) % 2 ^ 32, start := c.start, rainAtOpen := s.rain.total
              peakAlert := alert, litres := 0, entries := [], lastEnd := none, lastCredit := none
              flags := { timeUnset := decide (s.time.clock = .unset), timeSet := false
                         sensorHeld := s.spill.marks.held, switchOnly := false
                         headBeyondTable := s.spill.marks.beyond, gateFault := decide (s.tank.gate = some .fault)
                         interrupted := false, split := false, continued := true } })) ∧
      t.peers = s.peers ∧ t.time = s.time ∧ t.elapsed = s.elapsed ∧ t.input.gauges = s.input.gauges ∧
      t.input.digital = s.input.digital) ∧
  (∀ (s : State) (ev : SpillEvent) (d : Block) (counted : BlockEntry), s.counter.spill = .onset → s.spill.state = .clear →
    s.counter.event = some ev → s.counter.deferred = some d →
    counted = ⟨d.index, d.start.stamp, d.credited / 1000, d.peak⟩ →
    (d.containsSpill = true → ev.entries.length < 59 → counterTakesSpillState s = { s with counter := { s.counter with
      spill := .clear, deferred := none, summary := ⟨0, 0, false⟩
      event := some { ev with entries := ev.entries ++ [counted] }
      totals := { s.counter.totals with
        counted := (s.counter.totals.counted + 1) % 2 ^ 32
        seconds := (s.counter.totals.seconds + counted.seconds) % 2 ^ 32 } } }) ∧
    ∀ t : State, t = counterTakesSpillState s →
      (d.containsSpill = true → ev.entries.length = 59 →
        (∃ flag, recordPlaced
          { number := ev.number, start := ev.start.stamp, finish := (ev.lastEnd.getD ev.start).stamp
            seconds := (ev.entries.map BlockEntry.seconds).sum + counted.seconds, volume := ev.litres / 1000
            rain := s.rain.total - ev.rainAtOpen, peak := ev.peakAlert, flags := { ev.flags with split := true }
            entries := ev.entries ++ [counted] } flag s t ∧
          t.port = s.port.withEvents (s.port.flags ||| BitVec.twoPow 15 flag) s.port.mask) ∧
        t = { s with
          counter := { s.counter with
            spill := .clear, deferred := none, summary := ⟨0, 0, false⟩, event := none, current := none
            spillSince := none, log := t.counter.log, pendingRecords := t.counter.pendingRecords
            totals := { t.counter.totals with
              opened := s.counter.totals.opened, released := s.counter.totals.released
              counted := (s.counter.totals.counted + 1) % 2 ^ 32
              seconds := (s.counter.totals.seconds + counted.seconds) % 2 ^ 32 } }
          port := t.port }) ∧
      (d.containsSpill = false →
        (∃ flag, recordPlaced
          { number := ev.number, start := ev.start.stamp, finish := (ev.lastEnd.getD ev.start).stamp
            seconds := (ev.entries.map BlockEntry.seconds).sum, volume := ev.litres / 1000
            rain := s.rain.total - ev.rainAtOpen, peak := ev.peakAlert, flags := ev.flags
            entries := ev.entries } flag s t ∧
          t.port = s.port.withEvents (s.port.flags ||| BitVec.twoPow 15 flag) s.port.mask) ∧
        t = { s with
          counter := { s.counter with
            spill := .clear, deferred := none, summary := ⟨0, 0, false⟩, event := none, current := none
            spillSince := none, log := t.counter.log, pendingRecords := t.counter.pendingRecords
            totals := { s.counter.totals with
              droppedRecords := t.counter.totals.droppedRecords, droppedBlocks := t.counter.totals.droppedBlocks } }
          port := t.port })) ∧
  ∀ (s : State) (x : Nat), s.spill.state = .subsiding → s.spill.debounce = some x → x ≤ s.elapsed →
    completes .stopDebounceExpiry s fun t =>
      t.spill = { s.spill with
        state := .clear, stateInstant := s.spill.subsiding, debounce := none, remainder := 0 } ∧
      t.port.flags.getLsbD 1 = true ∧ t.input.lamp = decide (2 ≤ t.rain.branch.code) ∧ t.counter.spill = .clear ∧
      t.drain.claim.spilling = false ∧ claimReformed s t ∧
      (∀ (ev : SpillEvent) (b : Block) (since : Nat) (sub : Stamped), s.counter.spill = .subsiding →
        s.counter.event = some ev → s.counter.current = some b → s.counter.spillSince = some since →
        s.spill.subsiding = some sub →
        t.counter.spillSince = none ∧ t.counter.current = some { b with credited := b.credited + (s.elapsed - since) } ∧
        ∃ peak, t.counter.event = some { ev with
          lastEnd := some sub, lastCredit := some s.elapsed, peakAlert := peak
          flags.switchOnly := ev.flags.switchOnly || !s.counter.levelSeen }) ∧
      t.peers = s.peers ∧ t.time = s.time ∧ t.elapsed = s.elapsed ∧ t.input.gauges = s.input.gauges ∧
      t.input.digital = s.input.digital

/-- R166, R165, R169, R170, R172, R174, R176: the nominal end of the current block, in an event that does not reach 60 entries, and in
one that does: it closes with SPLIT, its record stands in the log, waits or is dropped, and it goes on in a continued event
while the spill does. The end of an event with no interval ended is log 31. -/
def Obligations.BlocksEndAtTheirNominalEnd : Prop :=
  (∀ (s : State) (ev : SpillEvent) (b : Block) (counted : BlockEntry) (going : Bool) (finish : Nat),
    s.counter.event = some ev → s.counter.current = some b → b.nominalEnd ≤ s.elapsed → ev.entries.length = 59 →
    (∃ x credited, counted = ⟨b.index, b.start.stamp, credited / 1000, b.peak⟩ ∧
      ((going = true ∧ s.counter.spillSince = some x ∧ credited = b.credited + (b.nominalEnd - x) ∧
        (s.counter.spill = .spilling ∧ finish = s.time.t ∨
          s.counter.spill = .subsiding ∧ ∃ sub, s.spill.subsiding = some sub ∧ finish = sub.stamp)) ∨
      (going = false ∧ s.counter.spill = .clear ∧ b.containsSpill = true ∧ credited = b.credited ∧
        finish = (ev.lastEnd.getD ev.start).stamp))) →
    completes .blockNominalEnd s fun t => (∃ flag, recordPlaced
        { number := ev.number, start := ev.start.stamp, finish := finish
          seconds := (ev.entries.map BlockEntry.seconds).sum + counted.seconds, volume := ev.litres / 1000
          rain := s.rain.total - ev.rainAtOpen, peak := ev.peakAlert, entries := ev.entries ++ [counted]
          flags := { ev.flags with
            split := true, switchOnly := ev.flags.switchOnly || (going && !s.counter.levelSeen) } } flag s t ∧
        t.port = s.port.withEvents (s.port.flags ||| BitVec.twoPow 15 flag) s.port.mask) ∧ t = { s with
      counter := { s.counter with
        deferred := none, log := t.counter.log, pendingRecords := t.counter.pendingRecords
        totals := { t.counter.totals with
          released := s.counter.totals.released
          counted := (s.counter.totals.counted + 1) % 2 ^ 32
          seconds := (s.counter.totals.seconds + counted.seconds) % 2 ^ 32
          opened := if going then (s.counter.totals.opened + 1) % 2 ^ 32 else s.counter.totals.opened }
        eventNumber := if going then (s.counter.eventNumber + 1) % 2 ^ 32 else s.counter.eventNumber
        event := if going then some
          { number := (s.counter.eventNumber + 1) % 2 ^ 32, start := ⟨s.elapsed, s.time.t⟩, rainAtOpen := s.rain.total
            peakAlert := s.rain.branch, litres := 0, entries := [], lastEnd := none, lastCredit := none
            flags := { timeUnset := decide (s.time.clock = .unset), timeSet := false
                       sensorHeld := s.spill.marks.held, switchOnly := false
                       headBeyondTable := s.spill.marks.beyond, gateFault := decide (s.tank.gate = some .fault)
                       interrupted := false, split := false, continued := true } } else none
        current := if going then
          some ⟨1, ⟨s.elapsed, s.time.t⟩, s.elapsed + 3600000 * s.cfg.blockFirst, true, 0, 0⟩ else none
        spillSince := if going then some s.elapsed else none
        levelSeen := if going then false else s.counter.levelSeen }
      port := t.port }) ∧
  ∀ (s : State) (ev : SpillEvent) (b : Block), s.counter.event = some ev → s.counter.current = some b →
    b.nominalEnd ≤ s.elapsed → ev.entries.length < 59 →
    (∀ (seconds : Nat) (since : Option Nat),
      ((∃ x, (s.counter.spill = .spilling ∨ s.counter.spill = .subsiding) ∧ s.counter.spillSince = some x ∧
        seconds = (b.credited + (b.nominalEnd - x)) / 1000 ∧ since = some b.nominalEnd) ∨
      (s.counter.spill = .clear ∧ b.containsSpill = true ∧ seconds = b.credited / 1000 ∧
        since = s.counter.spillSince)) →
      completes .blockNominalEnd s fun t => t = { s with counter := { s.counter with
        event := some { ev with entries := ev.entries ++ [⟨b.index, b.start.stamp, seconds, b.peak⟩] }
        spillSince := since
        current := some
          ⟨b.index + 1, ⟨b.nominalEnd, s.time.t⟩, b.nominalEnd + 3600000 * s.cfg.blockNext,
            decide (s.counter.spill = .spilling ∨ s.counter.spill = .subsiding), 0, 0⟩
        totals := { s.counter.totals with
          counted := (s.counter.totals.counted + 1) % 2 ^ 32
          seconds := (s.counter.totals.seconds + seconds) % 2 ^ 32 } } }) ∧
    (s.counter.spill = .onset → completes .blockNominalEnd s fun t => t = { s with counter := { s.counter with
      deferred := some b
      current := some
        ⟨b.index + 1, ⟨b.nominalEnd, s.time.t⟩, b.nominalEnd + 3600000 * s.cfg.blockNext, false, 0, 0⟩ } }) ∧
    (s.counter.spill = .clear → b.containsSpill = false → completes .blockNominalEnd s fun t =>
      t.counter.event = none ∧ t.counter.current = none ∧ t.counter.totals.counted = s.counter.totals.counted ∧
      (∃ flag, recordPlaced
        { number := ev.number, start := ev.start.stamp, finish := (ev.lastEnd.getD ev.start).stamp
          seconds := (ev.entries.map BlockEntry.seconds).sum, volume := ev.litres / 1000
          rain := s.rain.total - ev.rainAtOpen, peak := ev.peakAlert, flags := ev.flags, entries := ev.entries } flag s t ∧
        t.port.flags = s.port.flags ||| BitVec.twoPow 15 flag) ∧
      outsideControl t = outsideControl s)

/-! ### The share and the pump -/

/-- R139, R140, R143 to R147, R149, R159: the own claim formed anew, a run of the share computation, and what follows a run
at the Tank Controller. The order of the claimants is the model's choice (log 55); a run
that changes the setpoint forms the claim anew without a further run (log 35). -/
def Obligations.ShareComputationReadsTheBranch : Prop :=
  (∀ s t : State, t = formClaim s →
    claimReformed s t ∧
    (t.drain.claim.requested = s.drain.claim.requested → t.drain.claim.spilling = s.drain.claim.spilling →
      t.trunk = s.trunk ∧ t.free = s.free) ∧
    t = { s with
      drain.claim := t.drain.claim
      trunk := { s.trunk with
        slots := { s.trunk.slots with claim := t.trunk.slots.claim }, tx := t.trunk.tx, txUntil := t.trunk.txUntil }
      free := t.free }) ∧
  (∀ s u t : State, (u = shareAndSetpoint s ∧ t = drainTakesShareNotice s) ∨
      (u = shareAndSetpoint (formClaim s) ∧ t = drainTakesNotice s) →
    (u.drain.share ≠ s.drain.share ∨ u.drain.pump ≠ s.drain.pump ∨ u.drain.mode ≠ s.drain.mode →
      t = tankTakesDrainNotice u) ∧
    (u.drain.share = s.drain.share → u.drain.pump = s.drain.pump → u.drain.mode = s.drain.mode → t = u)) ∧
  (∀ s : State, s.tank.openDeferred = false → tankTakesDrainNotice s = tankEvaluate false s) ∧
  ∀ (s t : State) (k0 f : Nat), t = runShare s →
    (k0 = match s.peers.limit with | some r => if r.fresh then r.capacity else s.cfg.fallbackCapacity
                                   | none => s.cfg.fallbackCapacity) →
    (f = match s.rain.branch with | .clear => 16 | .watch => 12 | .warning => 6 | .severe => 0) →
    t.drain.last.k0 = k0 ∧ t.drain.last.ka = k0 * f / 16 ∧
    (t.drain.last.source = .limitRecord ↔ ∃ r, s.peers.limit = some r ∧ r.fresh = true) ∧
    t.drain.last.rs = (s.peers.entries.map fun e => match e.claim with
      | some c => if c.fresh = false ∨ c.requested = 0 then c.drawn else 0
      | none => 0).sum ∧
    t.drain.last.m = (if s.trunk.standing = .quiet then 2 * s.cfg.margin else s.cfg.margin) ∧
    (t.drain.last.keff : Int) =
      max 0 ((t.drain.last.ka : Int) - t.drain.last.rs - (t.drain.last.ka * t.drain.last.m / 1000 : Nat)) ∧
    t.drain.last.claimants = distribute t.drain.last.keff
      ((if s.drain.claim.requested = 0 then [] else
        [⟨s.ownAddress, s.drain.claim.weight * ((1 + s.drain.claim.fill / 200) * if s.drain.claim.spilling then 2 else 1),
          s.drain.claim.requested, none⟩]) ++
      s.peers.entries.filterMap fun e => match e.claim with
        | some c => if c.fresh = true ∧ c.requested ≠ 0 then some
            ⟨e.address, c.weight * ((1 + c.fill / 200) * if c.spilling then 2 else 1), c.requested, none⟩ else none
        | none => none) ∧
    (s.drain.claim.requested = 0 → t.drain.last.own = 0) ∧
    (∀ c rest, s.drain.claim.requested ≠ 0 → t.drain.last.claimants = c :: rest → c.assigned = some t.drain.last.own) ∧
    (s.trunk.standing.silent = false → t.drain.share = t.drain.last.own) ∧
    (s.trunk.standing.silent = true →
      t.drain.share = min s.cfg.silentAllowance (min s.drain.claim.requested t.drain.last.ka)) ∧
    t.drain.shareStamp = (if t.drain.share = s.drain.share then s.drain.shareStamp else some s.time.t) ∧
    t = { s with drain := { s.drain with
      last := t.drain.last, share := t.drain.share, shareStamp := t.drain.shareStamp } }

/-- R148: every claimant is assigned, none more than it requests, and together no more than the capacity. A pass assigns what
they request to those that ask for no more than their tentative amounts and distributes the rest among the others; where there
are none, it assigns the tentative amounts. -/
def Obligations.WaterFillingStaysWithinCapacity : Prop :=
  ∀ (keff : Nat) (cs : List Claimant), (∀ c ∈ cs, c.assigned = none) →
    (distribute keff cs).map Claimant.address = cs.map Claimant.address ∧
    (distribute keff cs).map Claimant.requested = cs.map Claimant.requested ∧
    (∀ c ∈ distribute keff cs, ∃ n, c.assigned = some n ∧ n ≤ c.requested) ∧
    ((distribute keff cs).map fun c => c.assigned.getD 0).sum ≤ keff ∧
    (∀ c, cs = [c] → 0 < c.weight → keff < c.requested → distribute keff cs = [{ c with assigned := some keff }]) ∧
    ∀ w : Nat, w = (cs.map Claimant.weight).sum →
      ((∀ c ∈ cs, keff * c.weight / w < c.requested) →
        distribute keff cs = cs.map fun c => { c with assigned := some (keff * c.weight / w) }) ∧
      ∀ (fits : Claimant → Bool), (∀ c, fits c = true ↔ c.requested ≤ keff * c.weight / w) → (∃ c ∈ cs, fits c = true) →
        (distribute keff cs).filter fits = (cs.filter fits).map (fun c => { c with assigned := some c.requested }) ∧
        (distribute keff cs).filter (fun c => !fits c) =
          distribute (keff - ((cs.filter fits).map Claimant.requested).sum) (cs.filter fun c => !fits c)

/-- R90, R139, R152 b, R154 b, R155 a, R156, R150: the pump's timers. -/
def Obligations.PumpTimersFaultAndRest : Prop :=
  (∀ (s : State) (c : Instr) (x : Nat),
    (c = .startTimeoutExpiry ∧ s.drain.pump = some .starting) ∨ (c = .stopTimeoutExpiry ∧ s.drain.pump = some .stopping) →
    s.drain.pumpTimer = some x → x ≤ s.elapsed → completes c s fun t =>
      t.drain.pump = some .fault ∧ t.drain.setpoint = 0 ∧ t.input.pumpRun = false ∧ t.input.pumpRate = 0 ∧
      t.drain.pumpTimer = none ∧ t.drain.restTimer = none ∧ t.drain.restElapsed = false ∧
      t.drain.claim.requested = 0 ∧ t.drain.lastNonzero = s.drain.lastNonzero ∧
      t.drain.claim.drawn =
        (if s.asserted .pumpRunning then s.drain.lastNonzero.getD s.cfg.pumpMax else 0) ∧
      t.tank.state ≠ .draining ∧ claimReformed s t ∧ deferralEnds s t ∧ t.port.flags = s.port.flags ||| BitVec.twoPow 15 11 ∧
      outsideTank t = outsideTank { s with
        port := { s.port with flags := t.port.flags, attention := t.port.attention } }) ∧
  ∀ (s : State) (x : Nat), s.drain.restTimer = some x → x ≤ s.elapsed → completes .restTimerExpiry s fun t =>
    t = tankTakesDrainNotice { s with drain.restTimer := none, drain.restElapsed := true } ∧
    t.drain.restTimer = none ∧ t.drain.restElapsed = true ∧ t.drain.mode = s.drain.mode ∧
    (s.drain.pump ≠ some .stopped → t.drain.pump = some .starting → s.drain.pump = some .starting) ∧
    (s.tank.openDeferred = false → s.tank.state ∈ [.off, .admitting] →
      t = { s with drain.restTimer := none, drain.restElapsed := true }) ∧
    outsideTank t = outsideTank s

/-! ### Invariants -/

/-- The invariants hold right after a full reset: in the state of log 41, and in any state that FULL_RESET leaves, but
for the contacts (log 10). -/
def Obligations.InvariantsHoldAfterReset : Prop :=
  ∀ s t : State, t = State.reset ∨ exec .fullReset s = .next t →
    AttentionOk t ∧ LogOk t ∧ ScoresOk t ∧ PeersOk t ∧ TimeOk t ∧ ConfigAtRest t ∧ DrivesOk t ∧ SetpointOk t ∧
    AlertsOk t ∧ CountingOk t ∧ LogHoldsRecords t

/-- R197, R175, R178: a step keeps the attention line on its flags, the log's bytes canonical and its positions in the ring, the
records whole in the ring from the read position, and the blocks counted in balance. -/
def Obligations.StepKeepsAttentionAndLog : Prop :=
  (∀ s t : State, AttentionOk s → LogOk s → s.counter.pendingRecords.length ≤ 2 → step s = .next t →
    AttentionOk t ∧ LogOk t ∧ t.counter.pendingRecords.length ≤ 2) ∧
  ∀ s t : State, LogOk s → CountingOk s → LogHoldsRecords s → step s = .next t → LogHoldsRecords t

/-- R19, R20: a step keeps the scores in bounds and standing as they give it. -/
def Obligations.StepKeepsScoresAndStanding : Prop := ∀ s t : State, ScoresOk s → step s = .next t → ScoresOk t

/-- R32: a step keeps the peer table's bound and order. -/
def Obligations.StepKeepsPeerTable : Prop := ∀ s t : State, PeersOk s → step s = .next t → PeersOk t

/-- R48, R55: a step keeps trunk time and the estimate in bounds. -/
def Obligations.StepKeepsTimeInBounds : Prop := ∀ s t : State, TimeOk s → step s = .next t → TimeOk t

/-- 1.2.2, R23 to R25 and the chapters' reset rules: in CONFIG every block stays at rest. -/
def Obligations.StepKeepsConfigAtRest : Prop := ∀ s t : State, ConfigAtRest s → step s = .next t → ConfigAtRest t

/-- R74, R75: a step keeps the drives as the gate state, the pump state and the setpoint call for. -/
def Obligations.StepKeepsDrives : Prop :=
  ∀ s t : State, ConfigAtRest s → DrivesOk s → step s = .next t → DrivesOk t

/-- R150: a step keeps the setpoint within its bounds, and nonzero only where it may be. -/
def Obligations.StepKeepsSetpointSafe : Prop :=
  ∀ s t : State, ConfigAtRest s → DrivesOk s → SetpointOk s → step s = .next t → SetpointOk t

/-- R76, R128, R129, R133: a step keeps the lamp and the two alerts as their causes give them. -/
def Obligations.StepKeepsAlerts : Prop := ∀ s t : State, AlertsOk s → step s = .next t → AlertsOk t

/-- R170, R176: a step keeps the open event below 60 entries, with a current block. -/
def Obligations.StepKeepsCounting : Prop := ∀ s t : State, CountingOk s → step s = .next t → CountingOk t
end

