-- ==== Sys2Proof/Laws/Frames.lean ====
section
/-! SUPPORT. What the shared operations leave alone: one lemma for each operation says that the mask of its result is the
mask of its argument (the masks are in Sys2Proof/Safety.lean), and the `_fields` lemmas read the fields off. -/

namespace Sys2Proof.Machine

/-! ### The masks -/

theorem outsideTank_of {s t : State} (h : outsideDrain t = outsideDrain s) : outsideTank t = outsideTank s := by
  have e : ∀ x, outsideTank x = outsideTank (outsideDrain x) := fun _ => rfl
  rw [e t, e s, h]

theorem outsideControl_of {s t : State} (h : outsideTank t = outsideTank s) :
    outsideControl t = outsideControl s := by
  have e : ∀ x, outsideControl x = outsideControl (outsideTank x) := fun _ => rfl
  rw [e t, e s, h]

theorem outsideBlocks_of {s t : State} (h : outsideControl t = outsideControl s) :
    outsideBlocks t = outsideBlocks s := by
  have e : ∀ x, outsideBlocks x = outsideBlocks (outsideControl x) := fun _ => rfl
  rw [e t, e s, h]

/-- What an operation of the Drain Controller leaves alone. -/
theorem outsideDrain_fields {s t : State} (h : outsideDrain t = outsideDrain s) :
    t.elapsed = s.elapsed ∧ t.peers = s.peers ∧ t.time = s.time ∧ t.tank = s.tank ∧ t.spill = s.spill ∧
    t.rain = s.rain ∧ t.counter = s.counter ∧ t.pending = s.pending ∧
    t.trunk = { s.trunk with slots := t.trunk.slots, tx := t.trunk.tx, txUntil := t.trunk.txUntil } ∧
    t.input = { s.input with pumpRun := t.input.pumpRun, pumpRate := t.input.pumpRate } ∧ t.port = s.port := by
  obtain ⟨_, ⟨⟩, _, _, ⟨⟩, _, _, _, _, _, _, _, _⟩ := s
  obtain ⟨_, ⟨⟩, _, _, ⟨⟩, _, _, _, _, _, _, _, _⟩ := t
  simp only [outsideDrain, State.mk.injEq, Trunk.mk.injEq, InputUnit.mk.injEq] at h ⊢
  tauto

/-- What an operation of the Tank Controller leaves alone. -/
theorem outsideTank_fields {s t : State} (h : outsideTank t = outsideTank s) :
    t.elapsed = s.elapsed ∧ t.peers = s.peers ∧ t.time = s.time ∧ t.spill = s.spill ∧
    t.rain = s.rain ∧ t.counter = s.counter ∧ t.pending = s.pending ∧
    t.trunk = { s.trunk with slots := t.trunk.slots, tx := t.trunk.tx, txUntil := t.trunk.txUntil } ∧
    t.input = { s.input with
      gateDrive := t.input.gateDrive, pumpRun := t.input.pumpRun, pumpRate := t.input.pumpRate } ∧
    t.port = s.port := by
  obtain ⟨_, ⟨⟩, _, _, ⟨⟩, _, _, _, _, _, _, _, _⟩ := s
  obtain ⟨_, ⟨⟩, _, _, ⟨⟩, _, _, _, _, _, _, _, _⟩ := t
  simp only [outsideTank, outsideDrain, State.mk.injEq, Trunk.mk.injEq, InputUnit.mk.injEq] at h ⊢
  tauto

/-- What an operation of the Rain Unit or the Spill Counter leaves alone. -/
theorem outsideControl_fields {s t : State} (h : outsideControl t = outsideControl s) :
    t.elapsed = s.elapsed ∧ t.peers = s.peers ∧ t.time = s.time ∧ t.spill = s.spill ∧ t.pending = s.pending ∧
    t.trunk = { s.trunk with slots := t.trunk.slots, tx := t.trunk.tx, txUntil := t.trunk.txUntil } ∧
    t.input = { s.input with
      gateDrive := t.input.gateDrive, pumpRun := t.input.pumpRun, pumpRate := t.input.pumpRate, lamp := t.input.lamp } ∧
    t.port = { s.port with flags := t.port.flags, attention := t.port.attention } := by
  obtain ⟨_, ⟨⟩, _, _, ⟨⟩, _, _, _, _, _, ⟨⟩, _, _⟩ := s
  obtain ⟨_, ⟨⟩, _, _, ⟨⟩, _, _, _, _, _, ⟨⟩, _, _⟩ := t
  simp only [outsideControl, outsideTank, outsideDrain, State.mk.injEq, Trunk.mk.injEq, InputUnit.mk.injEq, Port.mk.injEq] at h ⊢
  tauto

/-- What every operation of the blocks leaves alone. -/
theorem outsideBlocks_fields {s t : State} (h : outsideBlocks t = outsideBlocks s) :
    t.elapsed = s.elapsed ∧ t.pending = s.pending ∧
    t.port = { s.port with flags := t.port.flags, attention := t.port.attention } := by
  obtain ⟨_, _, _, _, _, _, _, _, _, _, ⟨⟩, _, _⟩ := s
  obtain ⟨_, _, _, _, _, _, _, _, _, _, ⟨⟩, _, _⟩ := t
  simp only [outsideBlocks, State.mk.injEq, Port.mk.injEq] at h ⊢
  tauto

/-! ### Notices in either order -/

/-- What holds after both orders holds after the notices. -/
theorem inEitherOrder_holds {f g : State → State} {s : State} (P : State → Prop)
    (hfg : ∀ t, P t → P (g (f t))) (hgf : ∀ t, P t → P (f (g t)))
    (h : P { s with free.orders := s.free.orders + 1 }) : P (inEitherOrder f g s) := by
  unfold inEitherOrder
  dsimp only
  split
  · exact hfg _ h
  · split
    · exact hfg _ h
    · exact hgf _ h

/-- Where both orders end alike, the notices have that end. -/
theorem inEitherOrder_same {f g : State → State} {s : State}
    (h : g (f { s with free.orders := s.free.orders + 1 }) = f (g { s with free.orders := s.free.orders + 1 })) :
    inEitherOrder f g s = g (f { s with free.orders := s.free.orders + 1 }) := by
  unfold inEitherOrder
  simp only [h, if_true]

/-! ### Operations of the Drain Controller and of the transmit slots -/

@[simp] theorem drawDeferral_outside (s : State) : outsideDrain (drawDeferral s) = outsideDrain s := rfl

@[simp] theorem enterWaitLine_outside (s : State) : outsideDrain (enterWaitLine s) = outsideDrain s := by
  unfold enterWaitLine; dsimp only; split <;> rfl

@[simp] theorem wakeTransmitter_outside (s : State) : outsideDrain (wakeTransmitter s) = outsideDrain s := by
  unfold wakeTransmitter; split <;> simp

@[simp] theorem idleTransmitter_outside (s : State) : outsideDrain (idleTransmitter s) = outsideDrain s := rfl

@[simp] theorem queueBody_outside (b : Body) (s : State) : outsideDrain (queueBody b s) = outsideDrain s := by
  unfold queueBody; rw [wakeTransmitter_outside]; rfl

@[simp] theorem queueClaim_outside (s : State) : outsideDrain (queueClaim s) = outsideDrain s :=
  queueBody_outside _ _

@[simp] theorem formClaim_outside (s : State) : outsideDrain (formClaim s) = outsideDrain s := by
  unfold formClaim; dsimp only; split
  · rw [queueClaim_outside]; rfl
  · rfl

@[simp] theorem placeClaimTimer_outside (s : State) : outsideDrain (placeClaimTimer s) = outsideDrain s := rfl

@[simp] theorem claimTimerExpires_outside (s : State) : outsideDrain (claimTimerExpires s) = outsideDrain s := by
  unfold claimTimerExpires; simp

@[simp] theorem claimTimerStep_outside (s : State) : outsideDrain (claimTimerStep s) = outsideDrain s := by
  unfold claimTimerStep; split <;> simp

@[simp] theorem runShare_outside (s : State) : outsideDrain (runShare s) = outsideDrain s := rfl

@[simp] theorem setSetpoint_outside (n : Nat) (s : State) : outsideDrain (setSetpoint n s) = outsideDrain s := rfl

@[simp] theorem pumpStart_outside (s : State) : outsideDrain (pumpStart s) = outsideDrain s := by
  unfold pumpStart; split <;> rfl

@[simp] theorem commandStop_outside (s : State) : outsideDrain (commandStop s) = outsideDrain s := by
  unfold commandStop; dsimp only; split <;> rfl

@[simp] theorem followShare_outside (s : State) : outsideDrain (followShare s) = outsideDrain s := by
  unfold followShare; split_ifs <;> simp

@[simp] theorem shareAndSetpoint_outside (s : State) : outsideDrain (shareAndSetpoint s) = outsideDrain s := by
  unfold shareAndSetpoint; dsimp only; split <;> simp

@[simp] theorem reformClaim_outside (s : State) : outsideDrain (reformClaim s) = outsideDrain s := by
  unfold reformClaim; simp

@[simp] theorem pumpStops_outside (s : State) : outsideDrain (pumpStops s) = outsideDrain s := rfl

@[simp] theorem drainTakesTankState_outside (s : State) : outsideDrain (drainTakesTankState s) = outsideDrain s := by
  unfold drainTakesTankState; rw [reformClaim_outside]; split <;> simp

end Sys2Proof.Machine
end

