-- ==== Sys2Proof/Laws/Tank.lean ====
section
/-! SUPPORT. What the operations of the gate and of the tank leave alone (`outsideTank`, Sys2Proof/Safety.lean): among
others every event flag, the Spill Counter and the Rain Unit. The operations that end in a FAULT are in
Sys2Proof/Laws/Control.lean. -/

namespace Sys2Proof.Machine

/-- Two notices that leave the outside of the tank alone do so in either order. -/
theorem inEitherOrder_tank {f g : State → State} (hf : ∀ t, outsideTank (f t) = outsideTank t)
    (hg : ∀ t, outsideTank (g t) = outsideTank t) (s : State) :
    outsideTank (inEitherOrder f g s) = outsideTank s :=
  inEitherOrder_holds (fun t => outsideTank t = outsideTank s) (fun t h => by rw [hg, hf, h])
    (fun t h => by rw [hf, hg, h]) rfl

/-! ### Operations of the Drain Controller and of the transmit slots -/

@[simp] theorem formClaim_tank (s : State) : outsideTank (formClaim s) = outsideTank s :=
  outsideTank_of (formClaim_outside s)

@[simp] theorem reformClaim_tank (s : State) : outsideTank (reformClaim s) = outsideTank s :=
  outsideTank_of (reformClaim_outside s)

@[simp] theorem shareAndSetpoint_tank (s : State) : outsideTank (shareAndSetpoint s) = outsideTank s :=
  outsideTank_of (shareAndSetpoint_outside s)

@[simp] theorem queueBody_tank (b : Body) (s : State) : outsideTank (queueBody b s) = outsideTank s :=
  outsideTank_of (queueBody_outside b s)

@[simp] theorem queueClaim_tank (s : State) : outsideTank (queueClaim s) = outsideTank s :=
  outsideTank_of (queueClaim_outside s)

@[simp] theorem claimTimerExpires_tank (s : State) : outsideTank (claimTimerExpires s) = outsideTank s :=
  outsideTank_of (claimTimerExpires_outside s)

@[simp] theorem claimTimerStep_tank (s : State) : outsideTank (claimTimerStep s) = outsideTank s :=
  outsideTank_of (claimTimerStep_outside s)

@[simp] theorem setSetpoint_tank (n : Nat) (s : State) : outsideTank (setSetpoint n s) = outsideTank s :=
  outsideTank_of (setSetpoint_outside n s)

@[simp] theorem pumpStops_tank (s : State) : outsideTank (pumpStops s) = outsideTank s :=
  outsideTank_of (pumpStops_outside s)

@[simp] theorem drainTakesTankState_tank (s : State) : outsideTank (drainTakesTankState s) = outsideTank s :=
  outsideTank_of (drainTakesTankState_outside s)

/-! ### The gate -/

@[simp] theorem commandGate_tank (d : GateDrive) (s : State) :
    outsideTank (commandGate d s) = outsideTank s := rfl

@[simp] theorem gateArrives_tank (d : GateDir) (s : State) : outsideTank (gateArrives d s) = outsideTank s :=
  rfl

@[simp] theorem beginTravel_tank (d : GateDir) (c : Nat) (s : State) :
    outsideTank (beginTravel d c s) = outsideTank s := by
  unfold beginTravel; split <;> rfl

@[simp] theorem reverseGate_tank (d : GateDir) (s : State) : outsideTank (reverseGate d s) = outsideTank s :=
  rfl

@[simp] theorem gateActsOn_tank (d : GateDir) (s : State) : outsideTank (gateActsOn d s) = outsideTank s := by
  unfold gateActsOn; split <;> (try split) <;> simp <;> rfl

@[simp] theorem gateActsOnTarget_tank (s : State) : outsideTank (gateActsOnTarget s) = outsideTank s := by
  unfold gateActsOnTarget; split <;> simp

@[simp] theorem retarget_tank (s : State) : outsideTank (retarget s) = outsideTank s := by
  unfold retarget; dsimp only; split
  · rfl
  · rw [gateActsOnTarget_tank]; rfl

@[simp] theorem retryWaitExpires_tank (s : State) : outsideTank (retryWaitExpires s) = outsideTank s := by
  unfold retryWaitExpires; split <;> simp

@[simp] theorem pauseExpires_tank (s : State) : outsideTank (pauseExpires s) = outsideTank s := by
  unfold pauseExpires; split <;> simp

/-! ### The tank -/

@[simp] theorem tankMoves_tank (t : TankState) (s : State) : outsideTank (tankMoves t s) = outsideTank s := by
  unfold tankMoves; rw [retarget_tank]; rfl

@[simp] theorem releaseDeferred_tank (s : State) : outsideTank (releaseDeferred s) = outsideTank s := by
  unfold releaseDeferred; split
  · rw [retarget_tank]; rfl
  · rfl

@[simp] theorem tankEnters_tank (t : TankState) (s : State) :
    outsideTank (tankEnters t s) = outsideTank s := by
  unfold tankEnters; simp

@[simp] theorem tankCascade_tank (n : Nat) (a b : Bool) (s : State) :
    outsideTank (tankCascade n a b s) = outsideTank s := by
  induction n generalizing a b s with
  | zero => rfl
  | succ n ih =>
    unfold tankCascade; dsimp only; split
    · rfl
    · split
      · rw [ih]; simp
      · simp

@[simp] theorem tankEvaluate_tank (a : Bool) (s : State) : outsideTank (tankEvaluate a s) = outsideTank s :=
  tankCascade_tank _ _ _ _

@[simp] theorem tankTakesDrainNotice_tank (s : State) :
    outsideTank (tankTakesDrainNotice s) = outsideTank s := by
  unfold tankTakesDrainNotice; simp

@[simp] theorem afterDrain_tank (s t : State) : outsideTank (afterDrain s t) = outsideTank t := by
  unfold afterDrain; split <;> simp

@[simp] theorem afterGate_tank (s t : State) : outsideTank (afterGate s t) = outsideTank t := by
  unfold afterGate; split <;> simp

@[simp] theorem drainTakesNotice_tank (s : State) : outsideTank (drainTakesNotice s) = outsideTank s := by
  unfold drainTakesNotice; simp

@[simp] theorem drainTakesShareNotice_tank (s : State) :
    outsideTank (drainTakesShareNotice s) = outsideTank s := by
  unfold drainTakesShareNotice; simp

@[simp] theorem updateRelease_tank (s : State) : outsideTank (updateRelease s) = outsideTank s := by
  unfold updateRelease; split_ifs <;> rfl

@[simp] theorem tankTakesAlert_tank (s : State) : outsideTank (tankTakesAlert s) = outsideTank s := by
  unfold tankTakesAlert; simp

@[simp] theorem measureVolume_tank (s : State) : outsideTank (measureVolume s) = outsideTank s := by
  unfold measureVolume; split <;> rfl

@[simp] theorem tankTakesSample_tank (f : Bool) (s : State) :
    outsideTank (tankTakesSample f s) = outsideTank s := by
  unfold tankTakesSample; dsimp only; split
  · rw [inEitherOrder_tank drainTakesNotice_tank (tankEvaluate_tank true)]; simp
  · simp

@[simp] theorem releaseExpires_tank (s : State) : outsideTank (releaseExpires s) = outsideTank s := by
  unfold releaseExpires; dsimp only; split_ifs <;> simp

@[simp] theorem pumpChanges_tank (s t : State) : outsideTank (pumpChanges s t) = outsideTank t := by
  unfold pumpChanges; simp

@[simp] theorem restExpires_tank (s : State) : outsideTank (restExpires s) = outsideTank s := by
  unfold restExpires; rw [tankTakesDrainNotice_tank]; rfl

@[simp] theorem pumpClears_tank (s : State) : outsideTank (pumpClears s) = outsideTank s := by
  unfold pumpClears; simp

@[simp] theorem drainModeChanges_tank (m : DrainMode) (s : State) :
    outsideTank (drainModeChanges m s) = outsideTank s := by
  unfold drainModeChanges; rw [pumpChanges_tank]; rfl

end Sys2Proof.Machine
end

