-- ==== Sys2Proof/Laws/Control.lean ====
section
/-! SUPPORT. What the operations of the gate, the tank, the Rain Unit and the Spill Counter leave alone
(`outsideControl`, Sys2Proof/Laws/Frames.lean), and what the spill state machine does. -/

namespace Sys2Proof.Machine

/-- Two notices that leave the controllers' outside alone do so in either order. -/
theorem inEitherOrder_control {f g : State → State} (hf : ∀ t, outsideControl (f t) = outsideControl t)
    (hg : ∀ t, outsideControl (g t) = outsideControl t) (s : State) :
    outsideControl (inEitherOrder f g s) = outsideControl s :=
  inEitherOrder_holds (fun t => outsideControl t = outsideControl s) (fun t h => by rw [hg, hf, h])
    (fun t h => by rw [hf, hg, h]) rfl

@[simp] theorem raise_control (f : EventFlag) (s : State) : outsideControl (raise f s) = outsideControl s := rfl

@[simp] theorem formClaim_control (s : State) :
    outsideControl (formClaim s) = outsideControl s := outsideControl_of (formClaim_tank s)

@[simp] theorem reformClaim_control (s : State) :
    outsideControl (reformClaim s) = outsideControl s := outsideControl_of (reformClaim_tank s)

@[simp] theorem shareAndSetpoint_control (s : State) :
    outsideControl (shareAndSetpoint s) = outsideControl s := outsideControl_of (shareAndSetpoint_tank s)

@[simp] theorem queueBody_control (b : Body) (s : State) :
    outsideControl (queueBody b s) = outsideControl s := outsideControl_of (queueBody_tank b s)

@[simp] theorem queueClaim_control (s : State) :
    outsideControl (queueClaim s) = outsideControl s := outsideControl_of (queueClaim_tank s)

@[simp] theorem claimTimerExpires_control (s : State) :
    outsideControl (claimTimerExpires s) = outsideControl s := outsideControl_of (claimTimerExpires_tank s)

@[simp] theorem claimTimerStep_control (s : State) :
    outsideControl (claimTimerStep s) = outsideControl s := outsideControl_of (claimTimerStep_tank s)

@[simp] theorem setSetpoint_control (n : Nat) (s : State) :
    outsideControl (setSetpoint n s) = outsideControl s := outsideControl_of (setSetpoint_tank n s)

@[simp] theorem pumpStops_control (s : State) :
    outsideControl (pumpStops s) = outsideControl s := outsideControl_of (pumpStops_tank s)

@[simp] theorem drainTakesTankState_control (s : State) :
    outsideControl (drainTakesTankState s) = outsideControl s := outsideControl_of (drainTakesTankState_tank s)

@[simp] theorem pumpFaults_control (s : State) : outsideControl (pumpFaults s) = outsideControl s := rfl

/-! ### The Spill Counter -/

@[simp] theorem onEvent_control (f : SpillEvent → SpillEvent) (s : State) :
    outsideControl (onEvent f s) = outsideControl s := rfl

@[simp] theorem onCurrent_control (f : Block → Block) (s : State) :
    outsideControl (onCurrent f s) = outsideControl s := rfl

@[simp] theorem placeRecord_control (r : SpillRecord) (s : State) :
    outsideControl (placeRecord r s) = outsideControl s := by
  unfold placeRecord; dsimp only; split_ifs <;> rfl

@[simp] theorem placePending_control (rs : List SpillRecord) (s : State) :
    outsideControl (placePending rs s) = outsideControl s := by
  induction rs generalizing s with
  | nil => rfl
  | cons r rs ih =>
    unfold placePending; split
    · rw [ih]; rfl
    · rfl

@[simp] theorem releaseOldest_control (s : State) : outsideControl (releaseOldest s) = outsideControl s := by
  unfold releaseOldest; dsimp only; rw [placePending_control]; rfl

@[simp] theorem closeEvent_control (n : Nat) (m : RecordFlags → RecordFlags) (s : State) :
    outsideControl (closeEvent n m s) = outsideControl s := by
  unfold closeEvent; split
  · rfl
  · rw [placeRecord_control]; rfl

@[simp] theorem countBlock_control (b : Block) (s : State) : outsideControl (countBlock b s) = outsideControl s := rfl

@[simp] theorem openEvent_control (x : Stamped) (f : RecordFlags) (l p : Nat) (v : Bool) (s : State) :
    outsideControl (openEvent x f l p v s) = outsideControl s := rfl

@[simp] theorem decideSwitchOnly_control (s : State) : outsideControl (decideSwitchOnly s) = outsideControl s := rfl

@[simp] theorem splitEvent_control (x : Stamped) (p : Nat) (s : State) :
    outsideControl (splitEvent x p s) = outsideControl s := by
  unfold splitEvent; dsimp only; split
  · rfl
  · split_ifs <;> simp

@[simp] theorem countCurrent_control (b : Block) (s : State) :
    outsideControl (countCurrent b s) = outsideControl s := by
  unfold countCurrent; dsimp only; split
  · simp
  · rfl

@[simp] theorem blockEnd_control (b : Block) (s : State) : outsideControl (blockEnd b s) = outsideControl s := by
  unfold blockEnd; split
  · split
    · simp
    · split <;> simp
  · rfl
  · dsimp only; rw [countCurrent_control]; rfl

@[simp] theorem addLitres_control (n : Nat) (s : State) : outsideControl (addLitres n s) = outsideControl s := rfl

@[simp] theorem takeMarks_control (s : State) : outsideControl (takeMarks s) = outsideControl s := rfl

@[simp] theorem clearSummary_control (s : State) : outsideControl (clearSummary s) = outsideControl s := rfl

@[simp] theorem counterConfirms_control (s : State) : outsideControl (counterConfirms s) = outsideControl s := by
  unfold counterConfirms; split
  · rfl
  · unfold confirmDeferred; dsimp only; rw [clearSummary_control]; split
    · rw [splitEvent_control]; rfl
    · rfl
  · rfl
  · rfl

@[simp] theorem counterLapses_control (s : State) : outsideControl (counterLapses s) = outsideControl s := by
  unfold counterLapses; dsimp only; split
  · split_ifs
    · rw [splitEvent_control]; rfl
    · rfl
    · rw [closeEvent_control]; rfl
  · rfl

@[simp] theorem counterEndsInterval_control (s : State) :
    outsideControl (counterEndsInterval s) = outsideControl s := rfl

@[simp] theorem counterTakesSpillState_control (s : State) :
    outsideControl (counterTakesSpillState s) = outsideControl s := by
  unfold counterTakesSpillState; dsimp only; split
  · rw [counterConfirms_control]; rfl
  · rw [counterLapses_control]; rfl
  all_goals rfl

@[simp] theorem counterTakesSample_control (n : SampleNotice) (s : State) :
    outsideControl (counterTakesSample n s) = outsideControl s := by
  unfold counterTakesSample; split_ifs <;> rfl

@[simp] theorem counterTakesStep_control (s : State) : outsideControl (counterTakesStep s) = outsideControl s := by
  unfold counterTakesStep; split_ifs <;> rfl

@[simp] theorem counterTakesGateFault_control (s : State) :
    outsideControl (counterTakesGateFault s) = outsideControl s := rfl

@[simp] theorem counterTakesAlert_control (s : State) : outsideControl (counterTakesAlert s) = outsideControl s := rfl

@[simp] theorem creditAtRestart_control (s : State) : outsideControl (creditAtRestart s) = outsideControl s := by
  unfold creditAtRestart; split <;> rfl

@[simp] theorem countAtRestart_control (b : Option Block) (s : State) :
    outsideControl (countAtRestart b s) = outsideControl s := by
  unfold countAtRestart; split
  · rfl
  · split <;> rfl

@[simp] theorem closeAtRestart_control (s : State) : outsideControl (closeAtRestart s) = outsideControl s := by
  unfold closeAtRestart; split
  · rfl
  · simp

@[simp] theorem restCounter_control (s : State) : outsideControl (restCounter s) = outsideControl s := rfl

@[simp] theorem counterRestarts_control (s : State) : outsideControl (counterRestarts s) = outsideControl s := by
  unfold counterRestarts; simp

@[simp] theorem blockNominalEnd_control (s : State) : outsideControl (blockNominalEnd s) = outsideControl s := by
  unfold blockNominalEnd; split
  · rfl
  · split <;> simp

/-! ### The gate and the tank -/

@[simp] theorem commandGate_control (d : GateDrive) (s : State) :
    outsideControl (commandGate d s) = outsideControl s := outsideControl_of (commandGate_tank d s)

@[simp] theorem gateArrives_control (d : GateDir) (s : State) :
    outsideControl (gateArrives d s) = outsideControl s := outsideControl_of (gateArrives_tank d s)

@[simp] theorem beginTravel_control (d : GateDir) (c : Nat) (s : State) :
    outsideControl (beginTravel d c s) = outsideControl s := outsideControl_of (beginTravel_tank d c s)

@[simp] theorem reverseGate_control (d : GateDir) (s : State) :
    outsideControl (reverseGate d s) = outsideControl s := outsideControl_of (reverseGate_tank d s)

@[simp] theorem gateActsOn_control (d : GateDir) (s : State) :
    outsideControl (gateActsOn d s) = outsideControl s := outsideControl_of (gateActsOn_tank d s)

@[simp] theorem gateActsOnTarget_control (s : State) :
    outsideControl (gateActsOnTarget s) = outsideControl s := outsideControl_of (gateActsOnTarget_tank s)

@[simp] theorem retarget_control (s : State) :
    outsideControl (retarget s) = outsideControl s := outsideControl_of (retarget_tank s)

@[simp] theorem retryWaitExpires_control (s : State) :
    outsideControl (retryWaitExpires s) = outsideControl s := outsideControl_of (retryWaitExpires_tank s)

@[simp] theorem pauseExpires_control (s : State) :
    outsideControl (pauseExpires s) = outsideControl s := outsideControl_of (pauseExpires_tank s)

@[simp] theorem tankMoves_control (t : TankState) (s : State) :
    outsideControl (tankMoves t s) = outsideControl s := outsideControl_of (tankMoves_tank t s)

@[simp] theorem releaseDeferred_control (s : State) :
    outsideControl (releaseDeferred s) = outsideControl s := outsideControl_of (releaseDeferred_tank s)

@[simp] theorem tankEnters_control (t : TankState) (s : State) :
    outsideControl (tankEnters t s) = outsideControl s := outsideControl_of (tankEnters_tank t s)

@[simp] theorem tankCascade_control (n : Nat) (a b : Bool) (s : State) :
    outsideControl (tankCascade n a b s) = outsideControl s := outsideControl_of (tankCascade_tank n a b s)

@[simp] theorem tankEvaluate_control (a : Bool) (s : State) :
    outsideControl (tankEvaluate a s) = outsideControl s := outsideControl_of (tankEvaluate_tank a s)

@[simp] theorem tankTakesDrainNotice_control (s : State) :
    outsideControl (tankTakesDrainNotice s) = outsideControl s := outsideControl_of (tankTakesDrainNotice_tank s)

@[simp] theorem afterDrain_control (s t : State) :
    outsideControl (afterDrain s t) = outsideControl t := outsideControl_of (afterDrain_tank s t)

@[simp] theorem afterGate_control (s t : State) :
    outsideControl (afterGate s t) = outsideControl t := outsideControl_of (afterGate_tank s t)

@[simp] theorem drainTakesNotice_control (s : State) :
    outsideControl (drainTakesNotice s) = outsideControl s := outsideControl_of (drainTakesNotice_tank s)

@[simp] theorem drainTakesShareNotice_control (s : State) :
    outsideControl (drainTakesShareNotice s) = outsideControl s := outsideControl_of (drainTakesShareNotice_tank s)

@[simp] theorem updateRelease_control (s : State) :
    outsideControl (updateRelease s) = outsideControl s := outsideControl_of (updateRelease_tank s)

@[simp] theorem tankTakesAlert_control (s : State) :
    outsideControl (tankTakesAlert s) = outsideControl s := outsideControl_of (tankTakesAlert_tank s)

@[simp] theorem measureVolume_control (s : State) :
    outsideControl (measureVolume s) = outsideControl s := outsideControl_of (measureVolume_tank s)

@[simp] theorem tankTakesSample_control (f : Bool) (s : State) :
    outsideControl (tankTakesSample f s) = outsideControl s := outsideControl_of (tankTakesSample_tank f s)

@[simp] theorem releaseExpires_control (s : State) :
    outsideControl (releaseExpires s) = outsideControl s := outsideControl_of (releaseExpires_tank s)

@[simp] theorem pumpChanges_control (s t : State) :
    outsideControl (pumpChanges s t) = outsideControl t := outsideControl_of (pumpChanges_tank s t)

@[simp] theorem restExpires_control (s : State) :
    outsideControl (restExpires s) = outsideControl s := outsideControl_of (restExpires_tank s)

@[simp] theorem pumpClears_control (s : State) :
    outsideControl (pumpClears s) = outsideControl s := outsideControl_of (pumpClears_tank s)

@[simp] theorem drainModeChanges_control (m : DrainMode) (s : State) :
    outsideControl (drainModeChanges m s) = outsideControl s := outsideControl_of (drainModeChanges_tank m s)

@[simp] theorem gateFaults_control (s : State) : outsideControl (gateFaults s) = outsideControl s := rfl

@[simp] theorem gateTakesEdge_control (d : GateDir) (r : Bool) (s : State) :
    outsideControl (gateTakesEdge d r s) = outsideControl s := by
  unfold gateTakesEdge; split_ifs <;> simp

@[simp] theorem travelExpires_control (s : State) : outsideControl (travelExpires s) = outsideControl s := by
  unfold travelExpires; split <;> rfl

@[simp] theorem gateClears_control (s : State) : outsideControl (gateClears s) = outsideControl s := by
  unfold gateClears; split
  · rfl
  · rw [gateActsOnTarget_control]; rfl

@[simp] theorem tankTakesEdge_control (d : GateDir) (r : Bool) (s : State) :
    outsideControl (tankTakesEdge d r s) = outsideControl s := by
  unfold tankTakesEdge; simp

@[simp] theorem drainTakesEdge_control (r : Bool) (s : State) :
    outsideControl (drainTakesEdge r s) = outsideControl s := by
  unfold drainTakesEdge; split <;> simp <;> rfl

@[simp] theorem pumpTimeout_control (s : State) : outsideControl (pumpTimeout s) = outsideControl s := by
  unfold pumpTimeout; simp

/-! ### The Rain Unit -/

@[simp] theorem evaluateLamp_control (s : State) : outsideControl (evaluateLamp s) = outsideControl s := rfl

@[simp] theorem formBranchAlert_control (s : State) : outsideControl (formBranchAlert s) = outsideControl s := by
  unfold formBranchAlert; dsimp only; split
  · rfl
  · rw [inEitherOrder_control drainTakesShareNotice_control tankTakesAlert_control]; rfl

@[simp] theorem queueRain_control (s : State) : outsideControl (queueRain s) = outsideControl s := by
  unfold queueRain; rw [queueBody_control]; rfl

@[simp] theorem updateHold_control (s : State) : outsideControl (updateHold s) = outsideControl s := by
  unfold updateHold; split_ifs <;> rfl

@[simp] theorem alertRises_control (l : AlertLevel) (s : State) :
    outsideControl (alertRises l s) = outsideControl s := by
  unfold alertRises; rw [formBranchAlert_control, queueRain_control]; rfl

@[simp] theorem evaluateAlert_control (s : State) : outsideControl (evaluateAlert s) = outsideControl s := by
  unfold evaluateAlert; dsimp only; split
  · rw [alertRises_control]; rfl
  · rw [updateHold_control]; rfl

@[simp] theorem holdExpires_control (s : State) : outsideControl (holdExpires s) = outsideControl s := by
  unfold holdExpires; rw [evaluateAlert_control, formBranchAlert_control, queueRain_control]; rfl

@[simp] theorem acceptTip_control (x : Stamped) (s : State) : outsideControl (acceptTip x s) = outsideControl s := by
  unfold acceptTip; rw [evaluateAlert_control]; rfl

@[simp] theorem rainTakesEdge_control (r : Bool) (x : Stamped) (s : State) :
    outsideControl (rainTakesEdge r x s) = outsideControl s := by
  unfold rainTakesEdge; split_ifs <;> simp <;> rfl

@[simp] theorem minuteEnds_control (s : State) : outsideControl (minuteEnds s) = outsideControl s := by
  unfold minuteEnds; rw [evaluateAlert_control]; rfl

@[simp] theorem notifySpill_control (s : State) : outsideControl (notifySpill s) = outsideControl s := by
  unfold notifySpill
  rw [inEitherOrder_control drainTakesNotice_control evaluateAlert_control]; simp

/-! ### The spill state machine -/

@[simp] theorem notifySpill_spill (s : State) : (notifySpill s).spill = s.spill :=
  (congrArg State.spill (notifySpill_control s) : (outsideControl (notifySpill s)).spill = (outsideControl s).spill)

/-- What an evaluation of the combined condition leaves of the Spill Monitor. -/
theorem spillEvaluates_spill (change : Stamped) (s : State) :
    (spillEvaluates change s).spill = spillAfter s (combined s) change s.spill := by
  unfold spillEvaluates spillAfter
  split <;> simp_all [enterOnset, lapseSpell, enterSubsiding, resumeSpilling, seconds, Nat.mul_comm]

end Sys2Proof.Machine
end

