-- ==== Sys2Proof/Laws/Blocks.lean ====
section
/-! SUPPORT. What the operations of the Spill Monitor, the Input Unit, the Time Unit, the Peer Table and the Trunk
Interface leave alone (`outsideBlocks`, Sys2Proof/Laws/Frames.lean), and that no command touches the queue. -/

namespace Sys2Proof.Machine

/-- Two notices that leave the blocks' outside alone do so in either order. -/
theorem inEitherOrder_blocks {f g : State → State} (hf : ∀ t, outsideBlocks (f t) = outsideBlocks t)
    (hg : ∀ t, outsideBlocks (g t) = outsideBlocks t) (s : State) :
    outsideBlocks (inEitherOrder f g s) = outsideBlocks s :=
  inEitherOrder_holds (fun t => outsideBlocks t = outsideBlocks s) (fun t h => by rw [hg, hf, h])
    (fun t h => by rw [hf, hg, h]) rfl

@[simp] theorem raise_blocks (f : EventFlag) (s : State) : outsideBlocks (raise f s) = outsideBlocks s := rfl

@[simp] theorem queueBody_blocks (b : Body) (s : State) : outsideBlocks (queueBody b s) = outsideBlocks s :=
  outsideBlocks_of (queueBody_control b s)

@[simp] theorem queueClaim_blocks (s : State) : outsideBlocks (queueClaim s) = outsideBlocks s :=
  queueBody_blocks _ _

@[simp] theorem reformClaim_blocks (s : State) : outsideBlocks (reformClaim s) = outsideBlocks s :=
  outsideBlocks_of (reformClaim_control s)

@[simp] theorem drainTakesShareNotice_blocks (s : State) :
    outsideBlocks (drainTakesShareNotice s) = outsideBlocks s := outsideBlocks_of (drainTakesShareNotice_control s)

@[simp] theorem formBranchAlert_blocks (s : State) : outsideBlocks (formBranchAlert s) = outsideBlocks s :=
  outsideBlocks_of (formBranchAlert_control s)

@[simp] theorem notifySpill_blocks (s : State) : outsideBlocks (notifySpill s) = outsideBlocks s :=
  outsideBlocks_of (notifySpill_control s)

@[simp] theorem evaluateAlert_blocks (s : State) : outsideBlocks (evaluateAlert s) = outsideBlocks s :=
  outsideBlocks_of (evaluateAlert_control s)

@[simp] theorem tankTakesDrainNotice_blocks (s : State) : outsideBlocks (tankTakesDrainNotice s) = outsideBlocks s :=
  outsideBlocks_of (tankTakesDrainNotice_control s)

/-! ### The Spill Monitor -/

@[simp] theorem spillEvaluates_blocks (c : Stamped) (s : State) :
    outsideBlocks (spillEvaluates c s) = outsideBlocks s := by
  unfold spillEvaluates enterOnset lapseSpell enterSubsiding resumeSpilling
  split
  all_goals first
    | rfl
    | (rw [notifySpill_blocks]; rfl)

@[simp] theorem confirmSpill_blocks (s : State) : outsideBlocks (confirmSpill s) = outsideBlocks s := by
  unfold confirmSpill; rw [notifySpill_blocks]; rfl

@[simp] theorem endSpill_blocks (s : State) : outsideBlocks (endSpill s) = outsideBlocks s := by
  unfold endSpill; rw [notifySpill_blocks]; rfl

@[simp] theorem spillTakesEdge_blocks (r : Bool) (e : Stamped) (s : State) :
    outsideBlocks (spillTakesEdge r e s) = outsideBlocks s := by
  unfold spillTakesEdge; dsimp only; rw [spillEvaluates_blocks]; rfl

@[simp] theorem counterTakesSample_blocks (n : SampleNotice) (s : State) :
    outsideBlocks (counterTakesSample n s) = outsideBlocks s := outsideBlocks_of (counterTakesSample_control n s)

@[simp] theorem measureHead_blocks (b : Bool) (s : State) : outsideBlocks (measureHead b s) = outsideBlocks s := rfl

@[simp] theorem takeSpillSample_blocks (a : SpillState) (d : Nat) (s : State) :
    outsideBlocks (takeSpillSample a d s) = outsideBlocks s := by
  unfold takeSpillSample; dsimp only; split_ifs <;> simp <;> rfl

@[simp] theorem spillTakesSample_blocks (d : Nat) (s : State) :
    outsideBlocks (spillTakesSample d s) = outsideBlocks s := by
  unfold spillTakesSample; simp

/-! ### The Input Unit -/

@[simp] theorem convertGauge_blocks (g : Gauge) (r : BitVec 12) (s : State) :
    outsideBlocks (convertGauge g r s) = outsideBlocks s := by
  unfold convertGauge; dsimp only; split <;> rfl

@[simp] theorem sampleTank_blocks (c : GaugeCounts) (s : State) : outsideBlocks (sampleTank c s) = outsideBlocks s := by
  unfold sampleTank; rw [outsideBlocks_of (tankTakesSample_control _ _)]; simp

@[simp] theorem sampleOverflow_blocks (c : GaugeCounts) (s : State) :
    outsideBlocks (sampleOverflow c s) = outsideBlocks s := by
  unfold sampleOverflow; simp

@[simp] theorem takeSample_blocks (c : GaugeCounts) (s : State) : outsideBlocks (takeSample c s) = outsideBlocks s := by
  unfold takeSample; rw [inEitherOrder_blocks (sampleTank_blocks c) (sampleOverflow_blocks c)]; rfl

@[simp] theorem setInput_blocks (i : DigitalIn) (d : DigitalInput) (s : State) :
    outsideBlocks (setInput i d s) = outsideBlocks s := rfl

@[simp] theorem handEdge_blocks (i : DigitalIn) (e : Candidate) (s : State) :
    outsideBlocks (handEdge i e s) = outsideBlocks s := by
  unfold handEdge; split
  · exact outsideBlocks_of (rainTakesEdge_control _ _ _)
  · exact outsideBlocks_of (tankTakesEdge_control _ _ _)
  · exact outsideBlocks_of (tankTakesEdge_control _ _ _)
  · simp
  · exact outsideBlocks_of (drainTakesEdge_control _ _)

@[simp] theorem takeEdge_blocks (i : DigitalIn) (e : Candidate) (s : State) :
    outsideBlocks (takeEdge i e s) = outsideBlocks s := by
  unfold takeEdge; simp

@[simp] theorem clearCaptures_blocks (i : DigitalIn) (s : State) :
    outsideBlocks (clearCaptures i s) = outsideBlocks s := rfl

/-! ### The Time Unit -/

@[simp] theorem setClock_blocks (c : ClockState) (s : State) : outsideBlocks (setClock c s) = outsideBlocks s := by
  unfold setClock; split <;> rfl

@[simp] theorem stepNotices_blocks (s : State) : outsideBlocks (stepNotices s) = outsideBlocks s := by
  unfold stepNotices
  exact outsideBlocks_of (by simp)

@[simp] theorem markStepped_blocks (s : State) : outsideBlocks (markStepped s) = outsideBlocks s := by
  unfold markStepped; split <;> rfl

@[simp] theorem stepTime_blocks (t : Nat) (c : ClockState) (s : State) :
    outsideBlocks (stepTime t c s) = outsideBlocks s := by
  unfold stepTime; rw [stepNotices_blocks, setClock_blocks, markStepped_blocks]; rfl

@[simp] theorem takeOutlier_blocks (s : State) : outsideBlocks (takeOutlier s) = outsideBlocks s := by
  unfold takeOutlier; split <;> rfl

@[simp] theorem useSample_blocks (v : Int) (s : State) : outsideBlocks (useSample v s) = outsideBlocks s := by
  unfold useSample; dsimp only; split
  · rw [setClock_blocks]; rfl
  · rfl

@[simp] theorem handleSample_blocks (v : Int) (s : State) : outsideBlocks (handleSample v s) = outsideBlocks s := by
  unfold handleSample; split <;> simp

@[simp] theorem timeTakesSample_blocks (x : TimeSample) (s : State) :
    outsideBlocks (timeTakesSample x s) = outsideBlocks s := by
  unfold timeTakesSample; dsimp only; split
  · rfl
  · have e : ∀ (t : State) (l : Option LastSample),
        outsideBlocks { t with time.lastSample := l } = outsideBlocks t := fun _ _ => rfl
    rw [e, handleSample_blocks]; split <;> rfl

@[simp] theorem settleCheck_blocks (s : State) : outsideBlocks (settleCheck s) = outsideBlocks s := by
  unfold settleCheck; split_ifs <;> (try rw [setClock_blocks]) <;> rfl

@[simp] theorem slew_blocks (s : State) : outsideBlocks (slew s) = outsideBlocks s := by
  unfold slew; split_ifs <;> rfl

@[simp] theorem makeAdjust_blocks (s : State) : outsideBlocks (makeAdjust s) = outsideBlocks s := by
  unfold makeAdjust; rw [settleCheck_blocks, slew_blocks]; rfl

/-! ### The Peer Table -/

@[simp] theorem setEntries_blocks (es : List PeerEntry) (s : State) : outsideBlocks (setEntries es s) = outsideBlocks s :=
  rfl

@[simp] theorem takeEntry_blocks (r : Received) (h n : Nat) (s : State) :
    outsideBlocks (takeEntry r h n s) = outsideBlocks s := by
  unfold takeEntry; dsimp only; split
  · rfl
  · split
    · rfl
    · split <;> rfl

@[simp] theorem applyLimit_blocks (l : LimitBody) (a : Addr) (x : Stamped) (s : State) :
    outsideBlocks (applyLimit l a x s) = outsideBlocks s := by
  unfold applyLimit; dsimp only; split
  · rfl
  · split <;> rfl

@[simp] theorem takeBody_blocks (b : Body) (u : Uses) (a : Addr) (n : Nat) (s : State) :
    outsideBlocks (takeBody b u a n s) = outsideBlocks s := by
  unfold takeBody; dsimp only; split
  · split <;> simp
  · split_ifs <;> simp
  · split <;> simp
  · rfl

@[simp] theorem takeBulletin_blocks (r : Received) (n : Nat) (b : Bool) (s : State) :
    outsideBlocks (takeBulletin r n b s) = outsideBlocks s := by
  unfold takeBulletin; split
  · rfl
  · dsimp only; split
    · rw [inEitherOrder_blocks (takeBody_blocks _ _ _ _) (timeTakesSample_blocks _)]; simp
    · simp

@[simp] theorem forgetEntry_blocks (a : Addr) (s : State) : outsideBlocks (forgetEntry a s) = outsideBlocks s := rfl

@[simp] theorem claimGoesStale_blocks (a : Addr) (s : State) : outsideBlocks (claimGoesStale a s) = outsideBlocks s := by
  unfold claimGoesStale; simp

@[simp] theorem claimGoes_blocks (a : Addr) (s : State) : outsideBlocks (claimGoes a s) = outsideBlocks s := by
  unfold claimGoes; simp

@[simp] theorem rainGoes_blocks (a : Addr) (s : State) : outsideBlocks (rainGoes a s) = outsideBlocks s := by
  unfold rainGoes; simp

@[simp] theorem limitLapses_blocks (s : State) : outsideBlocks (limitLapses s) = outsideBlocks s := by
  unfold limitLapses; rw [drainTakesShareNotice_blocks]; rfl

/-! ### The Trunk Interface -/

@[simp] theorem startCutoffHold_blocks (s : State) : outsideBlocks (startCutoffHold s) = outsideBlocks s := rfl

@[simp] theorem idleTransmitter_blocks (s : State) : outsideBlocks (idleTransmitter s) = outsideBlocks s := rfl

@[simp] theorem drawDeferral_blocks (s : State) : outsideBlocks (drawDeferral s) = outsideBlocks s := rfl

@[simp] theorem enterWaitLine_blocks (s : State) : outsideBlocks (enterWaitLine s) = outsideBlocks s :=
  outsideBlocks_of (outsideControl_of (outsideTank_of (enterWaitLine_outside s)))

@[simp] theorem wakeTransmitter_blocks (s : State) : outsideBlocks (wakeTransmitter s) = outsideBlocks s :=
  outsideBlocks_of (outsideControl_of (outsideTank_of (wakeTransmitter_outside s)))

@[simp] theorem transmitterTakesStanding_blocks (s : State) :
    outsideBlocks (transmitterTakesStanding s) = outsideBlocks s := by
  unfold transmitterTakesStanding; split_ifs <;> simp

@[simp] theorem setStanding_blocks (x : Standing) (s : State) : outsideBlocks (setStanding x s) = outsideBlocks s := by
  unfold setStanding; split
  · rfl
  · rw [drainTakesShareNotice_blocks, transmitterTakesStanding_blocks]; rfl

@[simp] theorem standFromScores_blocks (s : State) : outsideBlocks (standFromScores s) = outsideBlocks s := by
  unfold standFromScores; dsimp only; rw [setStanding_blocks]; split <;> rfl

@[simp] theorem recomputeStanding_blocks (s : State) : outsideBlocks (recomputeStanding s) = outsideBlocks s := by
  unfold recomputeStanding; split <;> simp

@[simp] theorem raiseTxScore_blocks (n : Nat) (s : State) : outsideBlocks (raiseTxScore n s) = outsideBlocks s := by
  unfold raiseTxScore; rw [recomputeStanding_blocks]; rfl

@[simp] theorem lowerTxScore_blocks (s : State) : outsideBlocks (lowerTxScore s) = outsideBlocks s := by
  unfold lowerTxScore; rw [recomputeStanding_blocks]; rfl

@[simp] theorem raiseRxScore_blocks (n : Nat) (s : State) : outsideBlocks (raiseRxScore n s) = outsideBlocks s := by
  unfold raiseRxScore; rw [recomputeStanding_blocks]; rfl

@[simp] theorem lowerRxScore_blocks (s : State) : outsideBlocks (lowerRxScore s) = outsideBlocks s := by
  unfold lowerRxScore; rw [recomputeStanding_blocks]; rfl

@[simp] theorem holdElapses_blocks (s : State) : outsideBlocks (holdElapses s) = outsideBlocks s := by
  unfold holdElapses; rw [standFromScores_blocks]; rfl

theorem silenceRequest_blocks (s : State) : outsideBlocks (silenceRequest s).2 = outsideBlocks s := by
  unfold silenceRequest; split
  · rfl
  · rfl
  · dsimp only; rw [setStanding_blocks]; rfl

theorem rejoinRequest_blocks (s : State) : outsideBlocks (rejoinRequest s).2 = outsideBlocks s := by
  unfold rejoinRequest; split <;> simp

@[simp] theorem transmitterRests_blocks (s : State) : outsideBlocks (transmitterRests s) = outsideBlocks s := by
  unfold transmitterRests; split <;> simp

@[simp] theorem beginAttempt_blocks (s : State) : outsideBlocks (beginAttempt s) = outsideBlocks s := by
  unfold beginAttempt; split
  · rfl
  · rfl

@[simp] theorem enterBackoff_blocks (n : Nat) (s : State) : outsideBlocks (enterBackoff n s) = outsideBlocks s := by
  unfold enterBackoff; split <;> rfl

@[simp] theorem setSlot_blocks (k : Kind) (v : Slot) (s : State) : outsideBlocks (setSlot k v s) = outsideBlocks s :=
  rfl

@[simp] theorem failAttempt_blocks (k : Kind) (n : Nat) (s : State) :
    outsideBlocks (failAttempt k n s) = outsideBlocks s := by
  unfold failAttempt; dsimp only
  have e : ∀ t : State, outsideBlocks { t with trunk.attempt := none } = outsideBlocks t := fun _ => rfl
  split_ifs <;> simp [e]

@[simp] theorem applyOwnLimit_blocks (a : Attempt) (s : State) :
    outsideBlocks (applyOwnLimit a s) = outsideBlocks s := by
  unfold applyOwnLimit; split <;> simp

@[simp] theorem cleanSend_blocks (a : Attempt) (s : State) : outsideBlocks (cleanSend a s) = outsideBlocks s := by
  unfold cleanSend; dsimp only
  have e : ∀ t : State, outsideBlocks { t with trunk.attempt := none } = outsideBlocks t := fun _ => rfl
  have r : ∀ t : State, outsideBlocks (restartPresence t) = outsideBlocks t := fun _ => rfl
  simp [e, r]

@[simp] theorem endDisregarded_blocks (s : State) : outsideBlocks (endDisregarded s) = outsideBlocks s := by
  unfold endDisregarded; dsimp only; split
  · rw [transmitterRests_blocks]; rfl
  · rfl

@[simp] theorem attemptEnds_blocks (a : Attempt) (s : State) : outsideBlocks (attemptEnds a s) = outsideBlocks s := by
  unfold attemptEnds; split_ifs <;> simp

@[simp] theorem attemptCollides_blocks (a : Attempt) (n : Nat) (s : State) :
    outsideBlocks (attemptCollides a n s) = outsideBlocks s := by
  unfold attemptCollides; split <;> simp

@[simp] theorem badBulletin_blocks (s : State) : outsideBlocks (badBulletin s) = outsideBlocks s := by
  unfold badBulletin; dsimp only; split <;> simp

@[simp] theorem addressClash_blocks (s : State) : outsideBlocks (addressClash s) = outsideBlocks s := by
  unfold addressClash; dsimp only; split
  · rfl
  · rw [setStanding_blocks]; rfl

@[simp] theorem goodBulletin_blocks (g : Gathering) (s : State) :
    outsideBlocks (goodBulletin g s) = outsideBlocks s := by
  unfold goodBulletin; dsimp only; split <;> simp

@[simp] theorem setReceiver_blocks (r : Receiver) (s : State) : outsideBlocks (setReceiver r s) = outsideBlocks s := rfl

@[simp] theorem takeEcho_blocks (b : List Byte) (s : State) : outsideBlocks (takeEcho b s) = outsideBlocks s := rfl

@[simp] theorem gatherByte_blocks (g : Gathering) (s : State) : outsideBlocks (gatherByte g s) = outsideBlocks s := by
  unfold gatherByte; dsimp only; split
  · split <;> simp
  · split
    · split <;> simp
    · simp

@[simp] theorem lineActivity_blocks (s : State) : outsideBlocks (lineActivity s) = outsideBlocks s := by
  unfold lineActivity; dsimp only; split <;> rfl

@[simp] theorem receiveByte_blocks (b : Byte) (s : State) : outsideBlocks (receiveByte b s) = outsideBlocks s := by
  unfold receiveByte; dsimp only; split <;> simp

@[simp] theorem receiverCollides_blocks (s : State) : outsideBlocks (receiverCollides s) = outsideBlocks s := by
  unfold receiverCollides; split <;> rfl

@[simp] theorem takeCollision_blocks (n : Nat) (s : State) : outsideBlocks (takeCollision n s) = outsideBlocks s := by
  unfold takeCollision; dsimp only; split
  · split <;> simp
  · rw [attemptCollides_blocks]; split <;> simp

@[simp] theorem receiverTakesFree_blocks (s : State) : outsideBlocks (receiverTakesFree s) = outsideBlocks s := by
  unfold receiverTakesFree; split
  · rfl
  · split <;> simp
  · rfl

@[simp] theorem takeLineFree_blocks (s : State) : outsideBlocks (takeLineFree s) = outsideBlocks s := by
  unfold takeLineFree; dsimp only; split
  · rw [drawDeferral_blocks, receiverTakesFree_blocks]; rfl
  · rw [receiverTakesFree_blocks]; rfl

end Sys2Proof.Machine
end

