-- ==== Sys2Proof/Laws/Memory.lean ====
section
/-! SUPPORT. The bytes of the spill log (R175): a write keeps the canonical form, what a read finds after a write, and
the shape of the log after slots are written and freed. -/

namespace Sys2Proof.Machine

/-- Every cell of a memory lies above an address. -/
def allAbove (a : Nat) (m : List Host.Cell) : Prop := ∀ c ∈ m, a < c.1

theorem wf_cons {c : Host.Cell} {m : List Host.Cell} :
    Memory.wf (c :: m) = true ↔ c.2 ≠ Memory.unlisted ∧ allAbove c.1 m ∧ Memory.wf m = true := by
  induction m generalizing c with
  | nil => simp [Memory.wf, allAbove]
  | cons d m ih =>
    rw [Memory.wf]
    simp only [Bool.and_eq_true, bne_iff_ne, ne_eq, decide_eq_true_eq, allAbove, List.mem_cons, forall_eq_or_imp]
    constructor
    · rintro ⟨⟨h1, h2⟩, h3⟩
      exact ⟨h1, ⟨h2, fun e he => lt_trans h2 ((ih.mp h3).2.1 e he)⟩, h3⟩
    · rintro ⟨h1, ⟨h2, _⟩, h3⟩
      exact ⟨⟨h1, h2⟩, h3⟩

theorem write_allAbove {k a : Nat} {b : Byte} {m : List Host.Cell} (h : allAbove k m) (ha : k < a) :
    allAbove k (Memory.write m a b) := by
  induction m with
  | nil => unfold Memory.write; split <;> simp [allAbove, ha]
  | cons c m ih =>
    have hc : k < c.1 := h c (List.mem_cons_self ..)
    have hm : allAbove k m := fun e he => h e (List.mem_cons_of_mem _ he)
    unfold Memory.write
    split_ifs
    · exact h
    · intro e he; rcases List.mem_cons.mp he with rfl | he
      · exact ha
      · exact h e he
    · exact hm
    · intro e he; rcases List.mem_cons.mp he with rfl | he
      · exact ha
      · exact hm e he
    · intro e he; rcases List.mem_cons.mp he with rfl | he
      · exact hc
      · exact ih hm e he

/-- A write keeps the canonical form. -/
theorem write_wf {a : Nat} {b : Byte} {m : List Host.Cell} (h : Memory.wf m = true) :
    Memory.wf (Memory.write m a b) = true := by
  induction m with
  | nil => unfold Memory.write; split <;> simp_all [Memory.wf]
  | cons c m ih =>
    obtain ⟨h1, h2, h3⟩ := wf_cons.mp h
    unfold Memory.write
    split_ifs with p q q
    · exact h
    · refine wf_cons.mpr ⟨q, fun e he => ?_, h⟩
      rcases List.mem_cons.mp he with rfl | he
      · exact p
      · exact lt_trans p (h2 e he)
    · exact h3
    · rename_i r
      refine wf_cons.mpr ⟨r, ?_, h3⟩
      rw [q]; exact h2
    · exact wf_cons.mpr ⟨h1, write_allAbove h2 (by omega), ih h3⟩

theorem read_of_allAbove {a : Nat} {m : List Host.Cell} (h : allAbove a m) : Memory.read m a = Memory.unlisted := by
  induction m with
  | nil => rfl
  | cons c m ih =>
    have hc : a < c.1 := h c (List.mem_cons_self ..)
    unfold Memory.read
    rw [if_neg (by omega)]
    exact ih fun e he => h e (List.mem_cons_of_mem _ he)

/-- A written byte reads as what was written. -/
theorem read_write_same {a : Nat} {b : Byte} {m : List Host.Cell} (h : Memory.wf m = true) :
    Memory.read (Memory.write m a b) a = b := by
  induction m with
  | nil => unfold Memory.write; split <;> simp_all [Memory.read]
  | cons c m ih =>
    obtain ⟨_, h2, h3⟩ := wf_cons.mp h
    unfold Memory.write
    split_ifs with p q r s
    · rw [q]; refine read_of_allAbove fun e he => ?_
      rcases List.mem_cons.mp he with rfl | he
      · exact p
      · exact lt_trans p (h2 e he)
    · simp [Memory.read]
    · rw [s]; subst r; exact read_of_allAbove h2
    · simp [Memory.read]
    · unfold Memory.read; rw [if_neg (by omega)]; exact ih h3

/-- Every other byte reads as before. -/
theorem read_write_other {a k : Nat} {b : Byte} {m : List Host.Cell} (h : Memory.wf m = true) (n : k ≠ a) :
    Memory.read (Memory.write m a b) k = Memory.read m k := by
  induction m with
  | nil => unfold Memory.write; split <;> simp [Memory.read, Ne.symm n]
  | cons c m ih =>
    obtain ⟨_, h2, h3⟩ := wf_cons.mp h
    unfold Memory.write
    split_ifs with p q r s
    · rfl
    · rw [Memory.read, if_neg (Ne.symm n)]
    · subst r; rw [Memory.read, if_neg (Ne.symm n)]
    · subst r; rw [Memory.read, if_neg (Ne.symm n), Memory.read, if_neg (Ne.symm n)]
    · unfold Memory.read; split
      · rfl
      · exact ih h3

theorem writeAll_wf {bs : List Byte} {a : Nat} {m : List Host.Cell} (h : Memory.wf m = true) :
    Memory.wf (Memory.writeAll m a bs) = true := by
  induction bs generalizing a m with
  | nil => exact h
  | cons b bs ih => exact ih (write_wf h)

/-- Bytes outside those written read as before. -/
theorem read_writeAll_outside {bs : List Byte} {a k : Nat} {m : List Host.Cell} (h : Memory.wf m = true)
    (n : k < a ∨ a + bs.length ≤ k) : Memory.read (Memory.writeAll m a bs) k = Memory.read m k := by
  induction bs generalizing a m with
  | nil => rfl
  | cons b bs ih =>
    simp only [List.length_cons] at n
    unfold Memory.writeAll
    rw [ih (write_wf h) (by omega), read_write_other h (by omega)]

/-- Each byte written reads as what was written. -/
theorem read_writeAll_inside {bs : List Byte} {a i : Nat} {m : List Host.Cell} (h : Memory.wf m = true)
    (n : i < bs.length) : Memory.read (Memory.writeAll m a bs) (a + i) = bs.getD i 0 := by
  induction bs generalizing a i m with
  | nil => simp at n
  | cons b bs ih =>
    unfold Memory.writeAll
    cases i with
    | zero => rw [read_writeAll_outside (write_wf h) (by omega), Nat.add_zero, read_write_same h]; rfl
    | succ i =>
      have e : a + (i + 1) = a + 1 + i := by omega
      rw [e, ih (write_wf h) (by simpa using n)]; rfl

/-- The cells of a memory lie below an address. -/
def allBelow (a : Nat) (m : List Host.Cell) : Prop := ∀ c ∈ m, c.1 < a

theorem write_allBelow {k a : Nat} {b : Byte} {m : List Host.Cell} (h : allBelow k m) (ha : a < k) :
    allBelow k (Memory.write m a b) := by
  induction m with
  | nil => unfold Memory.write; split <;> simp [allBelow, ha]
  | cons c m ih =>
    have hc : c.1 < k := h c (List.mem_cons_self ..)
    have hm : allBelow k m := fun e he => h e (List.mem_cons_of_mem _ he)
    unfold Memory.write
    split_ifs
    · exact h
    · intro e he; rcases List.mem_cons.mp he with rfl | he
      · exact ha
      · exact h e he
    · exact hm
    · intro e he; rcases List.mem_cons.mp he with rfl | he
      · exact ha
      · exact hm e he
    · intro e he; rcases List.mem_cons.mp he with rfl | he
      · exact hc
      · exact ih hm e he

theorem writeAll_allBelow {bs : List Byte} {k a : Nat} {m : List Host.Cell} (h : allBelow k m)
    (ha : a + bs.length ≤ k) : allBelow k (Memory.writeAll m a bs) := by
  induction bs generalizing a m with
  | nil => exact h
  | cons b bs ih =>
    simp only [List.length_cons] at ha
    exact ih (write_allBelow h (by omega)) (by omega)

/-! ### The slots of a record -/

@[simp] theorem bytesOf_length (k n : Nat) : (bytesOf k n).length = k := by
  induction k with
  | zero => rfl
  | succ k ih => simp [bytesOf, ih]

theorem blockEntry_length (e : BlockEntry) : e.bytes.length = 10 := by simp [BlockEntry.bytes]

theorem headSlot_length (r : SpillRecord) : (headSlot r).length = 32 := by simp [headSlot]

theorem continuationSlot_length (k : Byte) {es : List BlockEntry} (h : es.length ≤ 3) :
    (continuationSlot k es).length = 32 := by
  have e : (es.flatMap BlockEntry.bytes).length = es.length * 10 := by
    induction es with
    | nil => rfl
    | cons a es ih =>
      simp only [List.flatMap_cons, List.length_append, blockEntry_length, List.length_cons] at h ⊢
      rw [ih (by omega)]; omega
  simp only [continuationSlot, List.length_append, e, List.length_replicate, List.length_cons, List.length_nil]
  omega

theorem continuationSlots_length : ∀ (es : List BlockEntry), ∀ b ∈ continuationSlots es, b.length = 32
  | a :: b :: c :: d :: rest => by
    intro x hx
    unfold continuationSlots at hx
    rcases List.mem_cons.mp hx with rfl | hx
    · exact continuationSlot_length _ (by simp)
    · exact continuationSlots_length (d :: rest) x hx
  | [] => by simp [continuationSlots]
  | [a] => by simp [continuationSlots, continuationSlot_length]
  | [a, b] => by simp [continuationSlots, continuationSlot_length]
  | [a, b, c] => by simp [continuationSlots, continuationSlot_length]

/-- Every slot of a record is 32 bytes. -/
theorem slots_length (r : SpillRecord) : ∀ b ∈ r.slots, b.length = 32 := by
  intro b hb
  rcases List.mem_cons.mp hb with rfl | hb
  · exact headSlot_length r
  · exact continuationSlots_length _ _ hb

/-! ### The ring -/

/-- The log's part of `LogOk`. -/
def SpillLog.ok (l : SpillLog) : Prop :=
  l.owners.length = 48 ∧ l.readPos < 48 ∧ l.writePos < 48 ∧ Memory.wf l.content = true ∧
  ∀ c ∈ l.content, c.1 < 48 * 32

theorem logOk_iff (s : State) : LogOk s ↔ s.counter.log.ok := Iff.rfl

theorem reset_logOk : SpillLog.reset.ok := by
  refine ⟨rfl, by decide, by decide, rfl, ?_⟩
  intro c hc
  exact absurd hc (by simp [SpillLog.reset])

theorem putSlot_ok {l : SpillLog} {k : Nat} {bs : List Byte} (h : l.ok) (hk : k < 48) (hb : bs.length = 32) :
    (l.putSlot k bs).ok := by
  obtain ⟨h1, h2, h3, h4, h5⟩ := h
  refine ⟨by simpa [SpillLog.putSlot] using h1, h2, h3, writeAll_wf h4, ?_⟩
  exact writeAll_allBelow h5 (by omega)

theorem putSlots_ok {bss : List (List Byte)} {l : SpillLog} {k : Nat} (h : l.ok) (hk : k < 48)
    (hb : ∀ b ∈ bss, b.length = 32) : (l.putSlots k bss).ok := by
  induction bss generalizing l k with
  | nil => exact h
  | cons b bss ih =>
    exact ih (putSlot_ok h hk (hb b (List.mem_cons_self ..))) (Nat.mod_lt _ (by decide))
      fun x hx => hb x (List.mem_cons_of_mem _ hx)

/-- R176 a: writing a record keeps the log well formed. -/
theorem writeRecord_ok {l : SpillLog} (r : SpillRecord) (h : l.ok) : (l.writeRecord r).ok := by
  obtain ⟨h1, h2, _, h4, h5⟩ := putSlots_ok h h.2.2.1 (slots_length r)
  exact ⟨h1, h2, Nat.mod_lt _ (by decide), h4, h5⟩

theorem freeSlots_ok {n : Nat} {l : SpillLog} {k : Nat} (h : l.ok) : (l.freeSlots k n).ok := by
  induction n generalizing l k with
  | zero => exact h
  | succ n ih =>
    refine ih ?_
    obtain ⟨h1, h2, h3, h4, h5⟩ := h
    exact ⟨by simpa using h1, h2, h3, h4, h5⟩

theorem placeRecord_log {r : SpillRecord} {s : State} (h : s.counter.log.ok) : (placeRecord r s).counter.log.ok := by
  unfold placeRecord; dsimp only
  split_ifs
  · exact writeRecord_ok r h
  · exact h
  · exact h

theorem placePending_log {rs : List SpillRecord} {s : State} (h : s.counter.log.ok) :
    (placePending rs s).counter.log.ok := by
  induction rs generalizing s with
  | nil => exact h
  | cons r rs ih =>
    unfold placePending; split
    · exact ih (writeRecord_ok r h)
    · exact h

/-- R177 c: a release keeps the log well formed. -/
theorem releaseOldest_log {s : State} (h : s.counter.log.ok) : (releaseOldest s).counter.log.ok := by
  unfold releaseOldest
  refine placePending_log ?_
  obtain ⟨h1, _, h3, h4, h5⟩ := freeSlots_ok (n := s.counter.log.oldestSlots) (k := s.counter.log.readPos) h
  exact ⟨h1, Nat.mod_lt _ (by decide), h3, h4, h5⟩

end Sys2Proof.Machine
end

