-- ==== Sys2Proof/Laws/State.lean ====
section
/-! SUPPORT. Beside State: for each named update, one lemma for each field that it leaves (a conjunction, which the
simplifier takes apart), and what it does to the field that it is named for; all true by definition. -/

namespace Sys2Proof.Machine

/-! ### The fields that an update leaves -/

@[simp] theorem raise_leaves (f : EventFlag) (s : State) :
    (raise f s).elapsed = s.elapsed ∧ (raise f s).trunk = s.trunk ∧ (raise f s).peers = s.peers ∧
    (raise f s).time = s.time ∧ (raise f s).input = s.input ∧ (raise f s).tank = s.tank ∧
    (raise f s).spill = s.spill ∧ (raise f s).rain = s.rain ∧ (raise f s).drain = s.drain ∧
    (raise f s).counter = s.counter ∧ (raise f s).free = s.free ∧ (raise f s).pending = s.pending :=
  ⟨rfl, rfl, rfl, rfl, rfl, rfl, rfl, rfl, rfl, rfl, rfl, rfl⟩

@[simp] theorem setSetpoint_leaves (n : Nat) (s : State) :
    (setSetpoint n s).elapsed = s.elapsed ∧ (setSetpoint n s).trunk = s.trunk ∧ (setSetpoint n s).peers = s.peers ∧
    (setSetpoint n s).time = s.time ∧ (setSetpoint n s).tank = s.tank ∧ (setSetpoint n s).spill = s.spill ∧
    (setSetpoint n s).rain = s.rain ∧ (setSetpoint n s).counter = s.counter ∧ (setSetpoint n s).port = s.port ∧
    (setSetpoint n s).free = s.free ∧ (setSetpoint n s).pending = s.pending :=
  ⟨rfl, rfl, rfl, rfl, rfl, rfl, rfl, rfl, rfl, rfl, rfl⟩

@[simp] theorem runShare_leaves (s : State) :
    (runShare s).elapsed = s.elapsed ∧ (runShare s).trunk = s.trunk ∧ (runShare s).peers = s.peers ∧
    (runShare s).time = s.time ∧ (runShare s).input = s.input ∧ (runShare s).tank = s.tank ∧
    (runShare s).spill = s.spill ∧ (runShare s).rain = s.rain ∧ (runShare s).counter = s.counter ∧
    (runShare s).port = s.port ∧ (runShare s).free = s.free ∧ (runShare s).pending = s.pending :=
  ⟨rfl, rfl, rfl, rfl, rfl, rfl, rfl, rfl, rfl, rfl, rfl, rfl⟩

@[simp] theorem placeClaimTimer_leaves (s : State) :
    (placeClaimTimer s).elapsed = s.elapsed ∧ (placeClaimTimer s).trunk = s.trunk ∧
    (placeClaimTimer s).peers = s.peers ∧ (placeClaimTimer s).time = s.time ∧ (placeClaimTimer s).input = s.input ∧
    (placeClaimTimer s).tank = s.tank ∧ (placeClaimTimer s).spill = s.spill ∧ (placeClaimTimer s).rain = s.rain ∧
    (placeClaimTimer s).counter = s.counter ∧ (placeClaimTimer s).port = s.port ∧ (placeClaimTimer s).free = s.free ∧
    (placeClaimTimer s).pending = s.pending :=
  ⟨rfl, rfl, rfl, rfl, rfl, rfl, rfl, rfl, rfl, rfl, rfl, rfl⟩

@[simp] theorem pumpStops_leaves (s : State) :
    (pumpStops s).elapsed = s.elapsed ∧ (pumpStops s).trunk = s.trunk ∧ (pumpStops s).peers = s.peers ∧
    (pumpStops s).time = s.time ∧ (pumpStops s).input = s.input ∧ (pumpStops s).tank = s.tank ∧
    (pumpStops s).spill = s.spill ∧ (pumpStops s).rain = s.rain ∧ (pumpStops s).counter = s.counter ∧
    (pumpStops s).port = s.port ∧ (pumpStops s).free = s.free ∧ (pumpStops s).pending = s.pending :=
  ⟨rfl, rfl, rfl, rfl, rfl, rfl, rfl, rfl, rfl, rfl, rfl, rfl⟩

@[simp] theorem pumpFaults_leaves (s : State) :
    (pumpFaults s).elapsed = s.elapsed ∧ (pumpFaults s).trunk = s.trunk ∧ (pumpFaults s).peers = s.peers ∧
    (pumpFaults s).time = s.time ∧ (pumpFaults s).tank = s.tank ∧ (pumpFaults s).spill = s.spill ∧
    (pumpFaults s).rain = s.rain ∧ (pumpFaults s).counter = s.counter ∧ (pumpFaults s).free = s.free ∧
    (pumpFaults s).pending = s.pending :=
  ⟨rfl, rfl, rfl, rfl, rfl, rfl, rfl, rfl, rfl, rfl⟩

@[simp] theorem commandGate_leaves (d : GateDrive) (s : State) :
    (commandGate d s).elapsed = s.elapsed ∧ (commandGate d s).trunk = s.trunk ∧ (commandGate d s).peers = s.peers ∧
    (commandGate d s).time = s.time ∧ (commandGate d s).tank = s.tank ∧ (commandGate d s).spill = s.spill ∧
    (commandGate d s).rain = s.rain ∧ (commandGate d s).drain = s.drain ∧ (commandGate d s).counter = s.counter ∧
    (commandGate d s).port = s.port ∧ (commandGate d s).free = s.free ∧ (commandGate d s).pending = s.pending :=
  ⟨rfl, rfl, rfl, rfl, rfl, rfl, rfl, rfl, rfl, rfl, rfl, rfl⟩

@[simp] theorem gateArrives_leaves (d : GateDir) (s : State) :
    (gateArrives d s).elapsed = s.elapsed ∧ (gateArrives d s).trunk = s.trunk ∧ (gateArrives d s).peers = s.peers ∧
    (gateArrives d s).time = s.time ∧ (gateArrives d s).spill = s.spill ∧ (gateArrives d s).rain = s.rain ∧
    (gateArrives d s).drain = s.drain ∧ (gateArrives d s).counter = s.counter ∧ (gateArrives d s).port = s.port ∧
    (gateArrives d s).free = s.free ∧ (gateArrives d s).pending = s.pending :=
  ⟨rfl, rfl, rfl, rfl, rfl, rfl, rfl, rfl, rfl, rfl, rfl⟩

@[simp] theorem reverseGate_leaves (d : GateDir) (s : State) :
    (reverseGate d s).elapsed = s.elapsed ∧ (reverseGate d s).trunk = s.trunk ∧ (reverseGate d s).peers = s.peers ∧
    (reverseGate d s).time = s.time ∧ (reverseGate d s).spill = s.spill ∧ (reverseGate d s).rain = s.rain ∧
    (reverseGate d s).drain = s.drain ∧ (reverseGate d s).counter = s.counter ∧ (reverseGate d s).port = s.port ∧
    (reverseGate d s).free = s.free ∧ (reverseGate d s).pending = s.pending :=
  ⟨rfl, rfl, rfl, rfl, rfl, rfl, rfl, rfl, rfl, rfl, rfl⟩

@[simp] theorem gateFaults_leaves (s : State) :
    (gateFaults s).elapsed = s.elapsed ∧ (gateFaults s).trunk = s.trunk ∧ (gateFaults s).peers = s.peers ∧
    (gateFaults s).time = s.time ∧ (gateFaults s).spill = s.spill ∧ (gateFaults s).rain = s.rain ∧
    (gateFaults s).drain = s.drain ∧ (gateFaults s).free = s.free ∧ (gateFaults s).pending = s.pending :=
  ⟨rfl, rfl, rfl, rfl, rfl, rfl, rfl, rfl, rfl⟩

@[simp] theorem onEvent_leaves (f : SpillEvent → SpillEvent) (s : State) :
    (onEvent f s).elapsed = s.elapsed ∧ (onEvent f s).trunk = s.trunk ∧ (onEvent f s).peers = s.peers ∧
    (onEvent f s).time = s.time ∧ (onEvent f s).input = s.input ∧ (onEvent f s).tank = s.tank ∧
    (onEvent f s).spill = s.spill ∧ (onEvent f s).rain = s.rain ∧ (onEvent f s).drain = s.drain ∧
    (onEvent f s).port = s.port ∧ (onEvent f s).free = s.free ∧ (onEvent f s).pending = s.pending :=
  ⟨rfl, rfl, rfl, rfl, rfl, rfl, rfl, rfl, rfl, rfl, rfl, rfl⟩

@[simp] theorem onCurrent_leaves (f : Block → Block) (s : State) :
    (onCurrent f s).elapsed = s.elapsed ∧ (onCurrent f s).trunk = s.trunk ∧ (onCurrent f s).peers = s.peers ∧
    (onCurrent f s).time = s.time ∧ (onCurrent f s).input = s.input ∧ (onCurrent f s).tank = s.tank ∧
    (onCurrent f s).spill = s.spill ∧ (onCurrent f s).rain = s.rain ∧ (onCurrent f s).drain = s.drain ∧
    (onCurrent f s).port = s.port ∧ (onCurrent f s).free = s.free ∧ (onCurrent f s).pending = s.pending :=
  ⟨rfl, rfl, rfl, rfl, rfl, rfl, rfl, rfl, rfl, rfl, rfl, rfl⟩

@[simp] theorem countBlock_leaves (b : Block) (s : State) :
    (countBlock b s).elapsed = s.elapsed ∧ (countBlock b s).trunk = s.trunk ∧ (countBlock b s).peers = s.peers ∧
    (countBlock b s).time = s.time ∧ (countBlock b s).input = s.input ∧ (countBlock b s).tank = s.tank ∧
    (countBlock b s).spill = s.spill ∧ (countBlock b s).rain = s.rain ∧ (countBlock b s).drain = s.drain ∧
    (countBlock b s).port = s.port ∧ (countBlock b s).free = s.free ∧ (countBlock b s).pending = s.pending :=
  ⟨rfl, rfl, rfl, rfl, rfl, rfl, rfl, rfl, rfl, rfl, rfl, rfl⟩

@[simp] theorem clearSummary_leaves (s : State) :
    (clearSummary s).elapsed = s.elapsed ∧ (clearSummary s).trunk = s.trunk ∧ (clearSummary s).peers = s.peers ∧
    (clearSummary s).time = s.time ∧ (clearSummary s).input = s.input ∧ (clearSummary s).tank = s.tank ∧
    (clearSummary s).spill = s.spill ∧ (clearSummary s).rain = s.rain ∧ (clearSummary s).drain = s.drain ∧
    (clearSummary s).port = s.port ∧ (clearSummary s).free = s.free ∧ (clearSummary s).pending = s.pending :=
  ⟨rfl, rfl, rfl, rfl, rfl, rfl, rfl, rfl, rfl, rfl, rfl, rfl⟩

@[simp] theorem idleTransmitter_leaves (s : State) :
    (idleTransmitter s).elapsed = s.elapsed ∧ (idleTransmitter s).peers = s.peers ∧
    (idleTransmitter s).time = s.time ∧ (idleTransmitter s).input = s.input ∧ (idleTransmitter s).tank = s.tank ∧
    (idleTransmitter s).spill = s.spill ∧ (idleTransmitter s).rain = s.rain ∧ (idleTransmitter s).drain = s.drain ∧
    (idleTransmitter s).counter = s.counter ∧ (idleTransmitter s).port = s.port ∧ (idleTransmitter s).free = s.free ∧
    (idleTransmitter s).pending = s.pending :=
  ⟨rfl, rfl, rfl, rfl, rfl, rfl, rfl, rfl, rfl, rfl, rfl, rfl⟩

@[simp] theorem restartPresence_leaves (s : State) :
    (restartPresence s).elapsed = s.elapsed ∧ (restartPresence s).peers = s.peers ∧
    (restartPresence s).time = s.time ∧ (restartPresence s).input = s.input ∧ (restartPresence s).tank = s.tank ∧
    (restartPresence s).spill = s.spill ∧ (restartPresence s).rain = s.rain ∧ (restartPresence s).drain = s.drain ∧
    (restartPresence s).counter = s.counter ∧ (restartPresence s).port = s.port ∧ (restartPresence s).free = s.free ∧
    (restartPresence s).pending = s.pending :=
  ⟨rfl, rfl, rfl, rfl, rfl, rfl, rfl, rfl, rfl, rfl, rfl, rfl⟩

@[simp] theorem drawDeferral_leaves (s : State) :
    (drawDeferral s).elapsed = s.elapsed ∧ (drawDeferral s).peers = s.peers ∧ (drawDeferral s).time = s.time ∧
    (drawDeferral s).input = s.input ∧ (drawDeferral s).tank = s.tank ∧ (drawDeferral s).spill = s.spill ∧
    (drawDeferral s).rain = s.rain ∧ (drawDeferral s).drain = s.drain ∧ (drawDeferral s).counter = s.counter ∧
    (drawDeferral s).port = s.port ∧ (drawDeferral s).pending = s.pending :=
  ⟨rfl, rfl, rfl, rfl, rfl, rfl, rfl, rfl, rfl, rfl, rfl⟩

@[simp] theorem startCutoffHold_leaves (s : State) :
    (startCutoffHold s).elapsed = s.elapsed ∧ (startCutoffHold s).peers = s.peers ∧
    (startCutoffHold s).time = s.time ∧ (startCutoffHold s).input = s.input ∧ (startCutoffHold s).tank = s.tank ∧
    (startCutoffHold s).spill = s.spill ∧ (startCutoffHold s).rain = s.rain ∧ (startCutoffHold s).drain = s.drain ∧
    (startCutoffHold s).counter = s.counter ∧ (startCutoffHold s).port = s.port ∧ (startCutoffHold s).free = s.free ∧
    (startCutoffHold s).pending = s.pending :=
  ⟨rfl, rfl, rfl, rfl, rfl, rfl, rfl, rfl, rfl, rfl, rfl, rfl⟩

@[simp] theorem setSlot_leaves (k : Kind) (v : Slot) (s : State) :
    (setSlot k v s).elapsed = s.elapsed ∧ (setSlot k v s).peers = s.peers ∧ (setSlot k v s).time = s.time ∧
    (setSlot k v s).input = s.input ∧ (setSlot k v s).tank = s.tank ∧ (setSlot k v s).spill = s.spill ∧
    (setSlot k v s).rain = s.rain ∧ (setSlot k v s).drain = s.drain ∧ (setSlot k v s).counter = s.counter ∧
    (setSlot k v s).port = s.port ∧ (setSlot k v s).free = s.free ∧ (setSlot k v s).pending = s.pending :=
  ⟨rfl, rfl, rfl, rfl, rfl, rfl, rfl, rfl, rfl, rfl, rfl, rfl⟩

@[simp] theorem setReceiver_leaves (r : Receiver) (s : State) :
    (setReceiver r s).elapsed = s.elapsed ∧ (setReceiver r s).peers = s.peers ∧ (setReceiver r s).time = s.time ∧
    (setReceiver r s).input = s.input ∧ (setReceiver r s).tank = s.tank ∧ (setReceiver r s).spill = s.spill ∧
    (setReceiver r s).rain = s.rain ∧ (setReceiver r s).drain = s.drain ∧ (setReceiver r s).counter = s.counter ∧
    (setReceiver r s).port = s.port ∧ (setReceiver r s).free = s.free ∧ (setReceiver r s).pending = s.pending :=
  ⟨rfl, rfl, rfl, rfl, rfl, rfl, rfl, rfl, rfl, rfl, rfl, rfl⟩

@[simp] theorem takeEcho_leaves (b : List Byte) (s : State) :
    (takeEcho b s).elapsed = s.elapsed ∧ (takeEcho b s).peers = s.peers ∧ (takeEcho b s).time = s.time ∧
    (takeEcho b s).input = s.input ∧ (takeEcho b s).tank = s.tank ∧ (takeEcho b s).spill = s.spill ∧
    (takeEcho b s).rain = s.rain ∧ (takeEcho b s).drain = s.drain ∧ (takeEcho b s).counter = s.counter ∧
    (takeEcho b s).port = s.port ∧ (takeEcho b s).free = s.free ∧ (takeEcho b s).pending = s.pending :=
  ⟨rfl, rfl, rfl, rfl, rfl, rfl, rfl, rfl, rfl, rfl, rfl, rfl⟩

@[simp] theorem setEntries_leaves (es : List PeerEntry) (s : State) :
    (setEntries es s).elapsed = s.elapsed ∧ (setEntries es s).trunk = s.trunk ∧ (setEntries es s).time = s.time ∧
    (setEntries es s).input = s.input ∧ (setEntries es s).tank = s.tank ∧ (setEntries es s).spill = s.spill ∧
    (setEntries es s).rain = s.rain ∧ (setEntries es s).drain = s.drain ∧ (setEntries es s).counter = s.counter ∧
    (setEntries es s).port = s.port ∧ (setEntries es s).free = s.free ∧ (setEntries es s).pending = s.pending :=
  ⟨rfl, rfl, rfl, rfl, rfl, rfl, rfl, rfl, rfl, rfl, rfl, rfl⟩

@[simp] theorem setInput_leaves (i : DigitalIn) (d : DigitalInput) (s : State) :
    (setInput i d s).elapsed = s.elapsed ∧ (setInput i d s).trunk = s.trunk ∧ (setInput i d s).peers = s.peers ∧
    (setInput i d s).time = s.time ∧ (setInput i d s).tank = s.tank ∧ (setInput i d s).spill = s.spill ∧
    (setInput i d s).rain = s.rain ∧ (setInput i d s).drain = s.drain ∧ (setInput i d s).counter = s.counter ∧
    (setInput i d s).port = s.port ∧ (setInput i d s).free = s.free ∧ (setInput i d s).pending = s.pending :=
  ⟨rfl, rfl, rfl, rfl, rfl, rfl, rfl, rfl, rfl, rfl, rfl, rfl⟩

@[simp] theorem evaluateLamp_leaves (s : State) :
    (evaluateLamp s).elapsed = s.elapsed ∧ (evaluateLamp s).trunk = s.trunk ∧ (evaluateLamp s).peers = s.peers ∧
    (evaluateLamp s).time = s.time ∧ (evaluateLamp s).tank = s.tank ∧ (evaluateLamp s).spill = s.spill ∧
    (evaluateLamp s).rain = s.rain ∧ (evaluateLamp s).drain = s.drain ∧ (evaluateLamp s).counter = s.counter ∧
    (evaluateLamp s).port = s.port ∧ (evaluateLamp s).free = s.free ∧ (evaluateLamp s).pending = s.pending :=
  ⟨rfl, rfl, rfl, rfl, rfl, rfl, rfl, rfl, rfl, rfl, rfl, rfl⟩

@[simp] theorem evaluateConditions_leaves (s : State) :
    (evaluateConditions s).elapsed = s.elapsed ∧ (evaluateConditions s).trunk = s.trunk ∧
    (evaluateConditions s).peers = s.peers ∧ (evaluateConditions s).time = s.time ∧
    (evaluateConditions s).input = s.input ∧ (evaluateConditions s).tank = s.tank ∧
    (evaluateConditions s).spill = s.spill ∧ (evaluateConditions s).drain = s.drain ∧
    (evaluateConditions s).counter = s.counter ∧ (evaluateConditions s).port = s.port ∧
    (evaluateConditions s).free = s.free ∧ (evaluateConditions s).pending = s.pending :=
  ⟨rfl, rfl, rfl, rfl, rfl, rfl, rfl, rfl, rfl, rfl, rfl, rfl⟩

@[simp] theorem recomputeIntensities_leaves (s : State) :
    (recomputeIntensities s).elapsed = s.elapsed ∧ (recomputeIntensities s).trunk = s.trunk ∧
    (recomputeIntensities s).peers = s.peers ∧ (recomputeIntensities s).time = s.time ∧
    (recomputeIntensities s).input = s.input ∧ (recomputeIntensities s).tank = s.tank ∧
    (recomputeIntensities s).spill = s.spill ∧ (recomputeIntensities s).drain = s.drain ∧
    (recomputeIntensities s).counter = s.counter ∧ (recomputeIntensities s).port = s.port ∧
    (recomputeIntensities s).free = s.free ∧ (recomputeIntensities s).pending = s.pending :=
  ⟨rfl, rfl, rfl, rfl, rfl, rfl, rfl, rfl, rfl, rfl, rfl, rfl⟩

@[simp] theorem measureHead_leaves (b : Bool) (s : State) :
    (measureHead b s).elapsed = s.elapsed ∧ (measureHead b s).trunk = s.trunk ∧ (measureHead b s).peers = s.peers ∧
    (measureHead b s).time = s.time ∧ (measureHead b s).input = s.input ∧ (measureHead b s).tank = s.tank ∧
    (measureHead b s).rain = s.rain ∧ (measureHead b s).drain = s.drain ∧ (measureHead b s).counter = s.counter ∧
    (measureHead b s).port = s.port ∧ (measureHead b s).free = s.free ∧ (measureHead b s).pending = s.pending :=
  ⟨rfl, rfl, rfl, rfl, rfl, rfl, rfl, rfl, rfl, rfl, rfl, rfl⟩

@[simp] theorem integrateSample_leaves (d : Nat) (p : Bool) (s : State) :
    (integrateSample d p s).elapsed = s.elapsed ∧ (integrateSample d p s).trunk = s.trunk ∧
    (integrateSample d p s).peers = s.peers ∧ (integrateSample d p s).time = s.time ∧
    (integrateSample d p s).input = s.input ∧ (integrateSample d p s).tank = s.tank ∧
    (integrateSample d p s).rain = s.rain ∧ (integrateSample d p s).drain = s.drain ∧
    (integrateSample d p s).counter = s.counter ∧ (integrateSample d p s).port = s.port ∧
    (integrateSample d p s).free = s.free ∧ (integrateSample d p s).pending = s.pending :=
  ⟨rfl, rfl, rfl, rfl, rfl, rfl, rfl, rfl, rfl, rfl, rfl, rfl⟩

@[simp] theorem endLoopTest_leaves (r : LoopResult) (s : State) :
    (endLoopTest r s).elapsed = s.elapsed ∧ (endLoopTest r s).trunk = s.trunk ∧ (endLoopTest r s).peers = s.peers ∧
    (endLoopTest r s).time = s.time ∧ (endLoopTest r s).input = s.input ∧ (endLoopTest r s).tank = s.tank ∧
    (endLoopTest r s).spill = s.spill ∧ (endLoopTest r s).rain = s.rain ∧ (endLoopTest r s).drain = s.drain ∧
    (endLoopTest r s).counter = s.counter ∧ (endLoopTest r s).free = s.free ∧
    (endLoopTest r s).pending = s.pending :=
  ⟨rfl, rfl, rfl, rfl, rfl, rfl, rfl, rfl, rfl, rfl, rfl, rfl⟩

@[simp] theorem advanceTime_leaves (s : State) :
    (advanceTime s).trunk = s.trunk ∧ (advanceTime s).peers = s.peers ∧ (advanceTime s).input = s.input ∧
    (advanceTime s).tank = s.tank ∧ (advanceTime s).spill = s.spill ∧ (advanceTime s).rain = s.rain ∧
    (advanceTime s).drain = s.drain ∧ (advanceTime s).counter = s.counter ∧ (advanceTime s).port = s.port ∧
    (advanceTime s).free = s.free ∧ (advanceTime s).pending = s.pending :=
  ⟨rfl, rfl, rfl, rfl, rfl, rfl, rfl, rfl, rfl, rfl, rfl⟩

/-! ### The fields that an update sets -/

@[simp] theorem withEvents_sets (p : Port) (f m : BitVec 15) :
    (p.withEvents f m).flags = f ∧ (p.withEvents f m).mask = m ∧
    (p.withEvents f m).attention = attentionOf f m ∧ (p.withEvents f m).run = p.run ∧
    (p.withEvents f m).items = p.items ∧ (p.withEvents f m).loaded = p.loaded ∧
    (p.withEvents f m).committed = p.committed ∧ (p.withEvents f m).loopResult = p.loopResult ∧
    (p.withEvents f m).loopTest = p.loopTest ∧ (p.withEvents f m).lastRefusal = p.lastRefusal ∧
    (p.withEvents f m).heldResponse = p.heldResponse ∧ (p.withEvents f m).sent = p.sent :=
  ⟨rfl, rfl, rfl, rfl, rfl, rfl, rfl, rfl, rfl, rfl, rfl, rfl⟩

@[simp] theorem raise_port (f : EventFlag) (s : State) :
    (raise f s).port = s.port.withEvents (s.port.flags ||| BitVec.twoPow 15 f.bit) s.port.mask := rfl

@[simp] theorem raise_cfg (f : EventFlag) (s : State) : (raise f s).cfg = s.cfg ∧ (raise f s).inRun = s.inRun :=
  ⟨rfl, rfl⟩

@[simp] theorem setSetpoint_sets (n : Nat) (s : State) :
    (setSetpoint n s).drain.setpoint = n ∧ (setSetpoint n s).input.pumpRate = n * 1000 / s.cfg.pumpMax ∧
    (setSetpoint n s).input.pumpRun = s.input.pumpRun ∧ (setSetpoint n s).drain.pump = s.drain.pump ∧
    (setSetpoint n s).drain.share = s.drain.share ∧ (setSetpoint n s).input.gateDrive = s.input.gateDrive :=
  ⟨rfl, rfl, rfl, rfl, rfl, rfl⟩

@[simp] theorem commandGate_sets (d : GateDrive) (s : State) :
    (commandGate d s).input.gateDrive = d ∧ (commandGate d s).input.pumpRun = s.input.pumpRun :=
  ⟨rfl, rfl⟩

@[simp] theorem onEvent_sets (f : SpillEvent → SpillEvent) (s : State) :
    (onEvent f s).counter.event = s.counter.event.map f ∧ (onEvent f s).counter.log = s.counter.log ∧
    (onEvent f s).counter.current = s.counter.current ∧ (onEvent f s).counter.deferred = s.counter.deferred ∧
    (onEvent f s).counter.pendingRecords = s.counter.pendingRecords ∧
    (onEvent f s).counter.totals = s.counter.totals ∧ (onEvent f s).counter.spill = s.counter.spill :=
  ⟨rfl, rfl, rfl, rfl, rfl, rfl, rfl⟩

@[simp] theorem onCurrent_sets (f : Block → Block) (s : State) :
    (onCurrent f s).counter.current = s.counter.current.map f ∧ (onCurrent f s).counter.log = s.counter.log ∧
    (onCurrent f s).counter.event = s.counter.event ∧ (onCurrent f s).counter.deferred = s.counter.deferred ∧
    (onCurrent f s).counter.pendingRecords = s.counter.pendingRecords ∧
    (onCurrent f s).counter.totals = s.counter.totals ∧ (onCurrent f s).counter.spill = s.counter.spill :=
  ⟨rfl, rfl, rfl, rfl, rfl, rfl, rfl⟩

/-! ### The transmit slots -/

@[simp] theorem slots_get_set (x : Slots) (k : Kind) (v : Slot) : (x.set k v).get k = v := by
  cases k <;> rfl

theorem slots_get_set_other (x : Slots) {k j : Kind} (v : Slot) (h : j ≠ k) : (x.set k v).get j = x.get j := by
  cases k <;> cases j <;> first | rfl | exact absurd rfl h

/-! ### One value for each gauge channel or digital input -/

@[simp] theorem perGauge_get_set {α : Type} (p : PerGauge α) (g : Gauge) (a : α) : (p.set g a).get g = a := by
  cases g <;> rfl

theorem perGauge_get_set_other {α : Type} (p : PerGauge α) {g h : Gauge} (a : α) (n : h ≠ g) :
    (p.set g a).get h = p.get h := by
  cases g <;> cases h <;> first | rfl | exact absurd rfl n

@[simp] theorem perInput_get_set {α : Type} (p : PerInput α) (i : DigitalIn) (a : α) : (p.set i a).get i = a := by
  cases i <;> rfl

theorem perInput_get_set_other {α : Type} (p : PerInput α) {i j : DigitalIn} (a : α) (n : j ≠ i) :
    (p.set i a).get j = p.get j := by
  cases i <;> cases j <;> first | rfl | exact absurd rfl n

end Sys2Proof.Machine
end

