-- ==== Sys2Proof/Laws/Evolves.lean ====
section
/-! SUPPORT. What every operation of a block does to the event flags and to the spill log, said once: flags are only
gained, the attention line follows them, the log stays well formed, and no more than two records are pending. -/

namespace Sys2Proof.Machine

/-- What holds of the flags, the attention line and the log across any operation of a block. -/
structure Evolves (s t : State) : Prop where
  flags : ∀ i, s.port.flags.getLsbD i = true → t.port.flags.getLsbD i = true
  attention : AttentionOk s → AttentionOk t
  log : s.counter.log.ok → t.counter.log.ok
  pendingRecords : s.counter.pendingRecords.length ≤ 2 → t.counter.pendingRecords.length ≤ 2

theorem Evolves.refl (s : State) : Evolves s s := ⟨fun _ h => h, id, id, id⟩

theorem Evolves.trans {s t u : State} (h : Evolves s t) (k : Evolves t u) : Evolves s u :=
  ⟨fun i x => k.flags i (h.flags i x), fun x => k.attention (h.attention x), fun x => k.log (h.log x),
    fun x => k.pendingRecords (h.pendingRecords x)⟩

theorem Evolves.of_same {s t : State} (p : t.port = s.port) (l : t.counter.log = s.counter.log)
    (q : t.counter.pendingRecords = s.counter.pendingRecords) : Evolves s t := by
  refine ⟨?_, ?_, ?_, ?_⟩
  · rw [p]; exact fun _ h => h
  · unfold AttentionOk; rw [p]; exact id
  · rw [l]; exact id
  · rw [q]; exact id

theorem Evolves.of_tank {s t : State} (h : outsideTank t = outsideTank s) : Evolves s t := by
  obtain ⟨_, _, _, _, _, c, _, _, _, p⟩ := outsideTank_fields h
  exact .of_same p (by rw [c]) (by rw [c])

theorem raise_evolves (f : EventFlag) (s : State) : Evolves s (raise f s) := by
  refine ⟨?_, fun _ => rfl, id, id⟩
  intro i h
  rw [raise_port, (withEvents_sets _ _ _).1, BitVec.getLsbD_or, h, Bool.true_or]

/-- The same, the second operation first. -/
theorem Evolves.after {s t u : State} (k : Evolves t u) (h : Evolves s t) : Evolves s u := h.trans k

/-- An operation after an update that leaves the flags and the log. -/
theorem Evolves.start {s t u : State} (k : Evolves t u) (p : t.port = s.port) (l : t.counter.log = s.counter.log)
    (q : t.counter.pendingRecords = s.counter.pendingRecords) : Evolves s u :=
  (Evolves.of_same p l q).trans k

/-- A raise after an update that leaves the flags and the log. -/
theorem Evolves.raised {s t : State} (f : EventFlag) (p : t.port = s.port) (l : t.counter.log = s.counter.log)
    (q : t.counter.pendingRecords = s.counter.pendingRecords) : Evolves s (raise f t) :=
  (raise_evolves f t).start p l q

theorem inEitherOrder_evolves {f g : State → State} (hf : ∀ t, Evolves t (f t)) (hg : ∀ t, Evolves t (g t))
    (s : State) : Evolves s (inEitherOrder f g s) :=
  inEitherOrder_holds (fun t => Evolves s t) (fun _ h => (h.trans (hf _)).trans (hg _))
    (fun _ h => (h.trans (hg _)).trans (hf _)) (.of_same rfl rfl rfl)

/-! ### The Drain Controller and the gate -/

theorem pumpFaults_evolves (s : State) : Evolves s (pumpFaults s) :=
  Evolves.raised .pumpFault rfl rfl rfl

theorem onEvent_evolves (f : SpillEvent → SpillEvent) (s : State) : Evolves s (onEvent f s) := .of_same rfl rfl rfl

theorem gateFaults_evolves (s : State) : Evolves s (gateFaults s) := by
  unfold gateFaults counterTakesGateFault
  exact .after (onEvent_evolves _ _) (.raised _ rfl rfl rfl)

theorem gateTakesEdge_evolves (d : GateDir) (r : Bool) (s : State) : Evolves s (gateTakesEdge d r s) := by
  unfold gateTakesEdge
  split_ifs
  · exact .refl s
  · exact gateFaults_evolves s
  · exact .of_tank (gateArrives_tank ..)
  · exact .of_tank (gateArrives_tank ..)
  · exact .refl s
  · exact .of_tank (beginTravel_tank ..)
  · exact .refl s

theorem travelExpires_evolves (s : State) : Evolves s (travelExpires s) := by
  unfold travelExpires; split
  · exact .of_same rfl rfl rfl
  · exact gateFaults_evolves s

theorem gateClears_evolves (s : State) : Evolves s (gateClears s) := by
  unfold gateClears; split
  · exact gateFaults_evolves s
  · exact .of_tank (by rw [gateActsOnTarget_tank]; rfl)

theorem tankTakesEdge_evolves (d : GateDir) (r : Bool) (s : State) : Evolves s (tankTakesEdge d r s) :=
  (gateTakesEdge_evolves d r s).trans (.of_tank (tankEvaluate_tank ..))

theorem afterGate_evolves (s t : State) : Evolves t (afterGate s t) := .of_tank (afterGate_tank s t)

theorem pumpChanges_evolves (s t : State) : Evolves t (pumpChanges s t) := .of_tank (pumpChanges_tank s t)

theorem drainTakesEdge_evolves (r : Bool) (s : State) : Evolves s (drainTakesEdge r s) := by
  unfold drainTakesEdge
  split
  · exact .of_tank (by rw [pumpChanges_tank]; rfl)
  · exact (pumpFaults_evolves s).trans (pumpChanges_evolves ..)
  · exact .of_tank (by rw [pumpChanges_tank]; rfl)
  · exact (pumpFaults_evolves s).trans (pumpChanges_evolves ..)
  · exact pumpChanges_evolves ..
  · exact .refl s

theorem pumpTimeout_evolves (s : State) : Evolves s (pumpTimeout s) :=
  (pumpFaults_evolves s).trans (pumpChanges_evolves ..)

/-! ### The Spill Counter -/

theorem placeRecord_evolves (r : SpillRecord) (s : State) : Evolves s (placeRecord r s) := by
  unfold placeRecord; dsimp only
  split_ifs with h k
  · exact .after (raise_evolves _ _) ⟨fun _ h => h, id, fun l => writeRecord_ok r l, id⟩
  · refine .after (raise_evolves _ _) ⟨fun _ h => h, id, id, fun _ => ?_⟩
    simp only [List.length_append, List.length_cons, List.length_nil]; omega
  · exact .raised _ rfl rfl rfl

theorem placePending_evolves (rs : List SpillRecord) (s : State) (h : rs.length ≤ 2) :
    Evolves s (placePending rs s) := by
  induction rs generalizing s with
  | nil => exact .refl s
  | cons r rs ih =>
    simp only [List.length_cons] at h
    unfold placePending; split
    · have h1 : Evolves s { s with
          counter.log := s.counter.log.writeRecord r, counter.pendingRecords := rs } :=
        ⟨fun _ h => h, id, fun l => writeRecord_ok r l, fun _ => (by omega : rs.length ≤ 2)⟩
      exact (h1.trans (raise_evolves .recordReady _)).trans (ih _ (by omega))
    · exact .refl s

theorem closeEvent_evolves (n : Nat) (m : RecordFlags → RecordFlags) (s : State) : Evolves s (closeEvent n m s) := by
  unfold closeEvent; split
  · exact .refl s
  · exact Evolves.start (placeRecord_evolves _ _) rfl rfl rfl

theorem countBlock_evolves (b : Block) (s : State) : Evolves s (countBlock b s) := .of_same rfl rfl rfl

theorem openEvent_evolves (x : Stamped) (f : RecordFlags) (l p : Nat) (v : Bool) (s : State) :
    Evolves s (openEvent x f l p v s) := .of_same rfl rfl rfl

theorem splitEvent_evolves (x : Stamped) (p : Nat) (s : State) : Evolves s (splitEvent x p s) := by
  unfold splitEvent; dsimp only; split
  · exact .refl s
  · split_ifs
    · exact (Evolves.trans (onEvent_evolves _ _) (closeEvent_evolves _ _ _)).trans (openEvent_evolves ..)
    · exact closeEvent_evolves ..

theorem countCurrent_evolves (b : Block) (s : State) : Evolves s (countCurrent b s) := by
  unfold countCurrent; dsimp only; split
  · exact (countBlock_evolves b s).trans (splitEvent_evolves ..)
  · exact .of_same rfl rfl rfl

theorem blockEnd_evolves (b : Block) (s : State) : Evolves s (blockEnd b s) := by
  unfold blockEnd; split
  · split
    · exact countCurrent_evolves ..
    · split
      · exact .refl s
      · exact closeEvent_evolves ..
  · exact .of_same rfl rfl rfl
  · exact Evolves.start (countCurrent_evolves _ _) rfl rfl rfl

theorem blockNominalEnd_evolves (s : State) : Evolves s (blockNominalEnd s) := by
  unfold blockNominalEnd; split
  · exact .refl s
  · split
    · exact blockEnd_evolves ..
    · exact .refl s

theorem counterConfirms_evolves (s : State) : Evolves s (counterConfirms s) := by
  unfold counterConfirms; split
  · exact .of_same rfl rfl rfl
  · unfold confirmDeferred; dsimp only
    split
    · exact Evolves.start (Evolves.trans (splitEvent_evolves _ _ _) (.of_same rfl rfl rfl)) rfl rfl rfl
    · exact .of_same rfl rfl rfl
  · exact .of_same rfl rfl rfl
  · exact .of_same rfl rfl rfl

theorem counterLapses_evolves (s : State) : Evolves s (counterLapses s) := by
  unfold counterLapses; dsimp only; split
  · split_ifs
    · exact Evolves.start (splitEvent_evolves _ _ _) rfl rfl rfl
    · exact .of_same rfl rfl rfl
    · exact Evolves.start (closeEvent_evolves _ _ _) rfl rfl rfl
  · exact .of_same rfl rfl rfl

theorem counterTakesSpillState_evolves (s : State) : Evolves s (counterTakesSpillState s) := by
  unfold counterTakesSpillState; dsimp only; split
  · exact Evolves.start (counterConfirms_evolves _) rfl rfl rfl
  · exact Evolves.start (counterLapses_evolves _) rfl rfl rfl
  all_goals exact .of_same rfl rfl rfl

theorem counterTakesSample_evolves (n : SampleNotice) (s : State) : Evolves s (counterTakesSample n s) := by
  unfold counterTakesSample; split_ifs <;> exact .of_same rfl rfl rfl

theorem counterTakesStep_evolves (s : State) : Evolves s (counterTakesStep s) := by
  unfold counterTakesStep; split_ifs <;> exact .of_same rfl rfl rfl

theorem countAtRestart_evolves (b : Option Block) (s : State) : Evolves s (countAtRestart b s) := by
  unfold countAtRestart; split
  · exact .refl s
  · split
    · exact countBlock_evolves ..
    · exact .refl s

theorem creditAtRestart_evolves (s : State) : Evolves s (creditAtRestart s) := by
  unfold creditAtRestart; split <;> exact .of_same rfl rfl rfl

theorem closeAtRestart_evolves (s : State) : Evolves s (closeAtRestart s) := by
  unfold closeAtRestart; split
  · exact .refl s
  · exact .after (closeEvent_evolves _ _ _) (.after (countAtRestart_evolves _ _)
      (.after (countAtRestart_evolves _ _) (creditAtRestart_evolves s)))

theorem counterRestarts_evolves (s : State) : Evolves s (counterRestarts s) := by
  have e : ∀ t : State, Evolves t (restCounter t) := fun _ => .of_same rfl rfl rfl
  exact .after (e _) (closeAtRestart_evolves s)

/-- R177 c: a release, with what it places. -/
theorem releaseOldest_evolves (s : State) (h : s.counter.pendingRecords.length ≤ 2) :
    Evolves s (releaseOldest s) := by
  unfold releaseOldest; dsimp only
  refine .after (placePending_evolves _ _ h) ⟨fun _ h => h, id, ?_, id⟩
  intro l
  obtain ⟨h1, _, h3, h4, h5⟩ := freeSlots_ok (n := s.counter.log.oldestSlots) (k := s.counter.log.readPos) l
  exact ⟨h1, Nat.mod_lt _ (by decide), h3, h4, h5⟩

/-! ### The Rain Unit and the Spill Monitor -/

theorem tankEvaluate_evolves (a : Bool) (s : State) : Evolves s (tankEvaluate a s) := .of_tank (tankEvaluate_tank a s)

theorem drainTakesNotice_evolves (s : State) : Evolves s (drainTakesNotice s) := .of_tank (drainTakesNotice_tank s)

theorem drainTakesShareNotice_evolves (s : State) : Evolves s (drainTakesShareNotice s) :=
  .of_tank (drainTakesShareNotice_tank s)

theorem formBranchAlert_evolves (s : State) : Evolves s (formBranchAlert s) := by
  unfold formBranchAlert; dsimp only; split
  · exact .refl s
  · exact .after (inEitherOrder_evolves drainTakesShareNotice_evolves (fun t => .of_tank (tankTakesAlert_tank t)) _)
      ((Evolves.raised (s := s) (t := { s with rain.branch := highestAlert s }) .alertChange rfl rfl rfl).trans
        (.of_same rfl rfl rfl))

theorem queueRain_evolves (s : State) : Evolves s (queueRain s) :=
  Evolves.start (.of_tank (queueBody_tank _ _)) rfl rfl rfl

theorem updateHold_evolves (s : State) : Evolves s (updateHold s) := by
  unfold updateHold; split_ifs <;> exact .of_same rfl rfl rfl

theorem evaluateAlert_evolves (s : State) : Evolves s (evaluateAlert s) := by
  unfold evaluateAlert; dsimp only; split
  · exact Evolves.start ((queueRain_evolves _).trans (formBranchAlert_evolves _)) rfl rfl rfl
  · exact Evolves.start (updateHold_evolves _) rfl rfl rfl

theorem holdExpires_evolves (s : State) : Evolves s (holdExpires s) :=
  Evolves.start ((queueRain_evolves _).trans ((formBranchAlert_evolves _).trans (evaluateAlert_evolves _))) rfl rfl rfl

theorem acceptTip_evolves (x : Stamped) (s : State) : Evolves s (acceptTip x s) :=
  Evolves.start (evaluateAlert_evolves _) rfl rfl rfl

theorem rainTakesEdge_evolves (r : Bool) (x : Stamped) (s : State) : Evolves s (rainTakesEdge r x s) := by
  unfold rainTakesEdge; split_ifs
  · exact acceptTip_evolves ..
  · exact .of_same rfl rfl rfl
  · exact .refl s

theorem minuteEnds_evolves (s : State) : Evolves s (minuteEnds s) :=
  Evolves.start (evaluateAlert_evolves _) rfl rfl rfl

theorem evaluateLamp_evolves (s : State) : Evolves s (evaluateLamp s) := .of_same rfl rfl rfl

theorem notifySpill_evolves (s : State) : Evolves s (notifySpill s) :=
  .after (inEitherOrder_evolves drainTakesNotice_evolves evaluateAlert_evolves _)
    ((counterTakesSpillState_evolves s).trans (evaluateLamp_evolves _))

theorem spillEvaluates_evolves (c : Stamped) (s : State) : Evolves s (spillEvaluates c s) := by
  unfold spillEvaluates; split
  · exact Evolves.start (notifySpill_evolves _) rfl rfl rfl
  · exact Evolves.start (notifySpill_evolves _) rfl rfl rfl
  · exact Evolves.start (notifySpill_evolves _) rfl rfl rfl
  · exact Evolves.start (notifySpill_evolves _) rfl rfl rfl
  · exact .refl s

theorem confirmSpill_evolves (s : State) : Evolves s (confirmSpill s) :=
  .after (notifySpill_evolves _) (.raised _ rfl rfl rfl)

theorem endSpill_evolves (s : State) : Evolves s (endSpill s) :=
  .after (notifySpill_evolves _) (.raised _ rfl rfl rfl)

theorem spillTakesEdge_evolves (r : Bool) (e : Stamped) (s : State) : Evolves s (spillTakesEdge r e s) :=
  Evolves.start (spillEvaluates_evolves _ _) rfl rfl rfl

theorem takeSpillSample_evolves (a : SpillState) (d : Nat) (s : State) : Evolves s (takeSpillSample a d s) := by
  unfold takeSpillSample; dsimp only; split_ifs
  · exact .refl s
  · exact counterTakesSample_evolves ..
  · exact Evolves.start (counterTakesSample_evolves _ _) rfl rfl rfl
  · exact Evolves.start (counterTakesSample_evolves _ _) rfl rfl rfl

theorem spillTakesSample_evolves (d : Nat) (s : State) : Evolves s (spillTakesSample d s) :=
  .after (takeSpillSample_evolves _ _ _) (Evolves.start (spillEvaluates_evolves _ _) rfl rfl rfl)

/-! ### The Input Unit -/

theorem convertGauge_evolves (g : Gauge) (r : BitVec 12) (s : State) : Evolves s (convertGauge g r s) := by
  unfold convertGauge; dsimp only; split
  · exact Evolves.raised _ rfl rfl rfl
  · exact .of_same rfl rfl rfl

theorem takeSample_evolves (c : GaugeCounts) (s : State) : Evolves s (takeSample c s) := by
  refine Evolves.start (inEitherOrder_evolves ?_ ?_ _) rfl rfl rfl
  · exact fun t => ((convertGauge_evolves _ _ t).trans (convertGauge_evolves _ _ _)).trans
      (.of_tank (tankTakesSample_tank _ _))
  · exact fun t => (convertGauge_evolves _ _ t).trans (spillTakesSample_evolves _ _)

theorem handEdge_evolves (i : DigitalIn) (e : Candidate) (s : State) : Evolves s (handEdge i e s) := by
  unfold handEdge
  split
  · exact rainTakesEdge_evolves ..
  · exact tankTakesEdge_evolves ..
  · exact tankTakesEdge_evolves ..
  · exact spillTakesEdge_evolves ..
  · exact drainTakesEdge_evolves ..

theorem takeEdge_evolves (i : DigitalIn) (e : Candidate) (s : State) : Evolves s (takeEdge i e s) :=
  Evolves.start (handEdge_evolves _ _ _) rfl rfl rfl

/-! ### The Time Unit -/

theorem setClock_evolves (c : ClockState) (s : State) : Evolves s (setClock c s) := by
  unfold setClock; split
  · exact .refl s
  · exact Evolves.raised _ rfl rfl rfl

theorem markStepped_evolves (s : State) : Evolves s (markStepped s) := by
  unfold markStepped; split <;> exact .of_same rfl rfl rfl

theorem stepTime_evolves (t : Nat) (c : ClockState) (s : State) : Evolves s (stepTime t c s) :=
  .after (counterTakesStep_evolves _) (.after (.of_tank (claimTimerStep_tank _))
    (.after (setClock_evolves _ _) (Evolves.start (markStepped_evolves _) rfl rfl rfl)))

theorem handleSample_evolves (v : Int) (s : State) : Evolves s (handleSample v s) := by
  unfold handleSample; split
  · exact stepTime_evolves ..
  · unfold takeOutlier; split
    · exact Evolves.raised _ rfl rfl rfl
    · exact .of_same rfl rfl rfl
  · unfold useSample; dsimp only; split
    · exact Evolves.start (setClock_evolves _ _) rfl rfl rfl
    · exact .of_same rfl rfl rfl

theorem timeTakesSample_evolves (x : TimeSample) (s : State) : Evolves s (timeTakesSample x s) := by
  unfold timeTakesSample; dsimp only; split
  · exact .refl s
  · refine Evolves.trans (Evolves.trans ?_ (handleSample_evolves _ _)) (.of_same rfl rfl rfl)
    split <;> exact .of_same rfl rfl rfl

theorem slew_evolves (s : State) : Evolves s (slew s) := by
  unfold slew; split_ifs <;> exact .of_same rfl rfl rfl

theorem settleCheck_evolves (s : State) : Evolves s (settleCheck s) := by
  unfold settleCheck; split_ifs
  · exact Evolves.start (setClock_evolves _ _) rfl rfl rfl
  all_goals exact .of_same rfl rfl rfl

theorem makeAdjust_evolves (s : State) : Evolves s (makeAdjust s) :=
  .after (settleCheck_evolves _) (Evolves.start (slew_evolves _) rfl rfl rfl)

/-! ### The Peer Table -/

theorem takeEntry_evolves (r : Received) (h n : Nat) (s : State) : Evolves s (takeEntry r h n s) := by
  unfold takeEntry; dsimp only; split
  · exact .of_same rfl rfl rfl
  · split
    · exact .of_same rfl rfl rfl
    · split
      · exact .of_same rfl rfl rfl
      · exact raise_evolves ..

theorem applyLimit_evolves (l : LimitBody) (a : Addr) (x : Stamped) (s : State) : Evolves s (applyLimit l a x s) := by
  unfold applyLimit; dsimp only; split
  · exact Evolves.raised _ rfl rfl rfl
  · split
    · exact Evolves.raised _ rfl rfl rfl
    · exact .of_same rfl rfl rfl

theorem takeBody_evolves (b : Body) (u : Uses) (a : Addr) (n : Nat) (s : State) : Evolves s (takeBody b u a n s) := by
  unfold takeBody; dsimp only; split
  · split
    · exact Evolves.start (drainTakesShareNotice_evolves _) rfl rfl rfl
    · exact .refl s
  · split_ifs
    · exact Evolves.start (formBranchAlert_evolves _) rfl rfl rfl
    · exact .refl s
    · exact Evolves.start (formBranchAlert_evolves _) rfl rfl rfl
    · exact .refl s
  · split
    · exact (applyLimit_evolves _ _ _ _).trans (drainTakesShareNotice_evolves _)
    · exact .refl s
  · exact .refl s

theorem takeBulletin_evolves (r : Received) (n : Nat) (b : Bool) (s : State) : Evolves s (takeBulletin r n b s) := by
  unfold takeBulletin; split
  · exact .refl s
  · dsimp only; split
    · exact (takeEntry_evolves _ _ _ _).trans
        (inEitherOrder_evolves (takeBody_evolves _ _ _ _) (timeTakesSample_evolves _) _)
    · exact (takeEntry_evolves _ _ _ _).trans (takeBody_evolves _ _ _ _ _)

theorem claimGoesStale_evolves (a : Addr) (s : State) : Evolves s (claimGoesStale a s) :=
  Evolves.start (drainTakesShareNotice_evolves _) rfl rfl rfl

theorem claimGoes_evolves (a : Addr) (s : State) : Evolves s (claimGoes a s) :=
  Evolves.start (drainTakesShareNotice_evolves _) rfl rfl rfl

theorem rainGoes_evolves (a : Addr) (s : State) : Evolves s (rainGoes a s) :=
  Evolves.start (formBranchAlert_evolves _) rfl rfl rfl

theorem limitLapses_evolves (s : State) : Evolves s (limitLapses s) :=
  .after (drainTakesShareNotice_evolves _) (.raised _ rfl rfl rfl)

/-! ### The Trunk Interface -/

theorem transmitterTakesStanding_evolves (s : State) : Evolves s (transmitterTakesStanding s) := by
  unfold transmitterTakesStanding; split_ifs
  · exact .refl _
  · exact .of_same rfl rfl rfl
  · exact .of_tank (outsideTank_of (wakeTransmitter_outside _))

theorem setStanding_evolves (x : Standing) (s : State) : Evolves s (setStanding x s) := by
  unfold setStanding; split
  · exact .refl s
  · exact .after (drainTakesShareNotice_evolves _) (.after (transmitterTakesStanding_evolves _)
      (.raised _ rfl rfl rfl))

theorem standFromScores_evolves (s : State) : Evolves s (standFromScores s) := by
  unfold standFromScores; dsimp only
  refine Evolves.trans ?_ (setStanding_evolves _ _)
  split <;> exact .of_same rfl rfl rfl

theorem recomputeStanding_evolves (s : State) : Evolves s (recomputeStanding s) := by
  unfold recomputeStanding; split
  · exact .refl s
  · exact standFromScores_evolves s

theorem raiseTxScore_evolves (n : Nat) (s : State) : Evolves s (raiseTxScore n s) :=
  Evolves.start (recomputeStanding_evolves _) rfl rfl rfl

theorem lowerTxScore_evolves (s : State) : Evolves s (lowerTxScore s) :=
  Evolves.start (recomputeStanding_evolves _) rfl rfl rfl

theorem raiseRxScore_evolves (n : Nat) (s : State) : Evolves s (raiseRxScore n s) :=
  Evolves.start (recomputeStanding_evolves _) rfl rfl rfl

theorem lowerRxScore_evolves (s : State) : Evolves s (lowerRxScore s) :=
  Evolves.start (recomputeStanding_evolves _) rfl rfl rfl

theorem holdElapses_evolves (s : State) : Evolves s (holdElapses s) :=
  Evolves.start (standFromScores_evolves _) rfl rfl rfl

theorem silenceRequest_evolves (s : State) : Evolves s (silenceRequest s).2 := by
  unfold silenceRequest; split
  · exact .refl s
  · exact .refl s
  · exact Evolves.start (setStanding_evolves _ _) rfl rfl rfl

theorem rejoinRequest_evolves (s : State) : Evolves s (rejoinRequest s).2 := by
  unfold rejoinRequest; split
  · exact standFromScores_evolves s
  · exact holdElapses_evolves s
  · exact .refl s
  · exact .refl s

theorem transmitterRests_evolves (s : State) : Evolves s (transmitterRests s) := by
  unfold transmitterRests; split
  · exact .of_tank (outsideTank_of (enterWaitLine_outside s))
  · exact .of_same rfl rfl rfl

theorem beginAttempt_evolves (s : State) : Evolves s (beginAttempt s) := by
  unfold beginAttempt; split <;> exact .of_same rfl rfl rfl

theorem enterBackoff_evolves (n : Nat) (s : State) : Evolves s (enterBackoff n s) := by
  unfold enterBackoff; split <;> exact .of_same rfl rfl rfl

theorem setSlot_evolves (k : Kind) (v : Slot) (s : State) : Evolves s (setSlot k v s) := .of_same rfl rfl rfl

theorem failAttempt_evolves (k : Kind) (n : Nat) (s : State) : Evolves s (failAttempt k n s) := by
  have e : ∀ t : State, Evolves t { t with trunk.attempt := none } := fun _ => .of_same rfl rfl rfl
  have h : Evolves s (if n = 0 then s else raiseTxScore n s) := by
    split
    · exact .refl s
    · exact raiseTxScore_evolves n s
  unfold failAttempt; dsimp only
  split
  · exact .after (enterBackoff_evolves _ _) (.after (setSlot_evolves _ _ _) (.after (e _) h))
  · exact .after (enterBackoff_evolves _ _) (.after (setSlot_evolves _ _ _)
      (.after (raiseTxScore_evolves _ _) (.after (e _) h)))

theorem applyOwnLimit_evolves (a : Attempt) (s : State) : Evolves s (applyOwnLimit a s) := by
  unfold applyOwnLimit; split
  · exact (applyLimit_evolves _ _ _ _).trans (drainTakesShareNotice_evolves _)
  · exact .refl s

theorem cleanSend_evolves (a : Attempt) (s : State) : Evolves s (cleanSend a s) := by
  unfold cleanSend; dsimp only
  refine ((lowerTxScore_evolves s).trans ?_).trans (transmitterRests_evolves _)
  exact Evolves.start ((applyOwnLimit_evolves a _).trans (.of_same rfl rfl rfl)) rfl rfl rfl

theorem endDisregarded_evolves (s : State) : Evolves s (endDisregarded s) := by
  unfold endDisregarded; dsimp only; split
  · exact Evolves.start (transmitterRests_evolves _) rfl rfl rfl
  · exact .of_same rfl rfl rfl

theorem attemptEnds_evolves (a : Attempt) (s : State) : Evolves s (attemptEnds a s) := by
  unfold attemptEnds; split_ifs
  · exact endDisregarded_evolves s
  · exact cleanSend_evolves a s
  · exact failAttempt_evolves ..

theorem attemptCollides_evolves (a : Attempt) (n : Nat) (s : State) : Evolves s (attemptCollides a n s) := by
  unfold attemptCollides; split
  · exact endDisregarded_evolves s
  · exact failAttempt_evolves ..

theorem badBulletin_evolves (s : State) : Evolves s (badBulletin s) := by
  unfold badBulletin; dsimp only; split
  · exact (raiseRxScore_evolves 2 s).trans (.of_same rfl rfl rfl)
  · exact raiseRxScore_evolves 2 s

theorem addressClash_evolves (s : State) : Evolves s (addressClash s) := by
  unfold addressClash; dsimp only; split
  · exact raise_evolves ..
  · exact .after (setStanding_evolves _ _) ((raise_evolves .addressClash s).trans (.of_same rfl rfl rfl))

theorem goodBulletin_evolves (g : Gathering) (s : State) : Evolves s (goodBulletin g s) := by
  unfold goodBulletin; dsimp only; split
  · exact (lowerRxScore_evolves s).trans (addressClash_evolves _)
  · exact (lowerRxScore_evolves s).trans (takeBulletin_evolves _ _ _ _)

theorem gatherByte_evolves (g : Gathering) (s : State) : Evolves s (gatherByte g s) := by
  have r : ∀ x, Evolves s (setReceiver x s) := fun _ => .of_same rfl rfl rfl
  unfold gatherByte; dsimp only; split
  · split
    · exact r _
    · exact (r _).trans (badBulletin_evolves _)
  · split
    · split
      · exact .of_same rfl rfl rfl
      · exact r _
      · exact (r _).trans (goodBulletin_evolves _ _)
      · exact (r _).trans (badBulletin_evolves _)
    · exact r _

theorem lineActivity_evolves (s : State) : Evolves s (lineActivity s) := by
  unfold lineActivity; dsimp only; split <;> exact .of_same rfl rfl rfl

theorem receiveByte_evolves (b : Byte) (s : State) : Evolves s (receiveByte b s) := by
  unfold receiveByte; dsimp only; split
  · exact (lineActivity_evolves s).trans (gatherByte_evolves _ _)
  · exact (lineActivity_evolves s).trans (gatherByte_evolves _ _)
  · exact lineActivity_evolves s

theorem receiverCollides_evolves (s : State) : Evolves s (receiverCollides s) := by
  unfold receiverCollides; split <;> exact .of_same rfl rfl rfl

theorem takeCollision_evolves (n : Nat) (s : State) : Evolves s (takeCollision n s) := by
  have h : Evolves s (if s.inRun then receiverCollides (lineActivity s) else s) := by
    split
    · exact (lineActivity_evolves s).trans (receiverCollides_evolves _)
    · exact .refl s
  unfold takeCollision; dsimp only; split
  · exact h
  · exact h.trans (attemptCollides_evolves _ _ _)

theorem takeLineFree_evolves (s : State) : Evolves s (takeLineFree s) := by
  have h : Evolves s (receiverTakesFree { s with trunk.lineFree := true }) := by
    unfold receiverTakesFree; split
    · exact .of_same rfl rfl rfl
    · split
      · exact .of_same rfl rfl rfl
      · exact Evolves.start (badBulletin_evolves _) rfl rfl rfl
    · exact .of_same rfl rfl rfl
  unfold takeLineFree; dsimp only; split
  · exact h.trans (.of_same rfl rfl rfl)
  · exact h

end Sys2Proof.Machine
end

