-- ==== Sys2Proof/WellFormed.lean ====
section
/-! DEFINITION. Which commands are well formed: the operands a sender can give. The meanings do not rest on it. -/

namespace Sys2Proof

/-- A station number is 1..254 (1.3.4). -/
def Addr.valid (a : Addr) : Bool :=
  decide (1 ≤ (a.setWidth 8).toNat ∧ (a.setWidth 8).toNat ≤ 254)

/-- The checks: a transaction clocks one byte out for each byte gathered, and any number when none is gathered
(R184, R186); a request's arguments are at most 255 bytes (R183); a bulletin has at most 23 bytes (2.2); a peer's
address has a valid station number (R16 d). -/
def Instr.wf : Instr → Bool
  | .fullReset => true
  | .transaction gathered clocked _ => gathered.isEmpty || decide (clocked = gathered.length)
  | .loadItem _ _ value => decide (value.length ≤ 253)
  | .commit _ => true
  | .readStatus => true
  | .readPeer _ => true
  | .readLogSlot _ => true
  | .releaseRecord _ => true
  | .readOpenEvent => true
  | .readPending => true
  | .readTotals => true
  | .readRain => true
  | .readCapture _ => true
  | .readEvents => true
  | .setEventMask _ => true
  | .setTime _ => true
  | .gateMode _ => true
  | .drainMode _ => true
  | .sendLimit _ _ => true
  | .silence => true
  | .rejoin => true
  | .clearFaultGate => true
  | .clearFaultPump => true
  | .restart => true
  | .loopTest => true
  | .loopTestGathered gathered => decide (gathered.length ≤ 23)
  | .loopTestTimeout => true
  | .lineFree => true
  | .deferralExpiry => true
  | .collision atByte => decide (atByte < 23)
  | .lastByteDriven => true
  | .backoffExpiry => true
  | .byteReceived _ => true
  | .presenceIntervalExpiry => true
  | .cutoffHoldExpiry => true
  | .claimPartStale peer => peer.valid
  | .claimPartRemoved peer => peer.valid
  | .rainLifetimeExpiry peer => peer.valid
  | .forgetTimeExpiry peer => peer.valid
  | .limitValidityExpiry => true
  | .anchorPreferenceLapse => true
  | .trunkTimeTick => true
  | .adjust => true
  | .sample _ => true
  | .rawTransition _ _ => true
  | .filterExpiry _ => true
  | .releaseTimerExpiry => true
  | .gateTravelExpiry => true
  | .retryWaitExpiry => true
  | .reversalPauseExpiry => true
  | .startDebounceExpiry => true
  | .stopDebounceExpiry => true
  | .minuteEnd => true
  | .alertHoldExpiry => true
  | .rainRepeatExpiry => true
  | .claimTimerExpiry => true
  | .startTimeoutExpiry => true
  | .stopTimeoutExpiry => true
  | .restTimerExpiry => true
  | .blockNominalEnd => true

end Sys2Proof
end

