-- ==== Sys2Proof/Laws/PerInstr.lean ====
section
/-! SUPPORT. The family Wf: a well-formed command that is a request fits in one request frame (R183): its code is one of
11.2 and its arguments are at most 255 bytes. One lemma for each command. -/

namespace Sys2Proof.Laws.Wf

open Sys2Proof Sys2Proof.Machine

/-- A well-formed request has a code of 1 to 22 and arguments that fit in one frame. -/
def Statement (i : Instr) : Prop :=
  i.wf = true → ∀ (code : Nat) (args : List Byte), requestOf i = some (code, args) →
    1 ≤ code ∧ code ≤ 22 ∧ args.length ≤ 255

/-- A command that is no request has nothing to fit. -/
theorem of_none {i : Instr} (h : requestOf i = none) : Statement i := by
  intro _ c a e; rw [h] at e; cases e

/-- A request of a known code and few arguments fits. -/
theorem of_some {i : Instr} {c : Nat} {a : List Byte} (h : requestOf i = some (c, a)) (l : 1 ≤ c) (u : c ≤ 22)
    (n : a.length ≤ 255) : Statement i := by
  intro _ c' a' e; rw [h] at e; cases e; exact ⟨l, u, n⟩

theorem fullReset : Statement .fullReset := of_none rfl
theorem transaction (gathered : List Byte) (clocked : Nat) (counts : GaugeCounts)
    : Statement (.transaction gathered clocked counts) := of_none rfl
theorem loadItem (item place : Byte) (value : List Byte) : Statement (.loadItem item place value) := by
  intro w c a e; cases e
  have := of_decide_eq_true w
  exact ⟨by decide, by decide, by simp only [List.length_cons]; omega⟩
theorem commit (counts : GaugeCounts) : Statement (.commit counts) :=
  of_some rfl (by decide) (by decide) (by simp)
theorem readStatus : Statement .readStatus :=
  of_some rfl (by decide) (by decide) (by simp)
theorem readPeer (index : Byte) : Statement (.readPeer index) :=
  of_some rfl (by decide) (by decide) (by simp)
theorem readLogSlot (slot : Byte) : Statement (.readLogSlot slot) :=
  of_some rfl (by decide) (by decide) (by simp)
theorem releaseRecord (number : BitVec 32) : Statement (.releaseRecord number) :=
  of_some rfl (by decide) (by decide) (by simp [bytesOf_length])
theorem readOpenEvent : Statement .readOpenEvent :=
  of_some rfl (by decide) (by decide) (by simp)
theorem readPending : Statement .readPending :=
  of_some rfl (by decide) (by decide) (by simp)
theorem readTotals : Statement .readTotals :=
  of_some rfl (by decide) (by decide) (by simp)
theorem readRain : Statement .readRain :=
  of_some rfl (by decide) (by decide) (by simp)
theorem readCapture (input : Byte) : Statement (.readCapture input) :=
  of_some rfl (by decide) (by decide) (by simp)
theorem readEvents : Statement .readEvents :=
  of_some rfl (by decide) (by decide) (by simp)
theorem setEventMask (mask : BitVec 16) : Statement (.setEventMask mask) :=
  of_some rfl (by decide) (by decide) (by simp [bytesOf_length])
theorem setTime (ms : BitVec 64) : Statement (.setTime ms) :=
  of_some rfl (by decide) (by decide) (by simp [bytesOf_length])
theorem gateMode (mode : Byte) : Statement (.gateMode mode) :=
  of_some rfl (by decide) (by decide) (by simp)
theorem drainMode (mode : Byte) : Statement (.drainMode mode) :=
  of_some rfl (by decide) (by decide) (by simp)
theorem sendLimit (capacity validity : BitVec 16) : Statement (.sendLimit capacity validity) :=
  of_some rfl (by decide) (by decide) (by simp [bytesOf_length])
theorem silence : Statement .silence :=
  of_some rfl (by decide) (by decide) (by simp)
theorem rejoin : Statement .rejoin :=
  of_some rfl (by decide) (by decide) (by simp)
theorem clearFaultGate : Statement .clearFaultGate :=
  of_some rfl (by decide) (by decide) (by simp)
theorem clearFaultPump : Statement .clearFaultPump :=
  of_some rfl (by decide) (by decide) (by simp)
theorem restart : Statement .restart :=
  of_some rfl (by decide) (by decide) (by simp)
theorem loopTest : Statement .loopTest :=
  of_some rfl (by decide) (by decide) (by simp)
theorem loopTestGathered (gathered : List Byte) : Statement (.loopTestGathered gathered) := of_none rfl
theorem loopTestTimeout : Statement .loopTestTimeout := of_none rfl
theorem lineFree : Statement .lineFree := of_none rfl
theorem deferralExpiry : Statement .deferralExpiry := of_none rfl
theorem collision (atByte : Nat) : Statement (.collision atByte) := of_none rfl
theorem lastByteDriven : Statement .lastByteDriven := of_none rfl
theorem backoffExpiry : Statement .backoffExpiry := of_none rfl
theorem byteReceived (b : Byte) : Statement (.byteReceived b) := of_none rfl
theorem presenceIntervalExpiry : Statement .presenceIntervalExpiry := of_none rfl
theorem cutoffHoldExpiry : Statement .cutoffHoldExpiry := of_none rfl
theorem claimPartStale (peer : Addr) : Statement (.claimPartStale peer) := of_none rfl
theorem claimPartRemoved (peer : Addr) : Statement (.claimPartRemoved peer) := of_none rfl
theorem rainLifetimeExpiry (peer : Addr) : Statement (.rainLifetimeExpiry peer) := of_none rfl
theorem forgetTimeExpiry (peer : Addr) : Statement (.forgetTimeExpiry peer) := of_none rfl
theorem limitValidityExpiry : Statement .limitValidityExpiry := of_none rfl
theorem anchorPreferenceLapse : Statement .anchorPreferenceLapse := of_none rfl
theorem trunkTimeTick : Statement .trunkTimeTick := of_none rfl
theorem adjust : Statement .adjust := of_none rfl
theorem sample (counts : GaugeCounts) : Statement (.sample counts) := of_none rfl
theorem rawTransition (input : DigitalIn) (asserted : Bool) : Statement (.rawTransition input asserted) := of_none rfl
theorem filterExpiry (input : DigitalIn) : Statement (.filterExpiry input) := of_none rfl
theorem releaseTimerExpiry : Statement .releaseTimerExpiry := of_none rfl
theorem gateTravelExpiry : Statement .gateTravelExpiry := of_none rfl
theorem retryWaitExpiry : Statement .retryWaitExpiry := of_none rfl
theorem reversalPauseExpiry : Statement .reversalPauseExpiry := of_none rfl
theorem startDebounceExpiry : Statement .startDebounceExpiry := of_none rfl
theorem stopDebounceExpiry : Statement .stopDebounceExpiry := of_none rfl
theorem minuteEnd : Statement .minuteEnd := of_none rfl
theorem alertHoldExpiry : Statement .alertHoldExpiry := of_none rfl
theorem rainRepeatExpiry : Statement .rainRepeatExpiry := of_none rfl
theorem claimTimerExpiry : Statement .claimTimerExpiry := of_none rfl
theorem startTimeoutExpiry : Statement .startTimeoutExpiry := of_none rfl
theorem stopTimeoutExpiry : Statement .stopTimeoutExpiry := of_none rfl
theorem restTimerExpiry : Statement .restTimerExpiry := of_none rfl
theorem blockNominalEnd : Statement .blockNominalEnd := of_none rfl

end Sys2Proof.Laws.Wf
end

