-- ==== Sys2Proof/Laws/RunStates.lean ====
section
/-! SUPPORT. Entry to RUN, restart and the requests: what they do to the flags, the log, the queue and the elapsed time,
and which parts of the Site Port they leave. -/

namespace Sys2Proof.Machine

/-! ### Entry to RUN -/

theorem trunkEnters_evolves (s : State) : Evolves s (trunkEnters s) :=
  Evolves.start (.of_tank (queueBody_tank _ _)) rfl rfl rfl

theorem timeEnters_evolves (s : State) : Evolves s (timeEnters s) := by
  unfold timeEnters; dsimp only; split_ifs
  · exact Evolves.start (setClock_evolves _ _) rfl rfl rfl
  · exact .of_same rfl rfl rfl
  · exact Evolves.start (setClock_evolves _ _) rfl rfl rfl
  · exact .of_same rfl rfl rfl

theorem inputEnters_evolves (c : GaugeCounts) (s : State) : Evolves s (inputEnters c s) := by
  unfold inputEnters
  exact .after (convertGauge_evolves _ _ _) (.after (convertGauge_evolves _ _ _)
    (.after (convertGauge_evolves _ _ _) (.of_same rfl rfl rfl)))

theorem pumpEnters_evolves (s : State) : Evolves s (pumpEnters s) := by
  unfold pumpEnters; dsimp only; split <;> exact .of_same rfl rfl rfl

theorem gateEnters_evolves (s : State) : Evolves s (gateEnters s) := by
  unfold gateEnters; split
  · exact gateFaults_evolves s
  · exact .of_same rfl rfl rfl

theorem volumeEnters_evolves (s : State) : Evolves s (volumeEnters s) := by
  unfold volumeEnters measureVolume; split_ifs <;> exact .of_same rfl rfl rfl

theorem stateEnters_evolves (s : State) : Evolves s (stateEnters s) :=
  Evolves.start (.of_tank (retarget_tank _)) rfl rfl rfl

theorem spillEnters_evolves (s : State) : Evolves s (spillEnters s) :=
  .after (takeSpillSample_evolves _ _ _) (Evolves.start (spillEvaluates_evolves _ _) rfl rfl rfl)

theorem rainEnters_evolves (s : State) : Evolves s (rainEnters s) :=
  .after (formBranchAlert_evolves _) (evaluateAlert_evolves s)

theorem claimEnters_evolves (s : State) : Evolves s (claimEnters s) :=
  .of_tank (by unfold claimEnters; simp)

theorem blocksEnter_evolves (c : GaugeCounts) (s : State) : Evolves s (blocksEnter c s) := by
  unfold blocksEnter tankEntersRun
  have p : Evolves s { s with peers := .reset } := .of_same rfl rfl rfl
  have r : ∀ t, Evolves t (rainStarts t) := fun _ => .of_same rfl rfl rfl
  exact .after (evaluateLamp_evolves _) (.after (.of_tank (tankTakesDrainNotice_tank _))
    (.after (claimEnters_evolves _) (.after (rainEnters_evolves _) (.after (spillEnters_evolves _)
      (.after (r _) (.after (stateEnters_evolves _) (.after (volumeEnters_evolves _) (.after (gateEnters_evolves _)
        (.after (pumpEnters_evolves _) (.after (inputEnters_evolves c _) (.after (timeEnters_evolves _)
          (.after (trunkEnters_evolves _) p))))))))))))

/-- What a COMMIT carried out leaves of the Site Port beside what R190 sets: everything but the flags and attention. -/
theorem blocksEnter_blocks (c : GaugeCounts) (s : State) : outsideBlocks (blocksEnter c s) = outsideBlocks s := by
  have lamp : ∀ t, outsideBlocks (evaluateLamp t) = outsideBlocks t := fun _ => rfl
  have claim : ∀ t, outsideBlocks (claimEnters t) = outsideBlocks t := fun t => by
    unfold claimEnters; simp
  have rain : ∀ t, outsideBlocks (rainEnters t) = outsideBlocks t := fun t => by unfold rainEnters; simp
  have spill : ∀ t, outsideBlocks (spillEnters t) = outsideBlocks t := fun t => by
    unfold spillEnters; dsimp only; rw [takeSpillSample_blocks, spillEvaluates_blocks, measureHead_blocks]; rfl
  have starts : ∀ t, outsideBlocks (rainStarts t) = outsideBlocks t := fun _ => rfl
  have state : ∀ t, outsideBlocks (stateEnters t) = outsideBlocks t := fun t => by
    unfold stateEnters; dsimp only
    exact (outsideBlocks_of (retarget_control _)).trans rfl
  have volume : ∀ t, outsideBlocks (volumeEnters t) = outsideBlocks t := fun t => by
    unfold volumeEnters measureVolume; split_ifs <;> rfl
  have gate : ∀ t, outsideBlocks (gateEnters t) = outsideBlocks t := fun t => by
    unfold gateEnters; split <;> rfl
  have pump : ∀ t, outsideBlocks (pumpEnters t) = outsideBlocks t := fun t => by
    unfold pumpEnters; dsimp only; split <;> rfl
  have input : ∀ t, outsideBlocks (inputEnters c t) = outsideBlocks t := fun t => by
    unfold inputEnters; simp only [convertGauge_blocks]; rfl
  have time : ∀ t, outsideBlocks (timeEnters t) = outsideBlocks t := fun t => by
    unfold timeEnters; dsimp only; split_ifs <;> (try rw [setClock_blocks]) <;> rfl
  have trunk : ∀ t, outsideBlocks (trunkEnters t) = outsideBlocks t := fun t => by
    unfold trunkEnters; rw [queueBody_blocks]; rfl
  unfold blocksEnter tankEntersRun
  rw [lamp, tankTakesDrainNotice_blocks, claim, rain, spill, starts, state, volume, gate, pump, input, time, trunk]
  rfl

/-! ### Restart -/

theorem portRestarts_evolves (s : State) : Evolves s (portRestarts s) :=
  ⟨fun _ h => h, fun _ => rfl, id, id⟩

theorem restartPart_evolves (s : State) : Evolves s (restartPart s) := by
  have trunk : ∀ t, Evolves t (trunkRestarts t) := fun t => by
    unfold trunkRestarts; dsimp only; split
    · exact .of_same rfl rfl rfl
    · exact .raised _ rfl rfl rfl
  have time : ∀ t, Evolves t (timeRestarts t) := fun t => by
    unfold timeRestarts; dsimp only; split
    · exact Evolves.start (setClock_evolves _ _) rfl rfl rfl
    · exact .of_same rfl rfl rfl
  have rain : ∀ t, Evolves t (rainRestarts t) := fun t => by
    unfold rainRestarts; dsimp only; split
    · exact .of_same rfl rfl rfl
    · exact .raised _ rfl rfl rfl
  have input : ∀ t, Evolves t (inputRestarts t) := fun _ => .of_same rfl rfl rfl
  have tank : ∀ t, Evolves t (tankRestarts t) := fun _ => .of_same rfl rfl rfl
  have spill : ∀ t, Evolves t (spillRestarts t) := fun _ => .of_same rfl rfl rfl
  have drain : ∀ t, Evolves t (drainRestarts t) := fun _ => .of_same rfl rfl rfl
  have peers : ∀ t : State, Evolves t { t with peers := .reset } := fun _ => .of_same rfl rfl rfl
  unfold restartPart
  exact .after (portRestarts_evolves _) (.after (drain _) (.after (rain _) (.after (spill _) (.after (tank _)
    (.after (input _) (.after (time _) (.after (peers _) (.after (trunk _) (counterRestarts_evolves s)))))))))

/-- A restart touches neither the queue nor the elapsed time, and of the Site Port only what R191 names. -/
theorem restartPart_keeps (s : State) :
    (restartPart s).pending = s.pending ∧ (restartPart s).elapsed = s.elapsed ∧
    (restartPart s).port.items = s.port.items ∧ (restartPart s).port.loaded = s.port.loaded ∧
    (restartPart s).port.committed = s.port.committed ∧ (restartPart s).port.mask = s.port.mask ∧
    (restartPart s).port.lastRefusal = s.port.lastRefusal ∧ (restartPart s).port.run = .config ∧
    (restartPart s).port.loopTest = none ∧ (restartPart s).port.sent = s.port.sent ∧
    (restartPart s).port.heldResponse = s.port.heldResponse ∧
    (restartPart s).port.loopResult = (if s.port.loopResult = .inFlight then .none else s.port.loopResult) := by
  have counter := outsideBlocks_of (counterRestarts_control s)
  have trunk : ∀ t, outsideBlocks (trunkRestarts t) = outsideBlocks t := fun t => by
    unfold trunkRestarts; dsimp only; split <;> rfl
  have time : ∀ t, outsideBlocks (timeRestarts t) = outsideBlocks t := fun t => by
    unfold timeRestarts; dsimp only; split <;> (try rw [setClock_blocks]) <;> rfl
  have rain : ∀ t, outsideBlocks (rainRestarts t) = outsideBlocks t := fun t => by
    unfold rainRestarts; dsimp only; split <;> rfl
  have input : ∀ t, outsideBlocks (inputRestarts t) = outsideBlocks t := fun _ => rfl
  have tank : ∀ t, outsideBlocks (tankRestarts t) = outsideBlocks t := fun _ => rfl
  have spill : ∀ t, outsideBlocks (spillRestarts t) = outsideBlocks t := fun _ => rfl
  have drain : ∀ t, outsideBlocks (drainRestarts t) = outsideBlocks t := fun _ => rfl
  have peers : ∀ t : State, outsideBlocks { t with peers := .reset } = outsideBlocks t := fun _ => rfl
  have before : ∃ u, restartPart s = portRestarts u ∧ outsideBlocks u = outsideBlocks s :=
    ⟨_, rfl, by rw [drain, rain, spill, tank, input, time, peers, trunk, counter]⟩
  obtain ⟨u, h, b⟩ := before
  obtain ⟨e, q, p⟩ := outsideBlocks_fields b
  rw [h]
  unfold portRestarts
  dsimp only [withEvents_sets]
  simp only [Port.withEvents]
  rw [p]
  simp only [q, e, and_self]

end Sys2Proof.Machine
end

