-- ==== Sys2Proof/Laws/Requests.lean ====
section
/-! SUPPORT. What every request keeps (`Kept`): the rule of the attention line, the form of the spill log, the bound on the
pending records, and the queue. READ_EVENTS clears flags, so a request is no step of `Evolves`. -/

namespace Sys2Proof.Machine

/-- What a request keeps: the attention line by R197, the log in its canonical form, at most two pending records, and the
queue. -/
structure Kept (s t : State) : Prop where
  attention : AttentionOk s → AttentionOk t
  log : s.counter.pendingRecords.length ≤ 2 → s.counter.log.ok → t.counter.log.ok
  pendingRecords : s.counter.pendingRecords.length ≤ 2 → t.counter.pendingRecords.length ≤ 2
  queue : t.pending = s.pending

theorem Kept.refl (s : State) : Kept s s := ⟨id, fun _ => id, id, rfl⟩

theorem Kept.of_blocks {s t : State} (h : Evolves s t) (b : outsideBlocks t = outsideBlocks s) : Kept s t :=
  ⟨h.attention, fun _ => h.log, h.pendingRecords, (outsideBlocks_fields b).2.1⟩

theorem Kept.of_tank {s t : State} (h : outsideTank t = outsideTank s) : Kept s t :=
  .of_blocks (.of_tank h) (outsideBlocks_of (outsideControl_of h))

theorem inRunOnly_kept {f : State → Answer} (h : ∀ s, Kept s (f s).state) (s : State) :
    Kept s (inRunOnly f s).state := by
  unfold inRunOnly; split
  · exact h s
  · exact .refl s

theorem inConfigOnly_kept {f : State → Answer} (h : ∀ s, Kept s (f s).state) (s : State) :
    Kept s (inConfigOnly f s).state := by
  unfold inConfigOnly; split
  · exact .refl s
  · exact h s

theorem reqLoadItem_kept (i k : Nat) (v : List Byte) (s : State) : Kept s (reqLoadItem i k v s).state := by
  refine inConfigOnly_kept (fun s => ?_) s
  cases loadValue i k v s.port.items with
  | none => exact .refl s
  | some it => exact ⟨id, fun _ => id, id, rfl⟩

theorem Kept.start {s s1 t : State} (h : Kept s1 t) (p : AttentionOk s → AttentionOk s1)
    (c : s1.counter = s.counter) (q : s1.pending = s.pending) : Kept s t :=
  ⟨fun a => h.attention (p a), by rw [← c]; exact h.log, by rw [← c]; exact h.pendingRecords, h.queue.trans q⟩

theorem enterRun_kept (c : GaugeCounts) (s : State) : Kept s (enterRun c s) := by
  unfold enterRun
  exact .start (.of_blocks (blocksEnter_evolves c _) (blocksEnter_blocks c _)) id rfl rfl

theorem reqCommit_kept (c : GaugeCounts) (s : State) : Kept s (reqCommit c s).state := by
  refine inConfigOnly_kept (fun s => ?_) s
  cases s.port.loopTest.isSome with
  | true => exact .refl s
  | false =>
    cases h : commitRefusal s.port.loaded s.port.items with
    | some r => simp only [Bool.false_eq_true, if_false]; exact ⟨id, fun _ => id, id, rfl⟩
    | none => simp only [Bool.false_eq_true, if_false]; exact enterRun_kept c s
theorem placePending_attention (rs : List SpillRecord) (s : State) (h : AttentionOk s) : AttentionOk (placePending rs s) := by
  induction rs generalizing s with
  | nil => exact h
  | cons r rs ih =>
    unfold placePending; split
    · exact ih _ rfl
    · exact h

theorem releaseOldest_kept (s : State) : Kept s (releaseOldest s) :=
  ⟨fun a => placePending_attention _ _ a, fun _ => releaseOldest_log, fun p => (releaseOldest_evolves s p).pendingRecords p,
    (outsideControl_fields (releaseOldest_control s)).2.2.2.2.1⟩
theorem reqClearFaultGate_kept (s : State) : Kept s (reqClearFaultGate s).state := by
  refine inRunOnly_kept (fun s => ?_) s
  split
  · exact .of_blocks ((gateClears_evolves s).trans (afterGate_evolves _ _))
      ((outsideBlocks_of (outsideControl_of (afterGate_tank _ _))).trans (outsideBlocks_of (gateClears_control s)))
  · exact .refl s
theorem reqClearFaultPump_kept (s : State) : Kept s (reqClearFaultPump s).state := by
  refine inRunOnly_kept (fun s => ?_) s
  split
  · exact .of_tank (pumpClears_tank s)
  · exact .refl s
theorem reqSetTime_kept (n : Nat) (s : State) : Kept s (reqSetTime n s).state :=
  inRunOnly_kept (fun _ => .of_blocks (stepTime_evolves ..) (stepTime_blocks ..)) s
theorem setGateMode_kept (m : GateMode) (s : State) : Kept s (setGateMode m s) := by
  unfold setGateMode; dsimp only; split
  · exact .of_tank (by rw [afterGate_tank, retarget_tank]; rfl)
  · exact .of_tank rfl
theorem setDrainMode_kept (m : DrainMode) (s : State) : Kept s (setDrainMode m s) := by
  unfold setDrainMode; split_ifs
  · exact .refl s
  · exact .of_tank (drainModeChanges_tank m s)
  · exact .of_tank rfl

theorem restartPart_kept (s : State) : Kept s (restartPart s) :=
  ⟨(restartPart_evolves s).attention, fun _ => (restartPart_evolves s).log, (restartPart_evolves s).pendingRecords,
    (restartPart_keeps s).1⟩

theorem reqClearFault_kept (n : Nat) (s : State) : Kept s (reqClearFault n s).state :=
  match n with
  | 0 => reqClearFaultGate_kept s
  | 1 => reqClearFaultPump_kept s
  | _ + 2 => inRunOnly_kept .refl s

theorem takeRequest_kept (c : GaugeCounts) (code : Nat) (args : List Byte) (s : State) :
    Kept s (takeRequest c code args s).state := by
  unfold takeRequest
  split
  · split
    · exact inConfigOnly_kept .refl s
    · exact reqLoadItem_kept _ _ _ s
  · exact reqCommit_kept c s
  · exact .refl s
  · unfold reqReadPeer; split <;> exact .refl s
  · unfold reqReadLogSlot; split <;> exact .refl s
  · unfold reqReleaseRecord; split_ifs
    · exact .refl s
    · exact .refl s
    · exact releaseOldest_kept s
  · exact .refl s
  · exact .refl s
  · exact .refl s
  · exact .refl s
  · unfold reqReadCapture; split
    · exact .refl s
    · exact ⟨id, fun _ => id, id, rfl⟩
  · exact ⟨fun _ => rfl, fun _ => id, id, rfl⟩
  · exact ⟨fun _ => rfl, fun _ => id, id, rfl⟩
  · exact reqSetTime_kept _ s
  · unfold reqGateMode; split
    · exact .refl s
    · exact setGateMode_kept _ s
  · unfold reqDrainMode; split
    · exact .refl s
    · exact setDrainMode_kept _ s
  · exact inRunOnly_kept (fun s => .of_tank (queueBody_tank _ s)) s
  · exact inRunOnly_kept (fun s => .of_blocks (silenceRequest_evolves s) (silenceRequest_blocks s)) s
  · exact inRunOnly_kept (fun s => .of_blocks (rejoinRequest_evolves s) (rejoinRequest_blocks s)) s
  · exact reqClearFault_kept _ s
  · exact restartPart_kept s
  · refine inConfigOnly_kept (fun s => ?_) s
    split
    · exact .refl s
    · split
      · exact .refl s
      · exact ⟨id, fun _ => id, id, rfl⟩
  · exact .refl s

theorem answer_kept {s : State} (n : Nat) (a : Answer) (h : Kept s a.state) : Kept s (answer n a) :=
  ⟨h.attention, h.log, h.pendingRecords, h.queue⟩

theorem takeFrame_kept (g c) (s : State) : Kept s (takeFrame g c s) := by
  unfold takeFrame; split
  · exact answer_kept _ _ (.refl s)
  · exact answer_kept _ _ (takeRequest_kept ..)

end Sys2Proof.Machine
end

