-- ==== Sys2Proof/Laws/SpillRecords.lean ====
section
/-! SUPPORT. What the operations on the spill log do to its slots, in the words that claims use: the slots of a record
(`slotOf`), writing a record, and freeing slots (R174 to R177). -/

namespace Sys2Proof.Machine

/-! ### The slots of a record -/

theorem slotCount_eq (r : SpillRecord) : slotsNeeded r.entries.length = slotCount r := rfl

theorem entryBytes_eq (e : BlockEntry) : e.bytes = entryBytes e := rfl

theorem flagsWord_eq (f : RecordFlags) : f.word = flagsWord f := by
  simp [RecordFlags.word, flagsWord, flagBit]

theorem peak_codeIn (a : AlertLevel) : codeIn [AlertLevel.clear, .watch, .warning, .severe] a = [BitVec.ofNat 8 a.code] := by
  cases a <;> rfl

theorem bytesOf_one (n : Nat) : bytesOf 1 n = [BitVec.ofNat 8 n] := by simp [bytesOf]

theorem slotOf_zero (r : SpillRecord) : slotOf r 0 = headSlot r := by
  simp [slotOf, headSlot, peak_codeIn, flagsWord_eq, bytesOf_one, maxU24, slotCount_eq, Nat.min_comm]

theorem continuationSlots_count : ∀ es : List BlockEntry, (continuationSlots es).length = (es.length + 2) / 3
  | a :: b :: c :: d :: rest => by
    simp only [continuationSlots, List.length_cons, continuationSlots_count (d :: rest)]; omega
  | [] => rfl
  | [_] => by simp [continuationSlots]
  | [_, _] => by simp [continuationSlots]
  | [_, _, _] => by simp [continuationSlots]

/-- The k-th slot after the HEAD, of n. -/
def restSlot (es : List BlockEntry) (n k : Nat) : List Byte :=
  bytesOf 1 (if k + 1 = n then 3 else 2) ++ bytesOf 1 ((es.drop (3 * k)).take 3).length ++
  ((es.drop (3 * k)).take 3).flatMap entryBytes ++ List.replicate (30 - 10 * ((es.drop (3 * k)).take 3).length) 0

theorem continuationSlots_getElem : ∀ (es : List BlockEntry) (k : Nat), k < (es.length + 2) / 3 →
    (continuationSlots es)[k]? = some (restSlot es ((es.length + 2) / 3) k)
  | a :: b :: c :: d :: rest, 0, _ => by
    have h : ¬ 0 + 1 = ((a :: b :: c :: d :: rest).length + 2) / 3 := by simp only [List.length_cons]; omega
    simp only [continuationSlots, restSlot, if_neg h]
    simp [continuationSlot, bytesOf_one, entryBytes_eq]
  | a :: b :: c :: d :: rest, k + 1, h => by
    have hk : k < ((d :: rest).length + 2) / 3 := by simp only [List.length_cons] at h ⊢; omega
    have e : (a :: b :: c :: d :: rest).drop (3 * (k + 1)) = (d :: rest).drop (3 * k) := by
      rw [Nat.mul_add]; rfl
    have n : (k + 1 + 1 = ((a :: b :: c :: d :: rest).length + 2) / 3) = (k + 1 = ((d :: rest).length + 2) / 3) := by
      simp only [List.length_cons, eq_iff_iff]; omega
    simp only [continuationSlots, List.getElem?_cons_succ, continuationSlots_getElem (d :: rest) k hk, restSlot, e, n]
  | [], k, h => by simp at h
  | [a], 0, _ => by simp [continuationSlots, continuationSlot, restSlot, bytesOf_one, entryBytes_eq]
  | [a, b], 0, _ => by simp [continuationSlots, continuationSlot, restSlot, bytesOf_one, entryBytes_eq]
  | [a, b, c], 0, _ => by simp [continuationSlots, continuationSlot, restSlot, bytesOf_one, entryBytes_eq]
  | [_], k + 1, h => by simp at h
  | [_, _], k + 1, h => by simp at h
  | [_, _, _], k + 1, h => by simp at h

theorem slots_count (r : SpillRecord) : r.slots.length = slotCount r := by
  simp only [SpillRecord.slots, List.length_cons, continuationSlots_count, slotCount]; omega

/-- The slots that the log writes are those of the layout. -/
theorem slots_getElem {r : SpillRecord} {k : Nat} (h : k < slotCount r) : r.slots[k]? = some (slotOf r k) := by
  match k, h with
  | 0, _ => simp [SpillRecord.slots, slotOf_zero]
  | k + 1, h =>
    have hk : k < (r.entries.length + 2) / 3 := by unfold slotCount at h; omega
    have n : (k + 1 + 1 = slotCount r) = (k + 1 = (r.entries.length + 2) / 3) := by
      simp only [slotCount, eq_iff_iff]; omega
    simp only [SpillRecord.slots, List.getElem?_cons_succ, continuationSlots_getElem _ _ hk, restSlot, slotOf, n,
      Nat.add_sub_cancel, Nat.succ_ne_zero, if_false]

/-! ### Writing and freeing slots -/

/-- The 32 bytes of a slot as claims name them. -/
theorem slotBytes_eq (l : SpillLog) (k : Nat) :
    l.slotBytes k = (List.range 32).map fun i => Memory.read l.content (32 * k + i) := rfl

theorem putSlot_same {l : SpillLog} {k : Nat} {bs : List Byte} (h : l.ok) (hb : bs.length = 32) :
    (l.putSlot k bs).slotBytes k = bs := by
  refine List.ext_getElem (by simp [SpillLog.slotBytes, Memory.readAll, hb]) fun i hi hj => ?_
  have e : Memory.read (l.putSlot k bs).content (32 * k + i) = bs.getD i 0 := read_writeAll_inside h.2.2.2.1 hj
  simp [SpillLog.slotBytes, Memory.readAll, e, hj]

theorem putSlot_other {l : SpillLog} {k i : Nat} {bs : List Byte} (h : l.ok) (hb : bs.length = 32) (n : i ≠ k) :
    (l.putSlot k bs).slotBytes i = l.slotBytes i := by
  rw [slotBytes_eq, slotBytes_eq]
  refine List.map_congr_left fun j hj => ?_
  have : j < 32 := List.mem_range.mp hj
  exact read_writeAll_outside h.2.2.2.1 (by omega)

/-- Slots written: who owns a slot then, and what a slot not written keeps. -/
theorem putSlots_others {bss : List (List Byte)} {l : SpillLog} {k i : Nat} (h : l.ok) (hk : k < 48) (hi : i < 48)
    (hb : ∀ b ∈ bss, b.length = 32) (hn : bss.length ≤ 48) :
    (l.putSlots k bss).owners[i]? = (if (i + 48 - k) % 48 < bss.length then some .host else l.owners[i]?) ∧
    (bss.length ≤ (i + 48 - k) % 48 → (l.putSlots k bss).slotBytes i = l.slotBytes i) := by
  induction bss generalizing l k with
  | nil => simp [SpillLog.putSlots]
  | cons b bss ih =>
    have hb1 : b.length = 32 := hb b (List.mem_cons_self ..)
    have ho : l.owners.length = 48 := h.1
    obtain ⟨h1, h2⟩ := ih (l := l.putSlot k b) (k := (k + 1) % 48) (putSlot_ok h hk hb1) (Nat.mod_lt _ (by decide))
      (fun x hx => hb x (List.mem_cons_of_mem _ hx)) (by simp only [List.length_cons] at hn; omega)
    simp only [List.length_cons] at hn ⊢
    by_cases e : i = k
    · subst e
      have a : ¬ (i + 48 - (i + 1) % 48) % 48 < bss.length := by omega
      have c : (i + 48 - i) % 48 = 0 := by omega
      refine ⟨?_, fun q => absurd q (by omega)⟩
      show ((l.putSlot i b).putSlots ((i + 1) % 48) bss).owners[i]? = _
      rw [h1, if_neg a, if_pos (by omega)]
      simp [SpillLog.putSlot, ho, hi]
    · have a : (i + 48 - (k + 1) % 48) % 48 + 1 = (i + 48 - k) % 48 := by omega
      refine ⟨?_, fun q => ?_⟩
      · show ((l.putSlot k b).putSlots ((k + 1) % 48) bss).owners[i]? = _
        rw [h1, ← a]
        simp [SpillLog.putSlot, Ne.symm e]
      · exact (h2 (by omega)).trans (putSlot_other h hb1 e)

/-- Slots written: each reads as what was written there. -/
theorem putSlots_written {bss : List (List Byte)} {l : SpillLog} {k j : Nat} (h : l.ok) (hk : k < 48)
    (hb : ∀ b ∈ bss, b.length = 32) (hn : bss.length ≤ 48) (hj : j < bss.length) :
    some ((l.putSlots k bss).slotBytes ((k + j) % 48)) = bss[j]? := by
  induction bss generalizing l k j with
  | nil => simp at hj
  | cons b bss ih =>
    have hb1 : b.length = 32 := hb b (List.mem_cons_self ..)
    have hbs : ∀ x ∈ bss, x.length = 32 := fun x hx => hb x (List.mem_cons_of_mem _ hx)
    have ok := putSlot_ok h hk hb1
    simp only [List.length_cons] at hn hj
    match j, hj with
    | 0, _ =>
      have e := (putSlots_others (i := k) ok (Nat.mod_lt (k + 1) (by decide)) hk hbs (by omega)).2 (by omega)
      have z : (k + 0) % 48 = k := by omega
      rw [z]
      exact congrArg some (e.trans (putSlot_same h hb1))
    | j + 1, hj =>
      have z : (k + (j + 1)) % 48 = ((k + 1) % 48 + j) % 48 := by omega
      rw [z]
      exact ih ok (Nat.mod_lt (k + 1) (by decide)) hbs (by omega) (by omega)

/-- A record that fits the ring, written at the write position: it stands there, and what lies outside its slots stays. -/
theorem writeRecord_stands {l : SpillLog} {r : SpillRecord} (h : l.ok) (hn : slotCount r ≤ 48) :
    standsAt (l.writeRecord r) l.writePos r ∧
    ∀ i, i < 48 →
      (l.writeRecord r).owners[i]? =
        (if (i + 48 - l.writePos) % 48 < slotCount r then some .host else l.owners[i]?) ∧
      (slotCount r ≤ (i + 48 - l.writePos) % 48 → (l.writeRecord r).slotBytes i = l.slotBytes i) := by
  have hk : l.writePos < 48 := h.2.2.1
  have ha := fun i (hi : i < 48) => putSlots_others (bss := r.slots) (k := l.writePos) h hk hi (slots_length r)
    (by rw [slots_count]; exact hn)
  simp only [slots_count] at ha
  refine ⟨fun k hkc => ⟨?_, ?_⟩, ha⟩
  · have := (ha ((l.writePos + k) % 48) (Nat.mod_lt _ (by decide))).1
    rw [if_pos (by omega)] at this
    exact this
  · have := putSlots_written (bss := r.slots) (k := l.writePos) (j := k) h hk (slots_length r)
      (by rw [slots_count]; exact hn) (by rw [slots_count]; exact hkc)
    rw [slots_getElem hkc] at this
    exact Option.some.inj this

/-- Slots freed: their owner, and all content kept. -/
theorem freeSlots_owner {n : Nat} {l : SpillLog} {k i : Nat} (h : l.owners.length = 48) (hk : k < 48) (hi : i < 48)
    (hn : n ≤ 48) :
    (l.freeSlots k n).owners[i]? = (if (i + 48 - k) % 48 < n then some .log else l.owners[i]?) ∧
    (l.freeSlots k n).content = l.content := by
  induction n generalizing l k with
  | zero => simp [SpillLog.freeSlots]
  | succ n ih =>
    obtain ⟨h1, h2⟩ := ih (l := { l with owners := l.owners.set k .log }) (k := (k + 1) % 48) (by simpa using h)
      (Nat.mod_lt _ (by decide)) (by omega)
    refine ⟨?_, h2⟩
    show (SpillLog.freeSlots { l with owners := l.owners.set k .log } ((k + 1) % 48) n).owners[i]? = _
    rw [h1]
    by_cases e : i = k
    · subst e
      rw [if_neg (by omega), if_pos (by omega)]
      simp [h, hi]
    · have a : (i + 48 - (k + 1) % 48) % 48 + 1 = (i + 48 - k) % 48 := by omega
      rw [← a]
      simp [Ne.symm e]

end Sys2Proof.Machine
end

