-- ==== Sys2Proof/Laws/Trunk.lean ====
section
/-! SUPPORT. What the operations of the transmit slots and of the claim timer do, once for each. -/

namespace Sys2Proof.Machine

/-! ### The transmitter's entry to WAIT_LINE and the queuing of a body -/

/-- Entry to WAIT_LINE changes the transmitter's state and wait alone, and the counter of the deferrals. -/
theorem enterWaitLine_sets (s : State) : enterWaitLine s = { s with
    trunk := { s.trunk with tx := (enterWaitLine s).trunk.tx, txUntil := (enterWaitLine s).trunk.txUntil }
    free := (enterWaitLine s).free } := by
  unfold enterWaitLine drawDeferral; dsimp only; split <;> rfl

/-- Waking the transmitter likewise. -/
theorem wakeTransmitter_sets (s : State) : wakeTransmitter s = { s with
    trunk := { s.trunk with tx := (wakeTransmitter s).trunk.tx, txUntil := (wakeTransmitter s).trunk.txUntil }
    free := (wakeTransmitter s).free } := by
  unfold wakeTransmitter; split
  · exact enterWaitLine_sets s
  · rfl

/-- R4: queuing a body changes the slot of its kind, and may wake the transmitter. -/
theorem queueBody_sets (b : Body) (s : State) : queueBody b s = { s with
    trunk := { s.trunk with
      slots := s.trunk.slots.set b.kind ((s.trunk.slots.get b.kind).queue b)
      tx := (queueBody b s).trunk.tx, txUntil := (queueBody b s).trunk.txUntil }
    free := (queueBody b s).free } := by
  unfold queueBody
  exact wakeTransmitter_sets { s with
    trunk.slots := s.trunk.slots.set b.kind ((s.trunk.slots.get b.kind).queue b) }

theorem queueBody_slots (b : Body) (s : State) :
    (queueBody b s).trunk.slots = s.trunk.slots.set b.kind ((s.trunk.slots.get b.kind).queue b) := by
  rw [queueBody_sets]

/-- A slot of another kind is left alone. -/
theorem queueBody_other (b : Body) (s : State) {k : Kind} (h : k ≠ b.kind) :
    (queueBody b s).trunk.slots.get k = s.trunk.slots.get k := by
  rw [queueBody_slots]; exact slots_get_set_other _ _ h

@[simp] theorem queueBody_drain (b : Body) (s : State) : (queueBody b s).drain = s.drain := by rw [queueBody_sets]

@[simp] theorem queueBody_tankState (b : Body) (s : State) : (queueBody b s).tank = s.tank := by rw [queueBody_sets]

@[simp] theorem queueBody_input (b : Body) (s : State) : (queueBody b s).input = s.input := by rw [queueBody_sets]

/-! ### The claim timer -/

/-- R142: the target is placed anew from T, and a CLAIM is queued where T has reached or passed the old target. -/
theorem claimTimerStep_spec (s : State) :
    (claimTimerStep s).drain = { s.drain with claimTarget := nextClaimInstant s s.time.t } ∧
    (claimTimerStep s).trunk = { s.trunk with
      slots := (claimTimerStep s).trunk.slots, tx := (claimTimerStep s).trunk.tx
      txUntil := (claimTimerStep s).trunk.txUntil } ∧
    (claimTimerStep s).trunk.slots.claim =
      (if claimTimerDue s then s.trunk.slots.claim.queue (.claim (claimBody s)) else s.trunk.slots.claim) ∧
    (claimTimerStep s).tank = s.tank ∧ (claimTimerStep s).input = s.input := by
  unfold claimTimerStep claimTimerExpires queueClaim placeClaimTimer
  split
  · refine ⟨?_, ?_, ?_, ?_, ?_⟩ <;> rw [queueBody_sets] <;> rfl
  · exact ⟨rfl, rfl, rfl, rfl, rfl⟩

end Sys2Proof.Machine
end

