-- ==== Sys2Proof/Tests/Slice0.lean ====
section
/-! SUPPORT. Tests: the checks of WellFormed on ill-formed commands, one small step of each command, values that the manual
works out, and for every obligation with hypotheses a state and operands that meet them. -/

namespace Sys2Proof.Tests

open Sys2Proof Sys2Proof.Machine

/-! ### WellFormed -/

theorem test_transaction_clocks_what_it_gathers : (Instr.transaction [1, 2] 3 ⟨0, 0, 0⟩).wf = false := by decide
theorem test_empty_transaction_clocks_any_number : (Instr.transaction [] 300 ⟨0, 0, 0⟩).wf = true := by decide
theorem test_load_item_value_fits_its_frame : (Instr.loadItem 1 0 (List.replicate 254 0)).wf = false := by
  decide +kernel
theorem test_gathered_bulletin_has_23_bytes : (Instr.loopTestGathered (List.replicate 24 0)).wf = false := by decide
theorem test_collision_byte_is_below_23 : (Instr.collision 23).wf = false := by decide
theorem test_stale_peer_station_is_not_0 : (Instr.claimPartStale 0x0300).wf = false := by decide
theorem test_removed_peer_station_is_not_255 : (Instr.claimPartRemoved 0x03FF).wf = false := by decide
theorem test_rain_peer_station_is_not_0 : (Instr.rainLifetimeExpiry 0x0000).wf = false := by decide
theorem test_forgotten_peer_station_is_not_255 : (Instr.forgetTimeExpiry 0x00FF).wf = false := by decide
theorem test_peer_station_254_is_well_formed : (Instr.forgetTimeExpiry 0x03FE).wf = true := by decide

/-! ### States -/

/-- The state that a command leaves. -/
def ran (c : Instr) (s : State) : State :=
  match exec c s with
  | .next t => t
  | _ => s

/-- The part in CONFIG, some time after its reset. -/
def base : State := { State.reset with elapsed := 1000000, time.t := 500000000 }

/-- Station 3.4 in RUN, its tank holding, its gate closed and its pump stopped. -/
def running : State := { base with
  port := { base.port with run := .run, committed := { factoryItems with stationAddress := some 0x0304 } }
  trunk.rx := .listen
  input.digital := ⟨⟨false, some false, none, ⟨false, false, 0⟩, ⟨false, false, 0⟩⟩,
    ⟨false, some false, none, ⟨false, false, 0⟩, ⟨false, false, 0⟩⟩, ⟨true, some true, none, ⟨false, false, 0⟩, ⟨false, false, 0⟩⟩,
    ⟨false, some false, none, ⟨false, false, 0⟩, ⟨false, false, 0⟩⟩, ⟨false, some false, none, ⟨false, false, 0⟩, ⟨false, false, 0⟩⟩⟩
  tank := { base.tank with state := .holding, volume := 100, fill := 100, gate := some .closed, target := some .toClose }
  drain := { base.drain with pump := some .stopped }
  rain.bins := [0]
  peers.entries := [⟨0x0307, 0, 5, 6, .settled, false, some ⟨250, 80, 450, 1, false, 10, 900000, true⟩,
    some ⟨.warning, 200, 100, 3, 900000⟩, 900000⟩] }

/-- A spill event that is open, its current block and its entry. -/
def openEvent0 : SpillEvent := ⟨7, ⟨100, 100⟩, noFlags, 0, .clear, 5000, [⟨1, 100, 60, 12⟩], none, none⟩
def block0 : Block := ⟨2, ⟨400000, 400000⟩, 900000, true, 5000, 20⟩

/-- The part in RUN with an open event. -/
def counting : State := { running with
  counter := { running.counter with spill := .spilling, event := some openEvent0, current := some block0, spillSince := some 500000 } }

/-- The part in RUN sending a PRESENCE. -/
def sending : State := { running with trunk := { running.trunk with
  tx := .send, slots.presence := .sending .presence 0 none
  attempt := some ⟨.presence, .presence, [1, 2, 3], 5, some [1, 2, 3], false, 999000⟩ } }

/-! ### One step of a command -/

theorem test_tick_advances_both_times : (ran .trunkTimeTick base).elapsed = 1000001 ∧
    (ran .trunkTimeTick base).time.t = 500000001 := by decide
theorem test_full_reset_zeroes_trunk_time : (ran .fullReset running).time.t = 0 ∧
    (ran .fullReset running).port.run = .config := by decide
theorem test_load_item_sets_pump_max : (ran (.loadItem 27 0 [0x01, 0x2C]) base).port.items.pumpMax = 300 := by decide
theorem test_load_item_in_run_is_refused :
    (ran (.loadItem 27 0 [0x01, 0x2C]) running).port.heldResponse = [1, 1, 0, 0, 254] := by decide
theorem test_commit_without_address_is_refused :
    (ran (.commit ⟨0, 0, 0⟩) base).port.heldResponse = [2, 1, 0, 2, 1, 0, 250] ∧
    (ran (.commit ⟨0, 0, 0⟩) base).port.lastRefusal = some ⟨1, 0⟩ := by decide
theorem test_bad_code_is_answered_bad_frame :
    (ran (.transaction [23, 0, 233] 3 ⟨0, 0, 0⟩) base).port.heldResponse = [23, 4, 0, 0, 229] := by decide
theorem test_transaction_takes_read_events :
    (ran (.transaction [12, 0, 244] 3 ⟨0, 0, 0⟩) base).port.heldResponse = [12, 0, 0, 2, 0, 0, 242] := by decide
theorem test_read_peer_past_23_is_bad : (ran (.readPeer 24) base).port.heldResponse = [4, 2, 0, 0, 250] := by decide
theorem test_read_log_slot_48_is_bad : (ran (.readLogSlot 48) base).port.heldResponse = [5, 2, 0, 0, 249] := by decide
theorem test_log_slot_reads_owner_then_bytes_then_role :
    ((ran (.readLogSlot 47) { base with counter.log := base.counter.log.putSlot 47 [3, 9] }).port.heldResponse.drop 4 |>.take 35) =
      [1, 3, 9] ++ List.replicate 30 0 ++ [1, 3] := by decide +kernel
theorem test_release_with_empty_log_is_refused :
    (ran (.releaseRecord 1) base).port.heldResponse = [6, 1, 0, 0, 249] := by decide
theorem test_no_open_event_reads_absent : (ran .readOpenEvent base).port.heldResponse = [7, 0, 0, 1, 0, 248] := by decide
theorem test_no_pending_records : (ran .readPending base).port.heldResponse = [8, 0, 0, 1, 0, 247] := by decide
theorem test_totals_have_32_bytes : (ran .readTotals base).port.heldResponse.length = 37 := by decide
theorem test_status_is_done : (ran .readStatus base).port.heldResponse.take 2 = [3, 0] := by decide
theorem test_rain_is_done : (ran .readRain base).port.heldResponse.take 2 = [10, 0] := by decide
theorem test_capture_has_16_bytes : (ran (.readCapture 4) base).port.heldResponse.length = 21 := by decide
theorem test_events_are_cleared : (ran .readEvents { base with port.flags := 5 }).port.flags = 0 := by decide
theorem test_mask_asserts_attention :
    (ran (.setEventMask 0x8004) { base with port.flags := 4 }).port.attention = true := by decide
theorem test_set_time_is_bounded :
    (ran (.setTime 0xFFFFFFFFFFFFFFFF) running).time.t = 2 ^ 48 - 1 ∧
    (ran (.setTime 500028200) running).drain.claimTarget = some 500031000 := by decide
theorem test_gate_mode_3_is_bad : (ran (.gateMode 3) base).port.heldResponse = [15, 2, 0, 0, 239] := by decide
theorem test_drain_mode_hold_in_config : (ran (.drainMode 1) base).drain.mode = .hold := by decide
theorem test_send_limit_clamps :
    (ran (.sendLimit 0xFFFF 0) running).trunk.slots.limit = .waiting (.limit ⟨20000, 10⟩) 0 := by decide
theorem test_silence_in_config_is_refused : (ran .silence base).port.heldResponse = [18, 1, 0, 0, 237] := by decide
theorem test_rejoin_in_normal_is_done : (ran .rejoin running).port.heldResponse = [19, 0, 0, 0, 237] := by decide
theorem test_clear_fault_without_fault_is_refused :
    (ran .clearFaultGate running).port.heldResponse = [20, 1, 0, 0, 235] ∧
    (ran .clearFaultPump running).port.heldResponse = [20, 1, 0, 0, 235] := by decide
theorem test_restart_returns_to_config : (ran .restart running).port.run = .config := by decide
theorem test_loop_test_without_address_is_refused :
    (ran .loopTest base).port.heldResponse = [22, 1, 0, 0, 233] := by decide
theorem test_loop_test_passes :
    (ran (.loopTestGathered (composeBulletin .presence 0x0304 .unset false 500000000))
      (ran .loopTest { base with port.items.stationAddress := some 0x0304 })).port.loopResult = .pass := by decide +kernel
theorem test_loop_test_times_out :
    (ran .loopTestTimeout { base with port.loopTest := some ⟨[], 1000000⟩ }).port.loopResult = .fail := by decide
theorem test_line_becomes_free : (ran .lineFree running).trunk.lineFree = true := by decide
theorem test_deferral_begins_attempt :
    (ran .deferralExpiry { running with
      trunk.tx := .defer, trunk.txUntil := some 1000000, trunk.slots.presence := .waiting .presence 3 }).trunk.slots.presence =
      .sending .presence 3 none := by decide
theorem test_collision_while_not_sending : (ran (.collision 0) running).trunk.lastActivity = 1000000 := by decide
theorem test_early_collision_counts_the_attempt :
    (ran (.collision 0) sending).trunk.slots.presence = .waiting .presence 1 := by decide
theorem test_clean_send_empties_the_slot : (ran .lastByteDriven sending).trunk.slots.presence = .empty ∧
    (ran .lastByteDriven sending).trunk.tx = .idle := by decide
theorem test_last_byte_before_its_time_changes_nothing :
    (ran .lastByteDriven { sending with elapsed := 999000 }).trunk = sending.trunk := by decide
theorem test_backoff_ends_idle :
    (ran .backoffExpiry { running with trunk.tx := .backoff, trunk.txUntil := some 5 }).trunk.tx = .idle := by decide
theorem test_first_byte_begins_a_frame :
    (ran (.byteReceived 0x7E) running).trunk.rx = .frame ⟨[0x7E], 500000000, false, false⟩ := by decide
theorem test_presence_is_queued :
    (ran .presenceIntervalExpiry { running with trunk.presence := some 5 }).trunk.slots.presence =
      .waiting .presence 0 := by decide
theorem test_cutoff_hold_zeroes_the_score :
    (ran .cutoffHoldExpiry { running with
      trunk.standing := .cutOff .score, trunk.txScore := 200, trunk.cutoffHold := some 5 }).trunk.standing =
      .normal := by decide
theorem test_claim_part_goes_stale :
    (ran (.claimPartStale 0x0307) running).peers.entries.map (fun e => e.claim.map ClaimPart.fresh) =
      [some false] := by decide
theorem test_claim_part_is_removed :
    (ran (.claimPartRemoved 0x0307) running).peers.entries.map (fun e => e.claim) = [none] := by decide
theorem test_limit_lapses :
    (ran .limitValidityExpiry { running with
      peers.limit := some ⟨1200, 60, 0x0307, ⟨900000, 5⟩, true⟩ }).peers.limit =
      some ⟨1200, 60, 0x0307, ⟨900000, 5⟩, false⟩ := by decide
theorem test_preference_lapses :
    (ran .anchorPreferenceLapse { running with time.anchorPref := some 940000 }).time.anchorPref = none := by decide
theorem test_adjust_slews_one_ms :
    (ran .adjust { running with time.nextAdjust := some 1000001, time.e := 20 }).time.t = 500000001 ∧
    (ran .adjust { running with time.nextAdjust := some 1000001, time.e := 20 }).time.e = 4 := by decide
theorem test_transition_makes_a_candidate :
    (ran (.rawTransition .rainTip true) running).input.digital.rainTip.candidate =
      some ⟨true, ⟨1000000, 500000000⟩⟩ := by decide
theorem test_tip_is_counted :
    (ran (.filterExpiry .rainTip) { running with input.digital.rainTip.candidate := some ⟨true, ⟨999000, 5⟩⟩ }).rain.total =
      2 := by decide
theorem test_minute_appends_a_bin :
    (ran .minuteEnd { running with rain.nextMinute := some 1000000, rain.bins := [3] }).rain.bins = [3, 0] := by decide
theorem test_repeat_queues_a_rain :
    (ran .rainRepeatExpiry { running with rain.rainRepeat := some 5, rain.own := .watch }).trunk.slots.rain =
      .waiting (.rain ⟨1, 0, 0, 0⟩) 0 := by decide
theorem test_claim_timer_moves_to_the_next_instant :
    (ran .claimTimerExpiry { running with drain.claimTarget := some 500000000 }).drain.claimTarget = some 500001000 := by
  decide
theorem test_travel_expiry_waits_to_retry :
    (ran .gateTravelExpiry { running with tank.gate := some .opening, tank.gateTimer := some 5, tank.state := .off }).tank.gate =
      some .retryWait := by decide
theorem test_retry_wait_travels_again :
    (ran .retryWaitExpiry { running with
      tank.gate := some .retryWait, tank.gateDir := some .toOpen, tank.gateTimer := some 5, tank.state := .off }).tank.gate =
      some .opening := by decide
theorem test_reversal_ends_at_an_asserted_limit :
    (ran .reversalPauseExpiry { running with
      tank.gate := some .reversing, tank.gateDir := some .toClose, tank.gateTimer := some 5, tank.state := .off }).tank.gate =
      some .closed := by decide
theorem test_start_timeout_faults_the_pump :
    (ran .startTimeoutExpiry { running with drain.pump := some .starting, drain.pumpTimer := some 5 }).drain.pump =
      some .fault := by decide
theorem test_stop_timeout_faults_the_pump :
    (ran .stopTimeoutExpiry { running with drain.pump := some .stopping, drain.pumpTimer := some 5 }).drain.pump =
      some .fault := by decide
theorem test_rest_elapses :
    (ran .restTimerExpiry { running with drain.restTimer := some 5 }).drain.restElapsed = true := by decide
theorem test_block_is_counted :
    (ran .blockNominalEnd counting).counter.totals.counted = 1 ∧
    (ran .blockNominalEnd counting).counter.totals.seconds = 405 := by decide
theorem test_continued_event_takes_the_spell_marks :
    (ran .blockNominalEnd { counting with
      spill.marks := ⟨true, false, true⟩
      counter.event := some { openEvent0 with entries := List.replicate 59 ⟨1, 2, 3, 4⟩ } }).counter.event.map
      (fun ev => (ev.flags.sensorHeld, ev.flags.headBeyondTable, ev.flags.continued)) = some (true, false, true) := by
  decide +kernel
theorem test_release_timer_ends_admitting :
    (ran .releaseTimerExpiry { running with tank.state := .admitting, tank.releaseTimer := some 5 }).tank.state =
      .holding := by decide

theorem test_sample_converts_the_sewer :
    (ran (.sample ⟨1000, 1000, 0⟩) { running with input.nextSample := some 5 }).input.gauges.sewer.level = 625 := by
  decide +kernel
theorem test_spell_is_confirmed :
    (ran .startDebounceExpiry { running with
      spill.state := .onset, spill.debounce := some 5, counter.spill := .onset, spill.onset := some ⟨5, 5⟩
      spill.provisional := 900 }).spill.confirmed = 900 := by decide +kernel
theorem test_spill_ends :
    (ran .stopDebounceExpiry { counting with
      spill.state := .subsiding, spill.debounce := some 5, counter.spill := .subsiding }).spill.state = .clear := by
  decide +kernel
theorem test_alert_falls_one_level :
    (ran .alertHoldExpiry { running with rain.own := .severe, rain.hold := some 5, rain.branch := .severe }).rain.own =
      .warning := by decide +kernel
theorem test_rain_part_outlives_its_lifetime :
    (ran (.rainLifetimeExpiry 0x0307) { running with elapsed := 2100000 }).peers.entries.map PeerEntry.rain = [none] := by
  decide +kernel
theorem test_bare_entry_is_forgotten :
    (ran (.forgetTimeExpiry 0x0307) { running with
      elapsed := 2000000, peers.entries := [⟨0x0307, 0, 5, 6, .settled, false, none, none, 900000⟩] }).peers.entries = [] := by
  decide

/-! ### Values that the manual works out -/

theorem test_check_word_of_the_digits :
    checkWord [0x31, 0x32, 0x33, 0x34, 0x35, 0x36, 0x37, 0x38, 0x39] = 0x29B1 := by decide +kernel
theorem test_level_of_a_count : gaugeLevel 1200 4000 2150 = 3137 := by decide
theorem test_four_claimants_share :
    (distribute 775 [⟨0x0304, 10, 300, none⟩, ⟨0x0307, 3, 250, none⟩, ⟨0x030B, 24, 400, none⟩, ⟨0x030F, 3, 120, none⟩]).map
      Claimant.assigned = [some 234, some 70, some 400, some 70] := by decide
theorem test_short_and_long_intensity : intensity [0, 2, 5, 8, 2] 2 5 = 408 ∧ intensity [0, 2, 5, 8, 2] 2 60 = 34 := by decide

/-! ### The hypotheses of each obligation, met -/

theorem test_meets_StepTakesFront :
    ({ base with pending := [.readStatus, .restart] } : State).pending = .readStatus :: [.restart] := rfl

theorem test_meets_EveryCommandCompletes : base.pending = [] := rfl

/-- The part at an adjust, with an estimate, a clock state and a settle run. -/
def adjusting (e : Int) (c : ClockState) (r : Nat) : State :=
  { base with time := { base.time with nextAdjust := some 1000001, e := e, clock := c, settleRun := r } }

theorem test_meets_TimeTicksSlewsAndSettles :
    (∀ e ∈ [16, -16, 15, -15, 47, 48], (adjusting e .following 9).time.nextAdjust = some 1000001) ∧
    1000001 ≤ base.elapsed + 1 ∧
    (ran .adjust (adjusting 47 .following 9)).time.e.natAbs < 32 ∧ (adjusting 47 .following 9).time.settleRun + 1 = 10 ∧
    (ran .adjust (adjusting (-47) .following 8)).time.e.natAbs < 32 ∧ (adjusting (-47) .following 8).time.settleRun + 1 ≠ 10 ∧
    32 ≤ (ran .adjust (adjusting 48 .following 9)).time.e.natAbs ∧ (adjusting 48 .settled 0).time.clock ≠ .following := by
  decide

theorem test_meets_SetTimeStepsTrunkTime :
    running.inRun = true ∧
    ({ running with drain.claimTarget := some 600 } : State).drain.claimTarget = some 600 ∧
    600 ≤ (ran (.setTime 600) { running with drain.claimTarget := some 600 }).time.t ∧
    ¬ 601 ≤ (ran (.setTime 600) { running with drain.claimTarget := some 601 }).time.t ∧
    ({ running with trunk.rx := .frame ⟨[1], 5, false, false⟩ } : State).trunk.rx = .frame ⟨[1], 5, false, false⟩ := by decide

theorem test_meets_PreferenceLapsesAndEntriesAreForgotten :
    ({ base with time.anchorPref := some 940000 } : State).time.anchorPref = some 940000 ∧ 940000 + 60000 ≤ base.elapsed := by
  decide

theorem test_meets_TransactionSendsHeldResponse : (0 < 1) ∧ ([] : List Byte) = [] := by decide

theorem test_meets_BadFrameIsAnswered :
    ([3, 0] : List Byte).length < 3 ∧ ([4, 1, 0] : List Byte).length < byteAt [4, 1, 0] 1 + 3 ∧
    byteSum (([3, 0, 254] : List Byte).take (byteAt [3, 0, 254] 1 + 3)) ≠ 0 ∧ byteAt [0, 0, 0] 0 = 0 ∧
    22 < byteAt [23, 0, 233] 0 ∧ (byteAt [4, 0, 252] 0, 1) ∈ argumentTable ∧ byteAt [4, 0, 252] 1 ≠ 1 ∧
    3 ≤ ([3, 0, 253] : List Byte).length ∧ byteAt [3, 0, 253] 1 + 3 ≤ ([3, 0, 253] : List Byte).length := by decide

theorem test_meets_TransactionTakesRequest :
    requestOf (.loadItem 1 0 (List.replicate 253 0)) = some (1, 1 :: 0 :: List.replicate 253 0) ∧
    (1 :: 0 :: List.replicate 253 (0 : Byte)).length ≤ 255 ∧
    requestOf (.commit ⟨1, 2, 3⟩) = some (2, []) ∧ (∀ k, Instr.commit ⟨1, 2, 3⟩ = .commit k → k = ⟨1, 2, 3⟩) := by
  refine ⟨rfl, by decide +kernel, rfl, fun k h => ?_⟩
  cases h; rfl

theorem test_meets_RunStateRefuses :
    running.inRun = true ∧ base.inRun = false ∧ 1 < (2 : Byte).toNat ∧ ([51] : List Byte).length < 2 := by decide

theorem test_meets_ReadsOnlyAnswer :
    23 < (24 : Byte).toNat ∧ ¬ 23 < (23 : Byte).toNat ∧ 47 < (48 : Byte).toNat ∧ ¬ 47 < (47 : Byte).toNat ∧
    ({ base with counter.log := base.counter.log.putSlot 47 [1] } : State).counter.log.owners.getD 47 .log = .host := by
  decide

theorem test_meets_ReadCaptureClearsFlags :
    4 < (5 : Byte).toNat ∧
    [DigitalIn.rainTip, .gateOpenLimit, .gateClosedLimit, .spillFloat, .pumpRunning][(4 : Byte).toNat]? =
      some .pumpRunning := by decide

theorem test_meets_MaskAndFlagsDriveAttention : EventFlag.spillStart ≠ .addressClash := by decide

theorem test_meets_LoadItemTakesNumbers :
    base.inRun = false ∧
    ⟨3, 5, 60, Items.claimPeriod⟩ ∈ numberItems ∧ (0 : Byte) = 0 ∧ ([60] : List Byte).length ∈ [1, 2, 4] ∧
    5 ≤ natOf [5] ∧ natOf [60] ≤ 60 ∧ ¬ natOf [61] ≤ 60 ∧ ¬ 5 ≤ natOf [4] ∧ ([0, 0, 60] : List Byte).length ∉ [1, 2, 4] := by
  refine ⟨by decide, by simp [numberItems], ?_⟩
  decide

theorem test_meets_LoadItemTakesOtherKinds :
    base.inRun = false ∧ (([0xFF, 254] : List Byte).length = 2 ∧ 1 ≤ byteAt [0, 1] 1 ∧ byteAt [0xFF, 254] 1 ≤ 254) ∧
    (([3, 0, 0xFF, 0, 15] : List Byte).length = 5 ∧ byteAt [3, 0, 0xFF, 0, 15] 4 < 16) ∧
    numberIn 500 10000 [1, 0xF4] = some 500 ∧ numberIn 500 10000 [0x27, 0x11] = none ∧
    numberIn 0 10000 [0] = some 0 ∧ numberIn 10 2000 [0, 0, 7, 0xD0] = some 2000 ∧ numberIn 10 2000 [9] = none ∧
    numberIn 5 15 [15] = some 15 ∧ numberIn 5 15 [4] = none ∧ ¬ (6 = 5 ∨ 6 = 10 ∨ 6 = 15) ∧
    (∀ n ∈ [2, 12], (∀ p ∈ List.replicate n (⟨20000, 65535⟩ : Point), p.x ≤ 20000 ∧ p.y ≤ 65535) ∧
      2 ≤ (List.replicate n (⟨20000, 65535⟩ : Point)).length ∧ (List.replicate n (⟨20000, 65535⟩ : Point)).length ≤ 12) ∧
    (∀ n ∈ [2, 8], (∀ p ∈ List.replicate n (⟨0, 20000⟩ : Point), p.x ≤ 20000 ∧ p.y ≤ 20000) ∧
      2 ≤ (List.replicate n (⟨0, 20000⟩ : Point)).length ∧ (List.replicate n (⟨0, 20000⟩ : Point)).length ≤ 8 ∧
      ∀ p, (List.replicate n (⟨0, 20000⟩ : Point)).head? = some p → p.x = 0) ∧
    (∀ ps : List Point, (1 : Byte) ≠ 0 ∨ tableBytes [] ≠ tableBytes ps) ∧ 51 < (52 : Byte).toNat := by
  refine ⟨rfl, by decide, by decide, by decide, by decide, by decide, by decide, by decide, by decide, by decide, by decide,
    by decide, ?_, fun _ => .inl (by decide), by decide⟩
  simp

/-- The part in CONFIG with a configuration that COMMIT accepts. -/
def loaded : State := { base with port.items.stationAddress := some 0x0304 }

theorem test_loaded_passes_every_check : ∀ q ∈ commitChecks loaded, ¬ q.1 := by
  have a : acceptAtCommit loaded 0x0304 = { factoryItems.accept with e0 := ⟨0x0300, 0xFF00, ⟨true, true, true, true⟩⟩ } := by
    decide
  simp only [commitChecks, List.forall_mem_cons, List.not_mem_nil, false_implies, implies_true, and_true]
  refine ⟨by decide, ?_, ?_, by decide, ?_, by decide, by decide, by decide, ?_⟩
  · exact not_not.mpr (by simp [loaded, base, State.reset, Port.reset, factoryItems])
  · exact not_not.mpr (by simp [loaded, base, State.reset, Port.reset, factoryItems])
  · intro h; exact absurd (h ⟨4000, 1000⟩ rfl) (by decide)
  · intro h
    have := (h 0x0304 rfl).1
    rw [a] at this
    exact absurd this (by decide)

theorem test_meets_CommitIsRefused :
    (base.inRun = false ∧ ({ base with port.loopTest := some ⟨[], 5⟩ } : State).port.loopTest ≠ none) ∧
    (base.port.loopTest = none ∧ ∃ after, commitChecks base = [] ++ (base.port.items.stationAddress = none, ⟨1, 0⟩) :: after) ∧
    base.port.items.stationAddress = none := by
  exact ⟨by decide, ⟨rfl, _, rfl⟩, rfl⟩

theorem test_loaded_is_at_rest : ConfigAtRest loaded := by
  intro _
  repeat' (first | exact ⟨rfl, rfl⟩ | rfl | exact Or.inl rfl | (intro a h; cases h) | apply And.intro)

theorem test_meets_CommitEntersRun :
    loaded.inRun = false ∧ loaded.port.loopTest = none ∧ (∀ q ∈ commitChecks loaded, ¬ q.1) ∧
    loaded.port.items.stationAddress = some 0x0304 ∧ ConfigAtRest loaded ∧
    loaded.trunk.slots = ⟨.empty, .empty, .empty, .empty⟩ ∧
    ((ran (.commit ⟨1000, 1000, 3800⟩) loaded).input.gauges.tank.status ≠ .failed ∧
      (ran (.commit ⟨1000, 599, 3800⟩) loaded).input.gauges.tank.status = .failed ∧
      (ran (.commit ⟨1000, 599, 3800⟩) loaded).spill.state = .onset ∧
      (ran (.commit ⟨1000, 599, 3800⟩) { loaded with
        input.digital.gateOpenLimit.raw := true, input.digital.gateClosedLimit.raw := true }).tank.gate = some .fault) :=
  ⟨rfl, rfl, test_loaded_passes_every_check, rfl, test_loaded_is_at_rest, rfl, by decide +kernel⟩

theorem test_meets_RestartResetsBlocks :
    ({ running with trunk.standing := .quiet, time.clock := .settled, rain.branch := .watch } : State).trunk.standing ≠ .normal ∧
    ({ running with trunk.standing := .quiet, time.clock := .settled, rain.branch := .watch } : State).time.clock = .settled ∧
    ({ running with trunk.standing := .quiet, time.clock := .settled, rain.branch := .watch } : State).rain.branch ≠ .clear := by
  decide

/-- The part with an open event and one record pending. -/
def interrupted (st : SpillState) (c : Bool) : State := { counting with
  counter := { counting.counter with
    spill := st, current := some { block0 with containsSpill := c }
    pendingRecords := [⟨6, 5, 6, 7, 8, 9, .clear, noFlags, []⟩] } }

theorem test_meets_RestartInterruptsEvent :
    running.counter.event = none ∧
    ∀ x ∈ [(SpillState.clear, false), (.onset, false), (.spilling, true)],
      (interrupted x.1 x.2).counter.event = some openEvent0 ∧
      (interrupted x.1 x.2).counter.current = some { block0 with containsSpill := x.2 } ∧
      (interrupted x.1 x.2).counter.deferred = none ∧ (interrupted x.1 x.2).counter.pendingRecords.length = 1 ∧
      (interrupted x.1 x.2).counter.spill = x.1 ∧ (interrupted x.1 x.2).counter.spillSince = some 500000 ∧
      openEvent0.entries.length < 60 := by decide

theorem test_meets_SendLimitQueuesAndLoopTestRuns :
    running.inRun = true ∧ running.trunk.tx = .idle ∧ running.trunk.standing = .normal ∧
    (ran (.sendLimit 20001 9) running).trunk.slots.limit.isWaiting = true ∧
    sending.trunk.tx ≠ .idle ∧ base.inRun = false ∧
    ({ base with port.loopTest := some ⟨[1], 1000000⟩ } : State).port.loopTest ≠ none ∧
    base.port.loopTest = none ∧ base.port.items.stationAddress = none ∧ loaded.port.items.stationAddress = some 0x0304 ∧
    ({ base with port.loopTest := some ⟨[1], 1000000⟩ } : State).port.loopTest = some ⟨[1], 1000000⟩ ∧
    base.trunk.attempt = none ∧ (⟨[1], 1000000⟩ : LoopTest).deadline ≤ base.elapsed := by decide

/-- The part in RUN with a standing and a transmit fault score, the hold due. -/
def stands (st : Standing) (tx : Nat) : State := { running with
  trunk := { running.trunk with standing := st, txScore := tx, cutoffHold := some 1000000 } }

theorem test_meets_StandingCommands :
    (stands (.cutOff .clash) 0).inRun = true ∧ (stands (.cutOff .clash) 0).trunk.standing = .cutOff .clash ∧
    (stands .silenced 0).trunk.standing = .silenced ∧
    (∀ st ∈ [Standing.normal, .warned, .quiet], (stands st 0).trunk.standing = st) ∧
    (stands (.cutOff .score) 200).trunk.standing = .cutOff .score ∧
    (∀ tx ∈ [0, 39, 40, 99, 100, 199, 200], (stands .silenced tx).trunk.txScore = tx) ∧
    (stands (.cutOff .score) 200).trunk.cutoffHold = some 1000000 ∧
    1000000 ≤ (stands (.cutOff .score) 200).elapsed ∧
    (stands .silenced 5).trunk.tx = .idle := by decide

/-- The part with its gate and its pump in FAULT, and the recognised levels of three contacts. -/
def faulted (o c r : Bool) : State := { running with
  tank.gate := some .fault, drain.pump := some .fault
  input.digital := { running.input.digital with
    gateOpenLimit := { running.input.digital.gateOpenLimit with recognised := some o }
    gateClosedLimit := { running.input.digital.gateClosedLimit with recognised := some c }
    pumpRunning := { running.input.digital.pumpRunning with recognised := some r } } }

/-- The part in RUN with a gate state, direction and target, the tank admitting or holding. -/
def gated (g : GateState) (dir : Option GateDir) (target : GateDir) : State := { running with
  tank := { running.tank with gate := some g, gateDir := dir, target := some target } }

theorem test_meets_GateModeMovesTheGate :
    2 < (3 : Byte).toNat ∧ [GateMode.auto, .forceOpen, .forceClosed][(2 : Byte).toNat]? = some .forceClosed ∧
    [GateMode.auto, .forceOpen, .forceClosed][(1 : Byte).toNat]? = some .forceOpen ∧
    [GateMode.auto, .forceOpen, .forceClosed][(0 : Byte).toNat]? = some .auto ∧ base.inRun = false ∧
    running.inRun = true ∧ running.tank.state ≠ .off ∧ running.tank.gate = some .closed ∧
    running.tank.target = some .toClose ∧ running.asserted .gateOpenLimit = false ∧
    ({ running with tank.gate := some .fault } : State).tank.gate = some .fault ∧
    (GateDir.toClose, GateDir.toOpen) ∈ [(GateDir.toOpen, GateDir.toClose), (.toClose, .toOpen)] ∧
    (∀ x ∈ [(GateState.opened, none), (.stopped, none), (.opening, some GateDir.toOpen), (.retryWait, some .toOpen),
        (.reversing, some .toOpen)],
      (gated x.1 x.2 .toOpen).tank.target ≠ some .toClose ∧ (gated x.1 x.2 .toOpen).tank.gate = some x.1 ∧
      (gated x.1 x.2 .toOpen).tank.gateDir = x.2) ∧
    GateDir.toOpen.atLimit = .opened ∧ GateDir.toOpen.moving = .opening ∧
    (gated .opened none .toOpen).asserted GateDir.toClose.limit = true ∧
    (faulted true false false).asserted GateDir.toClose.limit = false ∧
    (ran (.gateMode 0) (gated .opened none .toOpen)).tank.state = (gated .opened none .toOpen).tank.state ∧
    (gated .closed none .toClose).tank.target = some .toClose ∧
    (gated .retryWait (some .toClose) .toOpen).tank.gateDir = some .toClose := by decide

theorem test_meets_DrainModeActs :
    1 < (2 : Byte).toNat ∧ [DrainMode.auto, .hold][(1 : Byte).toNat]? = some .hold ∧
    [DrainMode.auto, .hold][(0 : Byte).toNat]? = some .auto ∧ running.drain.mode = .auto ∧ base.inRun = false ∧
    running.inRun = true ∧ DrainMode.hold ≠ running.drain.mode ∧
    ({ running with tank.state := .draining } : State).tank.state = .draining ∧
    ({ running with drain.mode := .hold, input.gauges.tank.status := .good } : State).tankGauge.status ≠ .failed ∧
    running.tank.state = .holding ∧
    (ran (.drainMode 0) { running with drain.mode := .hold, input.gauges.tank.status := .good }).tank.state = .holding := by
  decide

theorem test_meets_ClearFaultClears :
    running.inRun = true ∧ running.tank.gate ≠ some .fault ∧ running.drain.pump ≠ some .fault ∧
    (faulted true true true).tank.gate = some .fault ∧ (faulted true true true).asserted .gateOpenLimit = true ∧
    (faulted true true true).asserted .gateClosedLimit = true ∧
    ¬ ((faulted true false false).asserted .gateOpenLimit = true ∧ (faulted true false false).asserted .gateClosedLimit = true) ∧
    ¬ ((faulted true true true).drain.pump = some .fault ∧ (faulted true true true).asserted .pumpRunning = false) ∧
    (faulted true true false).drain.pump = some .fault ∧ (faulted true true false).asserted .pumpRunning = false := by decide

/-- The part with one record of two slots in its log and one pending. -/
def logged : State := { base with
  counter := { base.counter with
    log := base.counter.log.writeRecord ⟨6, 5, 6, 7, 8, 9, .clear, noFlags, [⟨1, 2, 3, 4⟩]⟩
    pendingRecords := [⟨7, 5, 6, 7, 8, 9, .clear, noFlags, [⟨1, 2, 3, 4⟩]⟩] } }

/-- A record of two slots, and one of fifty, which never fits. -/
def record0 (n : Nat) : SpillRecord := ⟨n, 5, 6, 7, 8, 9, .clear, noFlags, [⟨1, 2, 3, 4⟩]⟩
def longRecord : SpillRecord := ⟨8, 5, 6, 7, 8, 9, .clear, noFlags, List.replicate 145 ⟨1, 2, 3, 4⟩⟩

theorem test_logged_ring_holds_its_record : ringHolds logged.counter.log [record0 6] := by
  refine ⟨by decide, by decide, by decide, fun before r after h => ?_⟩
  match before, h with
  | [], h =>
    simp only [List.nil_append, List.cons.injEq] at h
    rw [← h.1]
    unfold standsAt
    decide +kernel
  | _ :: _, h => simp at h

theorem test_meets_ReleaseRecordFreesSlots :
    base.counter.log.owners.count .log = 48 ∧
    (logged.counter.log.owners.length = 48 ∧ logged.counter.log.readPos < 48 ∧ logged.counter.log.writePos < 48 ∧
      Memory.wf logged.counter.log.content = true ∧ ∀ c ∈ logged.counter.log.content, c.1 < 48 * 32) ∧
    2 = (Memory.read logged.counter.log.content (32 * logged.counter.log.readPos + 1)).toNat ∧
    logged.counter.log.owners.count .log ≠ 48 ∧
    natOf ((List.range 4).map fun i => Memory.read logged.counter.log.content (32 * logged.counter.log.readPos + 2 + i)) = 6 ∧
    ({ logged with counter.pendingRecords := [] } : State).counter.pendingRecords = [] ∧
    logged.counter.pendingRecords = [record0 7] ∧
    slotCount (record0 7) ≤ (logged.counter.log.freeSlots logged.counter.log.readPos 2).free ∧
    ({ logged with counter.pendingRecords := [record0 7, longRecord] } : State).counter.pendingRecords =
      [record0 7] ++ [longRecord] ∧
    (logged.counter.log.freeSlots logged.counter.log.readPos 2).owners.length = 48 ∧
    (∀ i, i < 48 → (logged.counter.log.freeSlots logged.counter.log.readPos 2).owners[i]? =
      if (i + 48 - logged.counter.log.readPos) % 48 < 2 then some .log else logged.counter.log.owners[i]?) ∧
    slotsOf [record0 7] ≤ (logged.counter.log.freeSlots logged.counter.log.readPos 2).owners.count .log ∧
    (logged.counter.log.freeSlots logged.counter.log.readPos 2).owners.count .log <
      slotsOf [record0 7] + slotCount longRecord := by decide +kernel

/-- The part in RUN with the line busy, its last activity an idle gap ago. -/
def busy (rx : Receiver) (tx : TxState) : State := { running with
  trunk := { running.trunk with rx := rx, tx := tx, txUntil := some 1000000, lastActivity := 999998 } }

theorem test_meets_LineFreeAndBackoffLetTheTransmitterGoOn :
    (busy .discard .waitLine).inRun = true ∧ (busy .discard .waitLine).trunk.lineFree = false ∧
    (busy .discard .waitLine).trunk.attempt = none ∧ 999998 + 2 ≤ (busy .discard .waitLine).elapsed ∧
    (busy .discard .waitLine).trunk.lastActivity = 999998 ∧
    (busy (.frame ⟨[1], 5, false, false⟩) .idle).trunk.rx = .frame ⟨[1], 5, false, false⟩ ∧
    (busy .off .backoff).trunk.tx = .backoff ∧ (ran .lineFree (busy .off .backoff)).trunk.standing.silent = false ∧
    (busy .discard .waitLine).trunk.tx = .waitLine ∧
    (busy .off .backoff).trunk.txUntil = some 1000000 ∧ 1000000 ≤ (busy .off .backoff).elapsed ∧
    (busy .off .backoff).trunk.firstEligible = none ∧
    ({ busy .off .backoff with trunk.slots.rain := .waiting .presence 0 } : State).trunk.firstEligible ≠ none := by decide

/-- The part at the end of a deferral with a slot of each kind waiting, in a standing. -/
def deferring (st : Standing) : State := { busy .listen .defer with
  trunk.standing := st
  trunk.slots := ⟨.waiting (.claim ⟨0, 0, 0, 1, 0, 10⟩) 11, .waiting (.rain ⟨1, 0, 0, 0⟩) 0, .empty, .waiting .presence 2⟩ }

theorem test_meets_DeferralEndBeginsAttempt :
    (deferring .quiet).trunk.tx = .defer ∧ (deferring .quiet).trunk.txUntil = some 1000000 ∧
    1000000 ≤ (deferring .quiet).elapsed ∧ (deferring .quiet).trunk.firstEligible = some .rain ∧
    (deferring .quiet).trunk.slots.get .rain = .waiting (.rain ⟨1, 0, 0, 0⟩) 0 ∧
    (deferring .silenced).trunk.firstEligible = none := by decide

/-- The part sending a RAIN for the n-th time, with or without its echo. -/
def driving (n : Nat) (echo : Option (List Byte)) : State := { running with trunk := { running.trunk with
  tx := .send, txScore := 190, slots.rain := .sending (.rain ⟨1, 0, 0, 0⟩) n none
  attempt := some ⟨.rain, .rain ⟨1, 0, 0, 0⟩, [1, 2, 3], 5, echo, false, 999000⟩ } }

/-- The part with an attempt in flight that a restart has disregarded. -/
def disregarding (phase : RunState) (waiting free : Bool) : State := { driving 0 none with
  port.run := phase
  trunk := { (driving 0 none).trunk with
    slots := ⟨.empty, if waiting then .waiting (.rain ⟨1, 0, 0, 0⟩) 0 else .empty, .empty, .empty⟩, lineFree := free
    attempt := some ⟨.rain, .rain ⟨1, 0, 0, 0⟩, [1, 2, 3], 5, none, true, 999000⟩ } }

theorem test_meets_CollisionEndsAttempt :
    running.inRun = true ∧ running.trunk.attempt = none ∧ base.inRun = false ∧ base.trunk.attempt = none ∧
    (∀ phase ∈ [RunState.config, .run],
      (disregarding phase true false).trunk.attempt = some ⟨.rain, .rain ⟨1, 0, 0, 0⟩, [1, 2, 3], 5, none, true, 999000⟩ ∧
      (disregarding phase true false).trunk.firstEligible ≠ none ∧ (disregarding phase false false).trunk.firstEligible = none) ∧
    (disregarding .config true false).inRun = false ∧ (disregarding .run true false).inRun = true ∧
    ∀ n ∈ [0, 10, 11],
      (driving n none).trunk.attempt = some ⟨.rain, .rain ⟨1, 0, 0, 0⟩, [1, 2, 3], 5, none, false, 999000⟩ ∧
      (driving n none).trunk.slots.get .rain = .sending (.rain ⟨1, 0, 0, 0⟩) n none ∧
      (driving n none).trunk.txScore ≤ 200 ∧ (driving n none).trunk.standing.silent = false ∧
      (stands (.cutOff .score) 200).trunk.standing.silent = true ∧
      (ran (.collision 6) (driving n none)).trunk.txScore ≠ (driving n none).trunk.txScore := by decide

theorem test_meets_LastByteEndsAttempt :
    (∀ e ∈ [none, some [1, 2, 3]],
      (driving 0 e).trunk.attempt = some ⟨.rain, .rain ⟨1, 0, 0, 0⟩, [1, 2, 3], 5, e, false, 999000⟩ ∧
      (driving 0 e).trunk.slots.get .rain = .sending (.rain ⟨1, 0, 0, 0⟩) 0 none ∧ (driving 0 e).trunk.txScore ≤ 200) ∧
    999000 + ([1, 2, 3] : List Byte).length * 25 / 48 ≤ (driving 0 none).elapsed ∧
    ({ driving 0 none with elapsed := 999000 } : State).elapsed < 999000 + ([1, 2, 3] : List Byte).length * 25 / 48 ∧
    (Body.rain ⟨1, 0, 0, 0⟩).kind = .rain ∧ (none : Option (List Byte)) ≠ some [1, 2, 3] ∧
    (ran .lastByteDriven (driving 0 (some [1, 2, 3]))).trunk.firstEligible = none ∧
    (ran .lastByteDriven { driving 0 (some [1, 2, 3]) with
      trunk := { (driving 0 (some [1, 2, 3])).trunk with
        slots := ⟨.empty, .sending (.rain ⟨1, 0, 0, 0⟩) 0 (some (.rain ⟨2, 0, 0, 0⟩)), .empty, .empty⟩ } }).trunk.firstEligible ≠
      none ∧
    (disregarding .run true true).trunk.lineFree = true ∧ (disregarding .run true false).trunk.lineFree = false := by decide

/-- A PRESENCE of station 3.7 and one of the own station, 3.4, and the part with all of one but its last byte gathered. -/
def heard : List Byte := composeBulletin .presence 0x0307 .settled false 500000000
def clashing : List Byte := composeBulletin .presence 0x0304 .settled false 500000000
def gathered (bs : List Byte) (echo : Bool) : State := { running with trunk.rx := .frame ⟨bs.dropLast, 5, echo, false⟩ }

theorem test_meets_BytesAreGathered :
    running.inRun = true ∧ (busy .discard .idle).trunk.rx = .discard ∧ running.trunk.rx = .listen ∧
    (gathered heard false).trunk.rx = .frame ⟨heard.dropLast, 5, false, false⟩ ∧
    heard = heard.dropLast ++ [heard.getLastD 0] ∧ (heard.take 3).length < 4 ∧
    ((heard.take 4).length = 4 ∧ headerGood (heard.take 4) = true ∧ byteAt (heard.take 4) 2 ≠ 4) ∧
    (4 < (heard.take 5).length ∧ (heard.take 5).length ≠ byteAt (heard.take 5) 2) ∧
    (([0x7E, 0xA5, 14, 0x50] : List Byte).length = 4 ∧ headerGood [0x7E, 0xA5, 14, 0x50] = false) ∧
    (heard.length = byteAt heard 2 ∧ bulletinGood heard = true) ∧ bulletinGood (heard.set 13 0x55) = false ∧
    (heard.set 13 0x55).length = byteAt (heard.set 13 0x55) 2 ∧
    (parseBulletin clashing).sender = (gathered clashing false).ownAddress ∧ bulletinGood clashing = true := by decide +kernel

/-- The part with an acceptance table that takes everything from branch 3 by entry 1. -/
def accepting : State := { running with
  port.committed := { running.port.committed with
    accept := { factoryItems.accept with e1 := ⟨0x0300, 0xFF00, ⟨true, true, true, true⟩⟩ } }
  trunk.rx := .frame ⟨heard.dropLast, 5, false, false⟩ }

/-- A table of 24 entries, at the addresses 4.1 to 4.24. -/
def fullTable (c : Option ClaimPart) : List PeerEntry :=
  (List.range 24).map fun i => ⟨BitVec.ofNat 16 (0x0401 + i), 0, 5, 6, .settled, false, c, none, 900000⟩

theorem test_meets_GoodBulletinsAreTaken :
    accepting.inRun = true ∧ heard = heard.dropLast ++ [heard.getLastD 0] ∧ 4 < heard.length ∧
    heard.length = byteAt heard 2 ∧ bulletinGood heard = true ∧ (parseBulletin heard).sender = 0x0307 ∧
    (0x0307 : Addr) ≠ accepting.ownAddress ∧
    (∀ i < 4, (running.cfg.accept.get i).uses = ⟨false, false, false, false⟩) ∧
    (accepting.cfg.accept.get 1).uses = ⟨true, true, true, true⟩ ∧
    (0x0307 : Addr) &&& (accepting.cfg.accept.get 1).mask =
      (accepting.cfg.accept.get 1).value &&& (accepting.cfg.accept.get 1).mask ∧
    (∀ i < 1, (accepting.cfg.accept.get i).uses = ⟨false, false, false, false⟩) ∧
    (∃ e ∈ accepting.peers.entries, e.address = 0x0307) ∧
    (∀ e ∈ ([] : List PeerEntry), e.address ≠ 0x0307) ∧ ([] : List PeerEntry).length < 24 ∧
    (∀ e ∈ fullTable none, e.address ≠ 0x0307) ∧ (fullTable none).length = 24 ∧
    (∃ e ∈ fullTable none, e.claim = none ∧ e.rain = none) ∧
    (∀ e ∈ fullTable (some ⟨1, 1, 1, 1, false, 10, 5, true⟩), e.claim ≠ none ∨ e.rain ≠ none) := by decide +kernel

theorem test_tables_are_peer_tables :
    PeersOk accepting ∧ PeersOk { accepting with peers.entries := fullTable none } ∧
    PeersOk { accepting with peers.entries := fullTable (some ⟨1, 1, 1, 1, false, 10, 5, true⟩) } := by
  refine ⟨⟨by decide, by simp [accepting, running], by decide⟩, ⟨by decide, ?_, by decide⟩, ⟨by decide, ?_, by decide⟩⟩ <;>
    exact List.pairwise_map.mpr (by decide)

/-- A sample from an anchored and one from a settled sender, and the part with a clock state and a preference. -/
def sampleOf (c : ClockState) (t : Nat) (late : Bool) : TimeSample := ⟨0x0307, c, t, 500000000, late⟩
def clocked (c : ClockState) (p : Option Nat) : State :=
  { running with time := { running.time with clock := c, anchorPref := p } }

theorem test_meets_TimeSamplesSetTheClock :
    ((500005000 : Nat) : Int) + (running.cfg.lineDelay : Int) - ((500000000 : Nat) : Int) = 5002 ∧
    (sampleOf .unset 5 false).clock = .unset ∧ (sampleOf .following 5 false).clock = .following ∧
    (clocked .anchored none).time.clock = .anchored ∧ (sampleOf .settled 5 true).stepped = true ∧
    (sampleOf .settled 5 false).clock = .settled ∧
    ((clocked .settled (some 940001)).time.anchorPref = some 940001 ∧ running.elapsed < 940001 + 60000) ∧
    (clocked .settled (some 939999)).time.clock ≠ .anchored ∧ running.cfg.anchor = false ∧
    (sampleOf .settled 5 false).stepped = false ∧ 939999 + 60000 < running.elapsed ∧
    (sampleOf .anchored 5 false).clock = .anchored ∧ (clocked .unset none).time.clock = .unset ∧
    running.cfg.stepLimit < (5001 : Int).natAbs ∧ (5000 : Int).natAbs ≤ running.cfg.stepLimit := by decide

theorem test_meets_ComposedBulletinReadsBack :
    (65535 < 65536 ∧ 255 < 256) ∧ stationOf 0x0301 ≠ 0 ∧ stationOf 0x03FE ≠ 255 ∧ 2 ^ 48 - 1 ≤ maxTime := by decide

theorem test_meets_TimersQueueBulletins :
    ({ running with trunk.presence := some 1000000 } : State).trunk.presence = some 1000000 ∧ 1000000 ≤ running.elapsed ∧
    ({ running with drain.claimTarget := some 500000000 } : State).drain.claimTarget = some 500000000 ∧
    500000000 ≤ running.time.t ∧ 0 < running.cfg.claimPeriod ∧
    1000 = stationOf running.ownAddress * running.cfg.claimSpacing % (1000 * running.cfg.claimPeriod) := by decide

/-- The part with one peer, its claim part arrived `age` ms ago and its rain part `rage` ms ago. -/
def aged (age rage : Nat) : State := { running with elapsed := 2000000, peers.entries := [⟨0x0307, 0, 5, 6, .settled, false,
  some ⟨250, 80, 450, 1, false, 10, 2000000 - age, true⟩, some ⟨.warning, 200, 100, 3, 2000000 - rage⟩, 1800000⟩] }

theorem test_aged_is_a_peer_table : PeersOk (aged 22001 1200000) :=
  ⟨by decide, List.pairwise_singleton .., by decide⟩

theorem test_meets_ClaimPartsAge :
    (∀ age ∈ [22001, 60001], ∃ e ∈ (aged age 5).peers.entries, e.address = 0x0307 ∧
      e.claim = some ⟨250, 80, 450, 1, false, 10, 2000000 - age, true⟩) ∧
    2000000 - 22001 + 1000 * (2 * 10 + 2) < (aged 22001 5).elapsed ∧
    (aged 22000 5).elapsed ≤ 2000000 - 22000 + 1000 * (2 * 10 + 2) ∧
    2000000 - 60001 + 6000 * 10 < (aged 60001 5).elapsed ∧ (aged 60000 5).elapsed ≤ 2000000 - 60000 + 6000 * 10 := by decide

theorem test_meets_RainPartsAndLimitExpire :
    (∃ e ∈ (aged 5 1200000).peers.entries, e.rain = some ⟨.warning, 200, 100, 3, 800000⟩) ∧
    800000 + 60000 * (aged 5 1200000).cfg.rainLifetime ≤ (aged 5 1200000).elapsed ∧
    ({ running with peers.limit := some ⟨1200, 10, 0x0307, ⟨990000, 5⟩, true⟩ } : State).peers.limit =
      some ⟨1200, 10, 0x0307, ⟨990000, 5⟩, true⟩ ∧ 990000 + 1000 * 10 ≤ running.elapsed := by decide

/-- The part in RUN with an open event, a sample due, and a spill state that the Spill Counter has taken. -/
def sampling (st : SpillState) : State := { counting with
  input := { running.input with nextSample := some 1000000 }
  spill := { running.spill with state := st, onset := some ⟨900000, 7⟩, floatCond := false }
  counter := { counting.counter with spill := st } }

theorem test_meets_SampleConvertsGauges :
    ([⟨0, 0⟩, ⟨500, 1000⟩] : List Point).IsChain (fun p q => p.x < q.x ∧ p.y ≤ q.y) ∧
    ([⟨0, 0⟩, ⟨500, 1000⟩] : List Point) = [] ++ ⟨0, 0⟩ :: ⟨500, 1000⟩ :: [] ∧
    (sampling .clear).input.nextSample = some 1000000 ∧ 1000000 ≤ (sampling .clear).elapsed ∧
    (600 ≤ (600 : BitVec 12).toNat ∧ (3800 : BitVec 12).toNat ≤ 3800) ∧
    ¬ 600 ≤ (599 : BitVec 12).toNat ∧ ¬ (3801 : BitVec 12).toNat ≤ 3800 ∧
    ({ running with input.gauges.tank.run := 2 } : State).input.gauges.tank.run = 2 ∧
    (ran (.sample ⟨1000, 1000, 0⟩) (sampling .clear)).input.gauges.tank.status ≠ .failed ∧
    (ran (.sample ⟨1000, 0, 0⟩) (sampling .clear)).input.gauges.tank.status = .failed ∧
    (ran (.sample ⟨1000, 0, 0⟩) (sampling .clear)).input.gauges.overflow.status = .failed ∧
    (∀ n ∈ [2521, 2840, 2841, 3800],
      running.cfg.crest < (ran (.sample ⟨1000, 1000, n⟩) (sampling .clear)).input.gauges.overflow.level) ∧
    lastX running.cfg.weir < (ran (.sample ⟨1000, 1000, 2841⟩) (sampling .clear)).input.gauges.overflow.level -
      running.cfg.crest ∧
    (ran (.sample ⟨1000, 1000, 2840⟩) (sampling .clear)).input.gauges.overflow.level - running.cfg.crest ≤
      lastX running.cfg.weir ∧
    (∀ x ∈ [(SpillState.clear, false, SpillState.clear), (.clear, true, .onset), (.onset, true, .onset),
        (.onset, false, .clear), (.spilling, true, .spilling), (.spilling, false, .subsiding), (.subsiding, true, .spilling),
        (.subsiding, false, .subsiding)],
      (spillAfter (sampling x.1) x.2.1 ⟨1000000, 500000000⟩ (sampling x.1).spill).state = x.2.2 ∧
      (x.2.2 ≠ .clear →
        (spillAfter (sampling x.1) x.2.1 ⟨1000000, 500000000⟩ (sampling x.1).spill).onset.isSome = true) ∧
      (sampling x.1).counter.spill = (sampling x.1).spill.state) ∧
    (∀ x ∈ [(SpillState.clear, false), (.clear, true), (.onset, true), (.onset, false), (.spilling, true), (.spilling, false),
        (.subsiding, false)],
      (ran (.sample ⟨1000, 1000, if x.2 then 3800 else 600⟩) (sampling x.1)).spill.levelCond = x.2) ∧
    (sampling .spilling).counter.event = some openEvent0 ∧ (sampling .spilling).counter.current = some block0 ∧
    ({ sampling .onset with counter.event := none } : State).counter.event = none := by
  refine ⟨by simp, rfl, ?_⟩
  decide +kernel

/-- The part in RUN with the recognised levels of three contacts, and a candidate level of each that has held. -/
def edging (o c r level : Bool) (s : State) : State := { s with
  input.digital := {
    rainTip := ⟨level, some (!level), some ⟨level, ⟨999000, 5⟩⟩, ⟨false, false, 0⟩, ⟨false, false, 0⟩⟩
    gateOpenLimit := ⟨level, some o, some ⟨level, ⟨999000, 5⟩⟩, ⟨false, false, 0⟩, ⟨false, false, 0⟩⟩
    gateClosedLimit := ⟨level, some c, some ⟨level, ⟨999000, 5⟩⟩, ⟨false, false, 0⟩, ⟨false, false, 0⟩⟩
    spillFloat := ⟨level, some (!level), some ⟨level, ⟨999000, 5⟩⟩, ⟨false, false, 0⟩, ⟨false, false, 0⟩⟩
    pumpRunning := ⟨level, some r, some ⟨level, ⟨999000, 5⟩⟩, ⟨false, false, 0⟩, ⟨false, false, 0⟩⟩ } }

theorem test_meets_ContactsAreFiltered :
    (∀ i ∈ [DigitalIn.rainTip, .gateOpenLimit, .gateClosedLimit, .spillFloat, .pumpRunning], ∀ level ∈ [true, false],
      ((edging false true false level running).input.digital.get i).candidate = some ⟨level, ⟨999000, 5⟩⟩ ∧
      999000 + running.cfg.filter.get i ≤ running.elapsed) ∧
    running.cfg.capture.rainTip.rising = .continuous ∧ DigitalIn.rainTip ≠ .pumpRunning ∧
    ((DigitalIn.gateOpenLimit, GateDir.toOpen) ∈
      [(DigitalIn.gateOpenLimit, GateDir.toOpen), (.gateClosedLimit, .toClose)]) ∧
    (running.tank.gate ≠ some .fault ∧
      (ran (.filterExpiry .gateOpenLimit) (edging false true false true running)).asserted .gateOpenLimit = true ∧
      (ran (.filterExpiry .gateOpenLimit) (edging false true false true running)).asserted .gateClosedLimit = true) ∧
    (faulted false false false).tank.gate = some .fault ∧
    ¬ ((ran (.filterExpiry .gateOpenLimit) (edging false false false true running)).asserted .gateOpenLimit = true ∧
      (ran (.filterExpiry .gateOpenLimit) (edging false false false true running)).asserted .gateClosedLimit = true) ∧
    (gated .opening none .toOpen).tank.gate = some GateDir.toOpen.moving ∧
    (gated .retryWait (some .toOpen) .toOpen).tank.gate = some .retryWait ∧
    (gated .retryWait (some .toOpen) .toOpen).tank.gateDir = some .toOpen ∧
    (gated .opened none .toOpen).tank.gate = some GateDir.toOpen.atLimit ∧
    ({ running with spill.stateInstant := some ⟨999001, 6⟩ } : State).spill.stateInstant = some ⟨999001, 6⟩ ∧ 999000 < 999001 ∧
    ({ running with spill.levelInstant := some ⟨999002, 7⟩ } : State).spill.levelInstant = some ⟨999002, 7⟩ ∧
    (ran (.filterExpiry .spillFloat) (edging false true false true running)).spill.state ≠ running.spill.state ∧
    (∀ p ∈ [PumpState.stopped, .starting, .running, .stopping, .fault],
      ({ running with drain.pump := some p } : State).drain.pump = some p) ∧
    base.drain.pump = none := by decide +kernel

theorem test_meets_TipsAndMinutesAreCounted :
    ({ running with rain.lastTip := some ⟨999000, 5⟩ } : State).rain.lastTip = some ⟨999000, 5⟩ ∧
    1000999 < 999000 + 1000 * running.cfg.tipMinSpacing ∧ 999000 + 1000 * running.cfg.tipMinSpacing ≤ 1001000 ∧
    ({ running with rain.bins := [7, 255] } : State).rain.bins = [7] ++ [255] ∧ running.rain.lastTip = none ∧
    ({ running with rain.nextMinute := some 1000000 } : State).rain.nextMinute = some 1000000 ∧
    1000000 ≤ running.elapsed ∧
    running.rain.own.code <
      (rainTakesEdge true ⟨1000000, 5⟩ { running with rain.bins := [7, 255] }).rain.targetLevel.code ∧
    (rainTakesEdge true ⟨1000000, 5⟩ { running with rain.bins := [7, 255] }).rain.branch ≠ running.rain.branch ∧
    ¬ running.rain.own.code < (rainTakesEdge true ⟨1000000, 5⟩ running).rain.targetLevel.code := by decide +kernel

theorem test_meets_AlertsFallAndRepeat :
    ({ running with rain.hold := some 1000000, rain.own := .severe, rain.short := 399 } : State).rain.hold = some 1000000 ∧
    1000000 ≤ running.elapsed ∧
    (AlertLevel.severe, AlertLevel.warning) ∈ [(AlertLevel.severe, AlertLevel.warning), (.warning, .watch), (.watch, .clear)] ∧
    399 < running.cfg.tSevere ∧ ¬ (running.cfg.tWatch ≤ running.rain.long ∨ running.spill.state = .spilling) ∧
    ¬ running.cfg.tWarn ≤ running.rain.short ∧
    ({ running with rain.rainRepeat := some 1000000 } : State).rain.rainRepeat = some 1000000 := by decide

/-- The part in RUN where draining is permitted, with a share and a pump state. -/
def permitted (st : TankState) (share : Nat) (p : PumpState) : State := { running with
  tank.state := st
  input.gauges := ⟨⟨100, .good, 0, true, 700, none⟩, ⟨100, .good, 0, true, 700, none⟩, running.input.gauges.overflow⟩
  drain := { running.drain with
    pump := some p, restElapsed := true, share := share, claim.requested := 100, setpoint := 50 }
  port.committed := { running.port.committed with fallbackCapacity := 1000 } }

theorem test_meets_TankTransitions :
    tankDecides false false { running with rain.branch := .warning } = some .admitting ∧
    tankDecides false false running = none ∧
    ({ running with rain.branch := .warning } : State).rain.branch = .warning ∧
    ¬ (running.sewer.status ≠ .failed ∧ running.cfg.admitLevel ≤ running.sewer.level) ∧
    running.tank.state = .holding ∧
    ((permitted .holding 20 .stopped).drain.pump = some .stopped ∧ (permitted .holding 20 .stopped).cfg.pumpMin = 20 ∧
      (permitted .holding 20 .stopped).drain.share = 20 ∧ (permitted .holding 19 .stopped).drain.share = 19) ∧
    (∀ p ∈ [PumpState.starting, .running],
      (permitted .draining 20 p).drain.pump ∈ [some .starting, some .running] ∧
      (permitted .draining 20 p).tank.state = .draining) ∧
    (permitted .draining 20 .stopping).drain.pump ∉ [some .starting, some .running] ∧
    ((permitted .draining 49 .running).drain.share < (permitted .draining 49 .running).drain.setpoint ∧
      (permitted .draining 70 .running).drain.setpoint + running.cfg.setpointDeadband ≤ 70 ∧
      ¬ (permitted .draining 69 .running).drain.setpoint + running.cfg.setpointDeadband ≤ 69) ∧
    (tankDecides false false (permitted .draining 19 .running) = some .holding ∧
      tankDecides false false (permitted .draining 19 .stopping) = some .holding) ∧
    (tankDecides false false (permitted .holding 20 .stopped) = some .draining ∧
      1 ≤ (permitted .holding 20 .stopped).cfg.pumpMin ∧ (permitted .holding 20 .stopped).tank.mode = .auto ∧
      (permitted .holding 20 .stopped).tank.target = some .toClose ∧
      20 ≤ (tankEvaluate false (permitted .holding 20 .stopped)).drain.share ∧
      (tankEvaluate false (permitted .holding 20 .stopped)).tank.state = .draining) := by decide +kernel

theorem test_meets_ReleaseTimerEndsAdmitting :
    ({ running with tank.releaseTimer := some 1000000, tank.state := .admitting } : State).tank.releaseTimer = some 1000000 ∧
    1000000 ≤ running.elapsed ∧ ({ running with tank.state := .admitting } : State).tank.state = .admitting ∧
    ¬ ((running.sewer.status ≠ .failed ∧ running.cfg.admitLevel ≤ running.sewer.level) ∨
      running.rain.branch = .warning ∨ running.rain.branch = .severe) ∧
    running.tank.mode = .auto ∧
    ({ running with tank.gate := some .opened, tank.target := some .toOpen } : State).tank.gate = some .opened ∧
    ({ running with tank.target := some .toOpen } : State).tank.target = some .toOpen ∧
    (faulted true false false).asserted .gateClosedLimit = false := by decide

theorem test_meets_GateTimersMoveTheGate :
    (∀ d ∈ [GateDir.toOpen, .toClose],
      ({ running with tank.gate := some d.moving } : State).tank.gate = some d.moving) ∧
    ({ running with tank.gateTimer := some 1000000 } : State).tank.gateTimer = some 1000000 ∧ 1000000 ≤ running.elapsed ∧
    running.tank.retries < running.cfg.gateRetries ∧
    ({ running with tank.retries := 2 } : State).cfg.gateRetries ≤ 2 ∧
    ({ running with tank.gate := some .retryWait } : State).tank.gate = some .retryWait ∧
    ({ running with tank.gate := some .reversing } : State).tank.gate = some .reversing ∧
    ({ running with tank.gateDir := some .toOpen } : State).tank.gateDir = some .toOpen ∧
    running.asserted GateDir.toClose.limit = true ∧ running.asserted GateDir.toOpen.limit = false := by decide

/-- The part in a spell, its debounce due. -/
def inSpell (st : SpillState) : State := { running with
  spill := { running.spill with
    state := st, debounce := some 1000000, onset := some ⟨900000, 7⟩, subsiding := some ⟨950000, 8⟩ }
  counter := { running.counter with spill := st } }

/-- A deferred block, the current block after it, and the part in a spell with an event of n entries open. -/
def deferred0 (c : Bool) : Block := ⟨2, ⟨400000, 400000⟩, 950000, c, 5000, 20⟩
def block1 : Block := ⟨3, ⟨950000, 500⟩, 5000000, false, 0, 0⟩
def spelling (n : Nat) (d : Option Block) : State := { inSpell .onset with
  counter := { (inSpell .onset).counter with
    event := some { openEvent0 with entries := List.replicate n ⟨1, 2, 3, 4⟩ }, current := some block1, deferred := d
    pendingRecords := [⟨6, 5, 6, 7, 8, 9, .clear, noFlags, []⟩] } }

theorem test_meets_DebouncesConfirmAndEndSpills :
    ((inSpell .onset).spill.state = .onset ∧ (inSpell .onset).spill.debounce = some 1000000 ∧
      1000000 ≤ (inSpell .onset).elapsed ∧ (inSpell .onset).spill.onset = some ⟨900000, 7⟩ ∧
      (inSpell .onset).counter.spill = .onset ∧ (inSpell .onset).counter.event = none) ∧
    (inSpell .subsiding).spill.state = .subsiding ∧ (inSpell .subsiding).spill.debounce = some 1000000 ∧
    ({ inSpell .subsiding with counter := { counting.counter with spill := .subsiding } } : State).counter.event =
      some openEvent0 ∧
    ({ inSpell .subsiding with counter := { counting.counter with spill := .subsiding } } : State).counter.current =
      some block0 ∧
    ({ inSpell .subsiding with counter := { counting.counter with spill := .subsiding } } : State).counter.spillSince =
      some 500000 ∧ (inSpell .subsiding).spill.subsiding = some ⟨950000, 8⟩ ∧
    (∀ n ∈ [0, 58, 59], ∀ d ∈ [none, some (deferred0 true), some (deferred0 false)],
      (spelling n d).spill.state = .onset ∧ (spelling n d).spill.debounce = some 1000000 ∧
      (spelling n d).spill.onset = some ⟨900000, 7⟩ ∧ (spelling n d).counter.spill = .onset ∧
      (spelling n d).counter.event = some { openEvent0 with entries := List.replicate n ⟨1, 2, 3, 4⟩ } ∧
      (spelling n d).counter.current = some block1 ∧ (spelling n d).counter.deferred = d ∧
      (spelling n d).counter.pendingRecords.length = 1 ∧
      ({ spelling n d with spill.state := .clear } : State).spill.state = .clear) ∧
    (List.replicate 58 (⟨1, 2, 3, 4⟩ : BlockEntry)).length < 59 ∧
    (List.replicate 59 (⟨1, 2, 3, 4⟩ : BlockEntry)).length = 59 ∧ (deferred0 true).containsSpill = true ∧
    (deferred0 false).containsSpill = false := by decide

/-- The part with a block at its nominal end that gives the 60th entry. -/
def splitting (st : SpillState) : State := { interrupted st true with
  spill.subsiding := some ⟨950000, 8⟩
  counter.event := some { openEvent0 with entries := List.replicate 59 ⟨1, 2, 3, 4⟩ }
  counter.pendingRecords := [⟨6, 5, 6, 7, 8, 9, .clear, noFlags, []⟩] }

theorem test_meets_BlocksEndAtTheirNominalEnd :
    (∀ st ∈ [SpillState.spilling, .subsiding, .clear],
      (splitting st).counter.event = some { openEvent0 with entries := List.replicate 59 ⟨1, 2, 3, 4⟩ } ∧
      (splitting st).counter.current = some block0 ∧ block0.nominalEnd ≤ (splitting st).elapsed ∧
      (List.replicate 59 (⟨1, 2, 3, 4⟩ : BlockEntry)).length = 59 ∧ (splitting st).counter.pendingRecords.length = 1 ∧
      (splitting st).counter.spillSince = some 500000 ∧ (splitting st).counter.spill = st ∧
      (splitting st).spill.subsiding = some ⟨950000, 8⟩) ∧
    counting.counter.event = some openEvent0 ∧ counting.counter.current = some block0 ∧
    block0.nominalEnd ≤ counting.elapsed ∧ openEvent0.entries.length < 59 ∧
    counting.counter.spill = .spilling ∧ counting.counter.spillSince = some 500000 ∧
    (interrupted .clear true).counter.spill = .clear ∧ block0.containsSpill = true ∧
    (interrupted .onset true).counter.spill = .onset ∧
    (interrupted .clear false).counter.current = some { block0 with containsSpill := false } ∧
    ({ interrupted .clear false with
      counter.pendingRecords := List.replicate 2 ⟨6, 5, 6, 7, 8, 9, .clear, noFlags, []⟩ } : State).counter.pendingRecords.length =
      2 := by decide

theorem test_meets_ShareComputationReadsTheBranch :
    ({ running with drain.claim.requested := 100 } : State).drain.claim.requested ≠ 0 ∧ running.drain.claim.requested = 0 ∧
    (∃ c rest, (runShare { running with drain.claim.requested := 100 }).drain.last.claimants = c :: rest) ∧
    running.trunk.standing.silent = false ∧ (stands .silenced 0).trunk.standing.silent = true :=
  ⟨by decide, rfl, ⟨_, _, rfl⟩, rfl, rfl⟩

/-- Four claimants, of which at 775 l/s one asks for no more than its tentative amount, and at 300 l/s none. -/
def claimants0 : List Claimant :=
  [⟨0x0304, 10, 300, none⟩, ⟨0x0307, 3, 250, none⟩, ⟨0x030B, 24, 400, none⟩, ⟨0x030F, 3, 120, none⟩]

theorem test_meets_WaterFillingStaysWithinCapacity :
    (∀ c ∈ [(⟨0x0304, 1, 776, none⟩ : Claimant)], c.assigned = none) ∧ 0 < 1 ∧ 775 < 776 ∧
    (∀ c ∈ claimants0, c.assigned = none) ∧ 40 = (claimants0.map Claimant.weight).sum ∧
    (∀ c ∈ claimants0, 300 * c.weight / 40 < c.requested) ∧
    (∃ c ∈ claimants0, decide (c.requested ≤ 775 * c.weight / 40) = true) := by decide

theorem test_meets_PumpTimersFaultAndRest :
    ({ running with drain.pump := some .starting, drain.pumpTimer := some 1000000 } : State).drain.pumpTimer = some 1000000 ∧
    1000000 ≤ running.elapsed ∧ ({ running with drain.pump := some .starting } : State).drain.pump = some .starting ∧
    ({ running with drain.pump := some .stopping } : State).drain.pump = some .stopping ∧
    ({ running with drain.restTimer := some 1000000 } : State).drain.restTimer = some 1000000 ∧
    running.tank.openDeferred = false ∧ ({ running with tank.state := .admitting } : State).tank.state ∈ [.off, .admitting] ∧
    ({ running with drain.pump := some .starting } : State).drain.pump ≠ some .stopped ∧
    (ran .restTimerExpiry { running with drain.pump := some .starting, drain.restTimer := some 5 }).drain.pump =
      some .starting := by decide

/-! ### What the notices between the blocks leave -/

/-- The part sending a RAIN in QUIET, at a score that a failure raises to 200. -/
def quiet (n : Nat) (echo : Option (List Byte)) : State := { driving n echo with trunk.standing := .quiet }

/-- The part sending a LIMIT whose echo has been gathered. -/
def limiting : State := { running with trunk := { running.trunk with
  tx := .send, slots.limit := .sending (.limit ⟨1200, 60⟩) 0 none
  attempt := some ⟨.limit, .limit ⟨1200, 60⟩, [1, 2, 3], 5, some [1, 2, 3], false, 999000⟩ } }

theorem test_scores_of_the_standing_clauses : ScoresOk running ∧ ScoresOk (quiet 0 none) ∧ ScoresOk limiting := by
  refine ⟨⟨?_, ?_, ?_, ?_⟩, ⟨?_, ?_, ?_, ?_⟩, ⟨?_, ?_, ?_, ?_⟩⟩ <;> decide

theorem test_meets_the_standing_clauses :
    (ran (.collision 6) (quiet 0 none)).trunk.standing = .cutOff .score ∧
    (ran (.collision 0) (quiet 0 none)).trunk.standing = .quiet ∧
    (ran .lastByteDriven (quiet 0 none)).trunk.standing ≠ (quiet 0 none).trunk.standing ∧
    (ran .lastByteDriven { quiet 0 (some [1, 2, 3]) with trunk.txScore := 100 }).trunk.standing = .warned ∧
    (ran .lastByteDriven limiting).trunk.standing = limiting.trunk.standing ∧
    (ran .lineFree { busy (.frame ⟨[1], 5, false, false⟩) .idle with trunk.rxScore := 38 }).trunk.standing = .warned ∧
    (ran (.byteReceived 0x55) { gathered heard false with trunk.rxScore := 38 }).trunk.standing = .warned ∧
    (parseBulletin heard).sender ≠ (gathered heard false).ownAddress ∧
    (gathered clashing false).trunk.standing ≠ .cutOff .clash := by decide +kernel

/-- The premises of `shareFollows`: the tank and the pump keep their states. -/
def keepsTankAndPump (c : Instr) (s : State) : Prop :=
  (ran c s).tank.state = s.tank.state ∧ (ran c s).drain.pump = s.drain.pump

/-- A CLAIM, a RAIN and a LIMIT of station 3.7, and the part that has all of one but its last byte, its clock anchored. -/
def spoken (b : Body) : List Byte := composeBulletin b 0x0307 .settled false 500000000
def listening (b : Body) (st : TankState) : State := { accepting with
  trunk.rx := .frame ⟨(spoken b).dropLast, 5, false, false⟩, time.clock := .anchored
  tank := { accepting.tank with state := st }, rain := { accepting.rain with branch := .warning } }

theorem test_meets_the_share_clauses :
    keepsTankAndPump .silence running ∧ keepsTankAndPump .rejoin (stands .silenced 5) ∧
    keepsTankAndPump .cutoffHoldExpiry (stands (.cutOff .score) 200) ∧ keepsTankAndPump (.collision 6) (quiet 0 none) ∧
    keepsTankAndPump .lastByteDriven limiting ∧ keepsTankAndPump (.claimPartStale 0x0307) (aged 22001 5) ∧
    keepsTankAndPump (.claimPartRemoved 0x0307) (aged 60001 5) ∧
    keepsTankAndPump .limitValidityExpiry { running with peers.limit := some ⟨1200, 10, 0x0307, ⟨990000, 5⟩, true⟩ } ∧
    ∀ b ∈ [Body.claim ⟨250, 80, 450, 1, 0, 10⟩, .limit ⟨1200, 60⟩],
      keepsTankAndPump (.byteReceived ((spoken b).getLastD 0)) (listening b .holding) := by
  unfold keepsTankAndPump; decide +kernel

theorem test_meets_the_clauses_of_a_good_bulletin :
    (parseBulletin (spoken (.claim ⟨250, 80, 450, 1, 0, 10⟩))).body = .claim ⟨250, 80, 450, 1, 0, 10⟩ ∧
    (parseBulletin (spoken (.limit ⟨1200, 60⟩))).body = .limit ⟨1200, 60⟩ ∧
    ∀ x ∈ [(Body.claim ⟨250, 80, 450, 1, 0, 10⟩, AlertLevel.warning), (.limit ⟨1200, 60⟩, .warning),
        (.rain ⟨1, 0, 0, 0⟩, .watch), (.rain ⟨3, 0, 0, 0⟩, .severe)], ∀ st ∈ [TankState.admitting, .holding],
      (ran (.byteReceived ((spoken x.1).getLastD 0)) (listening x.1 st)).trunk.standing = (listening x.1 st).trunk.standing ∧
      (ran (.byteReceived ((spoken x.1).getLastD 0)) (listening x.1 st)).time.t = (listening x.1 st).time.t ∧
      (∃ e ∈ (ran (.byteReceived ((spoken x.1).getLastD 0)) (listening x.1 st)).peers.entries, e.address = 0x0307) ∧
      (ran (.byteReceived ((spoken x.1).getLastD 0)) (listening x.1 st)).rain.branch = x.2 := by decide +kernel

theorem test_meets_the_alert_clauses :
    (∀ st ∈ [TankState.admitting, .dry, .holding, .draining],
      (rainTakesEdge true ⟨1000000, 5⟩ { permitted st 20 .stopped with
        rain.bins := [7, 255], peers.entries := [] }).rain.branch ≠ running.rain.branch) ∧
    (ran (.rainLifetimeExpiry 0x0307) { aged 5 1200000 with rain.branch := .warning }).rain.branch = .clear ∧
    (ran .minuteEnd { running with
      rain := { running.rain with nextMinute := some 1000000, bins := [255] } }).rain.branch ≠ running.rain.branch ∧
    (ran .alertHoldExpiry { running with
      peers.entries := []
      rain := { running.rain with hold := some 1000000, own := .severe, branch := .severe } }).rain.branch = .warning := by
  decide +kernel

/-- The part in ADMITTING, its open command waiting for the pump. -/
def deferringOpen (p : PumpState) : State := { running with
  tank := { running.tank with state := .admitting, openDeferred := true }
  drain := { running.drain with pump := some p, pumpTimer := some 1000000 } }

theorem test_meets_the_deferral_clauses :
    (∀ p ∈ [PumpState.stopping, .starting, .running, .fault],
      (deferringOpen p).tank.state = .admitting ∧ (deferringOpen p).tank.openDeferred = true ∧
      (deferringOpen p).tank.mode = .auto ∧ (deferringOpen p).tank.target = some .toClose ∧
      (deferringOpen p).tank.gate = some .closed ∧ (deferringOpen p).asserted .gateOpenLimit = false) ∧
    (ran .stopTimeoutExpiry (deferringOpen .stopping)).tank.gate = some .opening ∧
    (ran (.filterExpiry .pumpRunning) (edging false true true false (deferringOpen .stopping))).tank.gate = some .opening ∧
    (ran .clearFaultPump (deferringOpen .fault)).tank.gate = some .opening := by decide +kernel

theorem test_meets_the_release_clauses :
    (∀ timer ∈ [none, some 1234567], ∀ x ∈ [((3800 : BitVec 12), none), (1848, some 1600000), (600, some 1600000)],
      (ran (.sample ⟨x.1, 1000, 1000⟩) { sampling .clear with
        tank := { running.tank with state := .admitting, releaseTimer := timer } }).rain.branch =
          (sampling .clear).rain.branch ∧
      (ran (.sample ⟨x.1, 1000, 1000⟩) { sampling .clear with
        tank := { running.tank with state := .admitting, releaseTimer := timer } }).tank.releaseTimer =
          if x.2 = none then none else some (timer.getD 1600000)) ∧
    (ran (.sample ⟨1850, 1000, 1000⟩) { sampling .clear with
      tank := { running.tank with state := .admitting, releaseTimer := some 7 } }).tank.releaseTimer = some 7 := by
  decide +kernel

theorem test_meets_the_claim_clauses :
    (formClaim { running with input.gauges.tank.status := .good }).drain.claim.requested ≠ running.drain.claim.requested ∧
    (formClaim running).drain.claim.requested = running.drain.claim.requested ∧
    (formClaim running).drain.claim.spilling = running.drain.claim.spilling ∧
    (∀ x ∈ [(SpillState.clear, (3800 : BitVec 12), SpillState.onset), (.clear, 600, .clear)],
      (ran (.sample ⟨1000, 1000, x.2.1⟩) (sampling x.1)).spill.state = x.2.2 ∧
      (ran (.sample ⟨1000, 1000, x.2.1⟩) (sampling x.1)).tank.fill ≠ (sampling x.1).tank.fill) ∧
    (shareAndSetpoint { running with drain.share := 7 }).drain.share ≠ 7 ∧
    (shareAndSetpoint running).drain.share = running.drain.share ∧
    (shareAndSetpoint running).drain.pump = running.drain.pump ∧
    (shareAndSetpoint running).drain.mode = running.drain.mode := by decide +kernel

/-- A record of two entries, and the part with an event of n entries at a block's nominal end and k records pending. -/
def record2 : SpillRecord := ⟨9, 5, 6, 7, 8, 9, .clear, noFlags, List.replicate 2 ⟨1, 2, 3, 4⟩⟩
def closing (st : SpillState) (k : Nat) : State := { splitting st with
  counter.pendingRecords := List.replicate k ⟨6, 5, 6, 7, 8, 9, .clear, noFlags, []⟩ }

theorem test_closing_log_is_well_formed : LogOk (closing .clear 0) :=
  ⟨by decide, by decide, by decide, by decide, by simp [closing, splitting, interrupted, counting, running, base,
    State.reset, Counter.reset, SpillLog.reset]⟩

theorem test_meets_the_placing_clauses :
    placedAtOnce record2 (closing .spilling 0) ∧ ¬ placedAtOnce record2 (closing .spilling 1) ∧
    (closing .spilling 1).counter.pendingRecords.length < 2 ∧ 2 ≤ (closing .spilling 2).counter.pendingRecords.length ∧
    (ran .blockNominalEnd (closing .clear 0)).counter.log.writePos = 21 ∧
    (ran .blockNominalEnd (closing .spilling 0)).counter.log.owners.count .host = 21 ∧
    (ran .blockNominalEnd { closing .clear 0 with
      counter := { (interrupted .clear false).counter with pendingRecords := [] } }).counter.log.writePos = 2 ∧
    (ran .restart { closing .spilling 0 with
      counter := { (interrupted .spilling true).counter with pendingRecords := [] } }).counter.log.writePos = 2 := by
  unfold placedAtOnce; decide +kernel

/-- The invariants hold of the state of log 41, and a step from it answers a next state. -/
theorem test_meets_StepKeeps :
    AttentionOk State.reset ∧ LogOk State.reset ∧ State.reset.counter.pendingRecords.length ≤ 2 ∧ ScoresOk State.reset ∧
    PeersOk State.reset ∧ TimeOk State.reset ∧ ConfigAtRest State.reset ∧ DrivesOk State.reset ∧ SetpointOk State.reset ∧
    AlertsOk State.reset ∧ CountingOk State.reset ∧ LogHoldsRecords State.reset ∧ step State.reset = .next State.reset := by
  refine ⟨rfl, ⟨rfl, by decide, by decide, rfl, by simp [State.reset, Counter.reset, SpillLog.reset]⟩, by decide,
    ⟨by decide, by decide, fun _ => rfl, by decide⟩, ⟨by decide, List.Pairwise.nil, by simp [State.reset, Peers.reset]⟩,
    ⟨by decide, by decide, fun _ => rfl⟩, ?_, ⟨rfl, rfl, by decide, rfl⟩, ?_, by simp [AlertsOk, State.reset, Port.reset, State.inRun],
    ⟨by simp [State.reset, Counter.reset], rfl, by decide, by decide⟩, ?_, rfl⟩
  · intro _
    repeat' (first | exact ⟨rfl, rfl⟩ | rfl | exact Or.inl rfl | (intro a h; cases h) | apply And.intro)
  · unfold SetpointOk; decide
  · refine ⟨by simp [State.reset, Counter.reset], [], by simp, ⟨by decide, by decide, by decide, ?_⟩, by decide⟩
    simp

/-- The invariants hold of a state in RUN, too, with the pump driven. -/
theorem test_meets_StepKeeps_in_RUN :
    SetpointOk { running with
      tank.state := .draining, drain.pump := some .running, drain.setpoint := 50, drain.share := 60 } ∧
    DrivesOk { running with
      tank.state := .draining, drain.pump := some .running, drain.setpoint := 50, drain.share := 60
      input.pumpRun := true, input.pumpRate := 500 } := by
  unfold SetpointOk DrivesOk; decide

/-- The log's invariant holds of a log that holds a record, with one pending, its blocks counted. -/
theorem test_meets_StepKeeps_with_a_record :
    LogHoldsRecords { logged with counter.totals.counted := 2 } :=
  ⟨by decide, [record0 6], by decide, test_logged_ring_holds_its_record, by decide⟩

end Sys2Proof.Tests
end

section
/-! SUPPORT. Numbers written in bytes read back as themselves, and a composed bulletin reads back as its fields (O35). -/

namespace Sys2Proof.Machine

/-! ### Numbers in bytes -/

theorem natOf_foldl (bs : List Byte) (n : Nat) :
    bs.foldl (fun n b => n * 256 + b.toNat) n = n * 256 ^ bs.length + natOf bs := by
  induction bs generalizing n with
  | nil => simp [natOf]
  | cons b bs ih =>
    unfold natOf
    rw [List.foldl_cons, List.foldl_cons, ih, ih (0 * 256 + b.toNat), List.length_cons, pow_succ]
    ring

theorem natOf_cons (b : Byte) (bs : List Byte) : natOf (b :: bs) = b.toNat * 256 ^ bs.length + natOf bs := by
  have h := natOf_foldl bs b.toNat
  simpa [natOf] using h

/-- A number read back from k bytes is the number modulo 256^k. -/
theorem natOf_bytesOf (k n : Nat) : natOf (bytesOf k n) = n % 256 ^ k := by
  induction k with
  | zero => simp [bytesOf, natOf, Nat.mod_one]
  | succ k ih =>
    rw [bytesOf, natOf_cons, ih, bytesOf_length, BitVec.toNat_ofNat, pow_succ 256 k, Nat.mod_mul,
      Nat.add_comm, Nat.mul_comm]

theorem natOf_bytesOf_of_lt {k n : Nat} (h : n < 256 ^ k) : natOf (bytesOf k n) = n := by
  rw [natOf_bytesOf, Nat.mod_eq_of_lt h]

/-- A field that k bytes from byte i on spell. -/
theorem fieldAt_eq {bs : List Byte} {i k n : Nat} (h : (bs.drop i).take k = bytesOf k n) (l : n < 256 ^ k) :
    fieldAt bs i k = n := by
  rw [fieldAt, h, natOf_bytesOf_of_lt l]

theorem byteAt_eq {bs : List Byte} {i n : Nat} (h : bs.getD i 0 = BitVec.ofNat 8 n) (l : n < 256) :
    byteAt bs i = n := by
  rw [byteAt, h, BitVec.toNat_ofNat, Nat.mod_eq_of_lt l]

/-! ### A composed bulletin -/

theorem composeBulletin_length (body : Body) (a : Addr) (c : ClockState) (q : Bool) (t : Nat) :
    (composeBulletin body a c q t).length = body.kind.length := by
  cases body <;> rfl

/-- Byte 3 carries the kind, the clock state and the QUIET flag. -/
theorem statusByte_reads (k : Kind) (c : ClockState) (q : Bool) :
    Kind.fromNat ((statusByte k c q).toNat / 16) = some k ∧ (statusByte k c q).toNat / 4 % 4 = c.code ∧
    (statusByte k c q).getLsbD 1 = q := by
  cases k <;> cases c <;> cases q <;> decide

theorem composeBulletin_status (body : Body) (a : Addr) (c : ClockState) (q : Bool) (t : Nat) :
    (composeBulletin body a c q t).getD 3 0 = statusByte body.kind c q := rfl

theorem composeBulletin_kind (body : Body) (a : Addr) (c : ClockState) (q : Bool) (t : Nat) :
    kindOf (composeBulletin body a c q t) = some body.kind := by
  rw [kindOf, byteAt, composeBulletin_status]; exact (statusByte_reads _ _ _).1

theorem composeBulletin_clock (body : Body) (a : Addr) (c : ClockState) (q : Bool) (t : Nat) :
    clockOf (composeBulletin body a c q t) = c := by
  rw [clockOf, byteAt, composeBulletin_status, (statusByte_reads _ _ _).2.1]
  cases c <;> rfl

theorem composeBulletin_sender (body : Body) (a : Addr) (c : ClockState) (q : Bool) (t : Nat) :
    senderOf (composeBulletin body a c q t) = a := by
  have h : fieldAt (composeBulletin body a c q t) 4 2 = a.toNat := fieldAt_eq rfl (by simpa using a.isLt)
  rw [senderOf, h, BitVec.ofNat_toNat, BitVec.setWidth_eq]

theorem composeBulletin_time (body : Body) (a : Addr) (c : ClockState) (q : Bool) {t : Nat} (h : t ≤ maxTime) :
    fieldAt (composeBulletin body a c q t) 6 6 = t :=
  fieldAt_eq rfl (by unfold maxTime at h; omega)

theorem composeBulletin_header (body : Body) (a : Addr) (c : ClockState) (q : Bool) (t : Nat) :
    headerGood (composeBulletin body a c q t) = true ∧
    byteAt (composeBulletin body a c q t) 2 = body.kind.length := by
  rw [headerGood, composeBulletin_kind]
  cases body <;> exact ⟨rfl, rfl⟩

theorem composeBulletin_station (body : Body) {a : Addr} (c : ClockState) (q : Bool) (t : Nat)
    (h0 : stationOf a ≠ 0) (h255 : stationOf a ≠ 255) : stationGood (composeBulletin body a c q t) = true := by
  have h : byteAt (composeBulletin body a c q t) 5 = stationOf a := by
    have e : (composeBulletin body a c q t).getD 5 0 = BitVec.ofNat 8 (a.toNat / 256 ^ 0) := rfl
    rw [byteAt, e, BitVec.toNat_ofNat, pow_zero, Nat.div_one]; rfl
  simp [stationGood, h, h0, h255]

theorem composeBulletin_check (body : Body) (a : Addr) (c : ClockState) (q : Bool) (t : Nat) :
    checkGood (composeBulletin body a c q t) = true := by
  have covered : ((composeBulletin body a c q t).drop 2).take ((composeBulletin body a c q t).length - 4) =
      coveredBytes body a c q t := by
    rw [composeBulletin_length]; cases body <;> rfl
  have check : (composeBulletin body a c q t).drop ((composeBulletin body a c q t).length - 2) =
      bytesOf 2 (checkWord (coveredBytes body a c q t)).toNat := by
    rw [composeBulletin_length]; cases body <;> rfl
  rw [checkGood, covered, check, natOf_bytesOf_of_lt (by simpa using (checkWord _).isLt)]
  exact beq_self_eq_true _

/-- The fields of a body fit their widths (2.2). -/
def Body.fits : Body → Prop
  | .claim c => c.requested < 65536 ∧ c.drawn < 65536 ∧ c.fill < 65536 ∧ c.weight < 256 ∧ c.urgency < 256 ∧ c.period < 256
  | .rain r => r.level < 256 ∧ r.short < 65536 ∧ r.long < 65536 ∧ r.age < 65536
  | .limit l => l.capacity < 65536 ∧ l.validity < 65536
  | .presence => True

theorem composeBulletin_body {body : Body} (h : body.fits) (a : Addr) (c : ClockState) (q : Bool) (t : Nat) :
    bodyOf body.kind (composeBulletin body a c q t) = body := by
  cases body with
  | claim x =>
    obtain ⟨requested, drawn, fill, weight, urgency, period⟩ := h
    simp only [bodyOf, Body.kind]
    rw [fieldAt_eq rfl requested, fieldAt_eq rfl drawn, fieldAt_eq rfl fill,
      byteAt_eq (n := x.weight) (by rw [← Nat.div_one x.weight]; rfl) weight,
      byteAt_eq (n := x.urgency) (by rw [← Nat.div_one x.urgency]; rfl) urgency,
      byteAt_eq (n := x.period) (by rw [← Nat.div_one x.period]; rfl) period]
  | rain x =>
    obtain ⟨level, short, long, age⟩ := h
    simp only [bodyOf, Body.kind]
    rw [byteAt_eq (n := x.level) (by rw [← Nat.div_one x.level]; rfl) level, fieldAt_eq rfl short,
      fieldAt_eq rfl long, fieldAt_eq rfl age]
  | limit x =>
    obtain ⟨capacity, validity⟩ := h
    simp only [bodyOf, Body.kind]
    rw [fieldAt_eq rfl capacity, fieldAt_eq rfl validity]
  | presence => rfl

/-- R16: a composed bulletin passes every check of a received one. -/
theorem composeBulletin_good (body : Body) {a : Addr} (c : ClockState) (q : Bool) (t : Nat)
    (h0 : stationOf a ≠ 0) (h255 : stationOf a ≠ 255) : bulletinGood (composeBulletin body a c q t) = true := by
  obtain ⟨header, length⟩ := composeBulletin_header body a c q t
  simp [bulletinGood, header, length, composeBulletin_length, composeBulletin_station body c q t h0 h255,
    composeBulletin_check]

theorem composeBulletin_parse {body : Body} (h : body.fits) (a : Addr) (c : ClockState) (q : Bool) {t : Nat}
    (ht : t ≤ maxTime) : parseBulletin (composeBulletin body a c q t) = ⟨a, c, q, t, body⟩ := by
  have quiet : ((composeBulletin body a c q t).getD 3 0).getLsbD 1 = q := (statusByte_reads _ _ _).2.2
  simp only [parseBulletin, composeBulletin_sender, composeBulletin_clock, quiet, composeBulletin_time _ _ _ _ ht,
    composeBulletin_kind, Option.getD_some, composeBulletin_body h]

/-- Settles O35: field by field, each read back from the bytes that it was written to. -/
theorem composedBulletinReadsBack : Obligations.ComposedBulletinReadsBack := by
  rintro body a c q t _ fits h0 h255 ht rfl
  exact ⟨composeBulletin_length .., composeBulletin_good body c q t h0 h255,
    composeBulletin_parse (by cases body <;> exact fits) a c q ht⟩

end Sys2Proof.Machine
end

section
/-! SUPPORT. What the operations of the other blocks leave of the Trunk Interface (`lineState`): everything but the transmit
slots, the transmitter's wait, and the mark that a bulletin in gathering takes at a time step. -/

namespace Sys2Proof.Machine

/-- The Trunk Interface without its slots, the transmitter's wait and the receiver. -/
def lineState (s : State) : Trunk :=
  { s.trunk with slots := ⟨.empty, .empty, .empty, .empty⟩, tx := .idle, txUntil := none, rx := .off }

theorem lineState_of_control {s t : State} (h : outsideControl t = outsideControl s) : lineState t = lineState s := by
  have e : ∀ x, lineState x = { (outsideControl x).trunk with rx := .off } := fun _ => rfl
  rw [e t, e s, h]

theorem lineState_of_tank {s t : State} (h : outsideTank t = outsideTank s) : lineState t = lineState s :=
  lineState_of_control (outsideControl_of h)

theorem lineState_fields {s t : State} (h : lineState t = lineState s) :
    t.trunk.attempt = s.trunk.attempt ∧ t.trunk.lineFree = s.trunk.lineFree ∧
    t.trunk.lastActivity = s.trunk.lastActivity ∧ t.trunk.txScore = s.trunk.txScore ∧
    t.trunk.rxScore = s.trunk.rxScore ∧ t.trunk.standing = s.trunk.standing ∧
    t.trunk.cutoffHold = s.trunk.cutoffHold ∧ t.trunk.presence = s.trunk.presence := by
  simp only [lineState, Trunk.mk.injEq] at h
  tauto

theorem inEitherOrder_line {f g : State → State} (hf : ∀ t, lineState (f t) = lineState t)
    (hg : ∀ t, lineState (g t) = lineState t) (s : State) : lineState (inEitherOrder f g s) = lineState s :=
  inEitherOrder_holds (fun t => lineState t = lineState s) (fun t h => by rw [hg, hf, h])
    (fun t h => by rw [hf, hg, h]) rfl

@[simp] theorem raise_line (f : EventFlag) (s : State) : lineState (raise f s) = lineState s := rfl

@[simp] theorem queueBody_line (b : Body) (s : State) : lineState (queueBody b s) = lineState s :=
  lineState_of_tank (queueBody_tank b s)

@[simp] theorem drainTakesShareNotice_line (s : State) : lineState (drainTakesShareNotice s) = lineState s :=
  lineState_of_tank (drainTakesShareNotice_tank s)

@[simp] theorem formBranchAlert_line (s : State) : lineState (formBranchAlert s) = lineState s :=
  lineState_of_control (formBranchAlert_control s)

@[simp] theorem evaluateAlert_line (s : State) : lineState (evaluateAlert s) = lineState s :=
  lineState_of_control (evaluateAlert_control s)

@[simp] theorem notifySpill_line (s : State) : lineState (notifySpill s) = lineState s :=
  lineState_of_control (notifySpill_control s)

@[simp] theorem tankTakesDrainNotice_line (s : State) : lineState (tankTakesDrainNotice s) = lineState s :=
  lineState_of_tank (tankTakesDrainNotice_tank s)

/-! ### The Spill Monitor and the Input Unit -/

@[simp] theorem spillEvaluates_line (c : Stamped) (s : State) : lineState (spillEvaluates c s) = lineState s := by
  unfold spillEvaluates enterOnset lapseSpell enterSubsiding resumeSpilling
  split <;> (try rw [notifySpill_line]) <;> rfl

@[simp] theorem confirmSpill_line (s : State) : lineState (confirmSpill s) = lineState s := by
  unfold confirmSpill; rw [notifySpill_line]; rfl

@[simp] theorem endSpill_line (s : State) : lineState (endSpill s) = lineState s := by
  unfold endSpill; rw [notifySpill_line]; rfl

@[simp] theorem spillTakesEdge_line (r : Bool) (e : Stamped) (s : State) :
    lineState (spillTakesEdge r e s) = lineState s := by
  unfold spillTakesEdge; dsimp only; rw [spillEvaluates_line]; rfl

@[simp] theorem counterTakesSample_line (n : SampleNotice) (s : State) :
    lineState (counterTakesSample n s) = lineState s := lineState_of_control (counterTakesSample_control n s)

@[simp] theorem takeSpillSample_line (a : SpillState) (d : Nat) (s : State) :
    lineState (takeSpillSample a d s) = lineState s := by
  unfold takeSpillSample; dsimp only; split_ifs <;> simp <;> rfl

@[simp] theorem spillTakesSample_line (d : Nat) (s : State) : lineState (spillTakesSample d s) = lineState s := by
  unfold spillTakesSample; rw [takeSpillSample_line, spillEvaluates_line]; rfl

@[simp] theorem convertGauge_line (g : Gauge) (r : BitVec 12) (s : State) :
    lineState (convertGauge g r s) = lineState s := by
  unfold convertGauge; dsimp only; split <;> rfl

@[simp] theorem takeSample_line (c : GaugeCounts) (s : State) : lineState (takeSample c s) = lineState s := by
  have tank : ∀ t, lineState (sampleTank c t) = lineState t := fun t => by
    unfold sampleTank; rw [lineState_of_tank (tankTakesSample_tank _ _)]; simp
  have overflow : ∀ t, lineState (sampleOverflow c t) = lineState t := fun t => by unfold sampleOverflow; simp
  unfold takeSample; rw [inEitherOrder_line tank overflow]; rfl

@[simp] theorem takeEdge_line (i : DigitalIn) (e : Candidate) (s : State) : lineState (takeEdge i e s) = lineState s := by
  have hand : ∀ t, lineState (handEdge i e t) = lineState t := fun t => by
    cases i with
    | rainTip => exact lineState_of_control (rainTakesEdge_control _ _ _)
    | gateOpenLimit => exact lineState_of_control (tankTakesEdge_control _ _ _)
    | gateClosedLimit => exact lineState_of_control (tankTakesEdge_control _ _ _)
    | spillFloat => exact spillTakesEdge_line _ _ _
    | pumpRunning => exact lineState_of_control (drainTakesEdge_control _ _)
  unfold takeEdge; rw [hand]; rfl

/-! ### The Time Unit -/

@[simp] theorem setClock_line (c : ClockState) (s : State) : lineState (setClock c s) = lineState s := by
  unfold setClock; split <;> rfl

@[simp] theorem markStepped_line (s : State) : lineState (markStepped s) = lineState s := by
  unfold markStepped; split <;> rfl

@[simp] theorem stepTime_line (t : Nat) (c : ClockState) (s : State) : lineState (stepTime t c s) = lineState s := by
  unfold stepTime stepNotices
  rw [lineState_of_control (counterTakesStep_control _), lineState_of_tank (claimTimerStep_tank _), setClock_line,
    markStepped_line]
  rfl

@[simp] theorem handleSample_line (v : Int) (s : State) : lineState (handleSample v s) = lineState s := by
  unfold handleSample
  split
  · exact stepTime_line ..
  · unfold takeOutlier; split <;> rfl
  · unfold useSample; dsimp only; split
    · rw [setClock_line]; rfl
    · rfl

@[simp] theorem timeTakesSample_line (x : TimeSample) (s : State) : lineState (timeTakesSample x s) = lineState s := by
  have e : ∀ (t : State) (l : Option LastSample), lineState { t with time.lastSample := l } = lineState t :=
    fun _ _ => rfl
  unfold timeTakesSample; dsimp only; split
  · rfl
  · rw [e, handleSample_line]; split <;> rfl

@[simp] theorem makeAdjust_line (s : State) : lineState (makeAdjust s) = lineState s := by
  have slews : ∀ t, lineState (slew t) = lineState t := fun t => by unfold slew; split_ifs <;> rfl
  have settles : ∀ t, lineState (settleCheck t) = lineState t := fun t => by
    unfold settleCheck; split_ifs <;> (try rw [setClock_line]) <;> rfl
  unfold makeAdjust; rw [settles, slews]; rfl

/-! ### The Peer Table -/

@[simp] theorem takeEntry_line (r : Received) (h n : Nat) (s : State) : lineState (takeEntry r h n s) = lineState s := by
  unfold takeEntry; dsimp only; split
  · rfl
  · split_ifs
    · rfl
    · split <;> rfl

@[simp] theorem applyLimit_line (l : LimitBody) (a : Addr) (x : Stamped) (s : State) :
    lineState (applyLimit l a x s) = lineState s := by
  unfold applyLimit; dsimp only; split
  · rfl
  · split <;> rfl

@[simp] theorem takeBody_line (b : Body) (u : Uses) (a : Addr) (n : Nat) (s : State) :
    lineState (takeBody b u a n s) = lineState s := by
  have entries : ∀ es, lineState (setEntries es s) = lineState s := fun _ => rfl
  unfold takeBody; dsimp only; split
  · split <;> simp [entries]
  · split_ifs <;> simp [entries]
  · split <;> simp
  · rfl

@[simp] theorem takeBulletin_line (r : Received) (n : Nat) (b : Bool) (s : State) :
    lineState (takeBulletin r n b s) = lineState s := by
  unfold takeBulletin; split
  · rfl
  · dsimp only; split
    · rw [inEitherOrder_line (takeBody_line _ _ _ _) (timeTakesSample_line _)]; simp
    · simp

end Sys2Proof.Machine
end

section
/-! SUPPORT. How an invariant is proved for every step: the queue, the requests, the transaction and the events, said once. -/

namespace Sys2Proof.Machine

/-- A predicate that the queue does not show in, and that every command keeps, is kept by every step. -/
theorem step_keeps {P : State → Prop} (queue : ∀ s rest, P s → P { s with pending := rest })
    (command : ∀ c s t, P s → exec c s = .next t → P t) (s t : State) (h : P s) (e : step s = .next t) : P t := by
  unfold step at e
  split at e
  · cases e; exact h
  · exact command _ _ t (queue s _ h) e

/-- Every request command is taken as its code with its arguments (11.2), and answered. -/
theorem exec_request {c : Instr} {code : Nat} {args : List Byte} (r : requestOf c = some (code, args)) (s : State) :
    ∃ counts, exec c s = .next (answer code (takeRequest counts code args s)) := by
  cases c with
  | commit counts => cases r; exact ⟨counts, rfl⟩
  | releaseRecord n =>
    cases r
    refine ⟨⟨0, 0, 0⟩, ?_⟩
    simp only [takeRequest, natOf_bytesOf_of_lt (k := 4) n.isLt]; rfl
  | setEventMask m =>
    cases r
    refine ⟨⟨0, 0, 0⟩, ?_⟩
    simp only [takeRequest, natOf_bytesOf_of_lt (k := 2) m.isLt, BitVec.ofNat_toNat, BitVec.setWidth_eq]; rfl
  | setTime n =>
    cases r
    refine ⟨⟨0, 0, 0⟩, ?_⟩
    simp only [takeRequest, natOf_bytesOf_of_lt (k := 8) n.isLt]; rfl
  | sendLimit x y =>
    cases r
    refine ⟨⟨0, 0, 0⟩, ?_⟩
    have capacity : fieldAt (bytesOf 2 x.toNat ++ bytesOf 2 y.toNat) 0 2 = x.toNat := fieldAt_eq rfl x.isLt
    have validity : fieldAt (bytesOf 2 x.toNat ++ bytesOf 2 y.toNat) 2 2 = y.toNat := fieldAt_eq rfl y.isLt
    simp only [takeRequest, capacity, validity]; rfl
  | loadItem => cases r; exact ⟨⟨0, 0, 0⟩, rfl⟩
  | readStatus => cases r; exact ⟨⟨0, 0, 0⟩, rfl⟩
  | readPeer => cases r; exact ⟨⟨0, 0, 0⟩, rfl⟩
  | readLogSlot => cases r; exact ⟨⟨0, 0, 0⟩, rfl⟩
  | readOpenEvent => cases r; exact ⟨⟨0, 0, 0⟩, rfl⟩
  | readPending => cases r; exact ⟨⟨0, 0, 0⟩, rfl⟩
  | readTotals => cases r; exact ⟨⟨0, 0, 0⟩, rfl⟩
  | readRain => cases r; exact ⟨⟨0, 0, 0⟩, rfl⟩
  | readCapture => cases r; exact ⟨⟨0, 0, 0⟩, rfl⟩
  | readEvents => cases r; exact ⟨⟨0, 0, 0⟩, rfl⟩
  | gateMode => cases r; exact ⟨⟨0, 0, 0⟩, rfl⟩
  | drainMode => cases r; exact ⟨⟨0, 0, 0⟩, rfl⟩
  | silence => cases r; exact ⟨⟨0, 0, 0⟩, rfl⟩
  | rejoin => cases r; exact ⟨⟨0, 0, 0⟩, rfl⟩
  | clearFaultGate => cases r; exact ⟨⟨0, 0, 0⟩, rfl⟩
  | clearFaultPump => cases r; exact ⟨⟨0, 0, 0⟩, rfl⟩
  | restart => cases r; exact ⟨⟨0, 0, 0⟩, rfl⟩
  | loopTest => cases r; exact ⟨⟨0, 0, 0⟩, rfl⟩
  | _ => cases r

/-- An event: a command that is neither a request nor a transaction. -/
def isEvent (c : Instr) : Prop := requestOf c = none ∧ ∀ gathered clocked counts, c ≠ .transaction gathered clocked counts

/-- A predicate that every answered request and every event keeps, and that the bytes sent do not show in, is kept by every
command. -/
theorem exec_keeps {P : State → Prop} (asked : ∀ s n k code args, P s → P (answer n (takeRequest k code args s)))
    (sent : ∀ s l, P s → P { s with port.sent := l })
    (event : ∀ c s t, isEvent c → P s → exec c s = .next t → P t)
    (c : Instr) (s t : State) (h : P s) (e : exec c s = .next t) : P t := by
  cases r : requestOf c with
  | some x =>
    obtain ⟨counts, taken⟩ := exec_request r s
    rw [taken] at e
    cases e
    exact asked s _ _ _ _ h
  | none =>
    by_cases v : ∃ gathered clocked counts, c = .transaction gathered clocked counts
    · obtain ⟨gathered, clocked, counts, rfl⟩ := v
      obtain rfl := Host.Outcome.next.inj e
      unfold takeTransaction takeFrame
      dsimp only
      split
      · exact sent s _ h
      · split
        · exact asked _ _ counts 0 [] (sent s _ h)
        · exact asked _ _ _ _ _ (sent s _ h)
    · exact event c s t ⟨r, fun g n k x => v ⟨g, n, k, x⟩⟩ h e

end Sys2Proof.Machine
end

section
/-! SUPPORT. The scores, the standing and the cut-off hold: what each operation of the Trunk Interface does to them, and that
every step keeps them as R19 and R20 say (O53). -/

namespace Sys2Proof.Machine

/-! ### Standing -/

theorem standingOf_cutOff {tx rx : Nat} : standingOf tx rx = .cutOff .score ↔ 200 ≤ tx := by
  unfold standingOf; split_ifs <;> simp_all

theorem standingOf_silent (tx rx : Nat) : (standingOf tx rx).silent = decide (200 ≤ tx) := by
  unfold standingOf; split_ifs <;> simp_all [Standing.silent]

@[simp] theorem enterWaitLine_line (s : State) : lineState (enterWaitLine s) = lineState s :=
  lineState_of_tank (outsideTank_of (enterWaitLine_outside s))

@[simp] theorem idleTransmitter_line (s : State) : lineState (idleTransmitter s) = lineState s := rfl

@[simp] theorem transmitterTakesStanding_line (s : State) : lineState (transmitterTakesStanding s) = lineState s := by
  unfold transmitterTakesStanding; split_ifs
  · rfl
  · rfl
  · exact lineState_of_tank (outsideTank_of (wakeTransmitter_outside s))

/-- R19: of the line's state, the standing alone is set. -/
theorem setStanding_line (x : Standing) (s : State) :
    lineState (setStanding x s) = { lineState s with standing := x } := by
  unfold setStanding; split
  · subst x; rfl
  · rw [drainTakesShareNotice_line, transmitterTakesStanding_line]; rfl

/-- R19, R20: the standing that the scores give, with a new hold at 200. -/
theorem standFromScores_line (s : State) :
    lineState (standFromScores s) = { lineState s with
      standing := standingOf s.trunk.txScore s.trunk.rxScore
      cutoffHold := if 200 ≤ s.trunk.txScore then some (s.elapsed + seconds s.cfg.cutoffHold) else s.trunk.cutoffHold } := by
  unfold standFromScores
  rw [setStanding_line]
  by_cases h : 200 ≤ s.trunk.txScore
  · rw [if_pos (standingOf_cutOff.mpr h), if_pos h]; rfl
  · rw [if_neg (fun e => h (standingOf_cutOff.mp e)), if_neg h]; rfl

/-! ### The invariant of the scores -/

theorem scoresOk_of_line {s t : State} (h : lineState t = lineState s) (ok : ScoresOk s) : ScoresOk t := by
  obtain ⟨_, _, _, tx, rx, standing, hold, _⟩ := lineState_fields h
  unfold ScoresOk
  rw [tx, rx, standing, hold]
  exact ok

theorem scoresOk_of_tank {s t : State} (h : outsideTank t = outsideTank s) (ok : ScoresOk s) : ScoresOk t :=
  scoresOk_of_line (lineState_of_tank h) ok

theorem scoresOk_of_control {s t : State} (h : outsideControl t = outsideControl s) (ok : ScoresOk s) : ScoresOk t :=
  scoresOk_of_line (lineState_of_control h) ok

/-- The hold runs exactly in CUT_OFF with cause SCORE. -/
def HoldOk (s : State) : Prop := s.trunk.cutoffHold.isSome = true ↔ s.trunk.standing = .cutOff .score

theorem standFromScores_scores {s : State} (tx : s.trunk.txScore ≤ 200) (rx : s.trunk.rxScore ≤ 100)
    (hold : s.trunk.cutoffHold = none) : ScoresOk (standFromScores s) := by
  obtain ⟨_, _, _, etx, erx, estanding, ehold, _⟩ :=
    lineState_fields (s := { s with trunk := lineState (standFromScores s) }) (t := standFromScores s) rfl
  rw [standFromScores_line] at etx erx estanding ehold
  dsimp only [lineState] at etx erx estanding ehold
  unfold ScoresOk
  rw [etx, erx, estanding, ehold, hold]
  refine ⟨tx, rx, fun _ => rfl, ?_⟩
  rw [standingOf_cutOff]
  split <;> simp_all

/-- R19: a standing that follows new scores; CUT_OFF and SILENCED stay, with their hold. -/
theorem recomputeStanding_scores {s : State} (tx : s.trunk.txScore ≤ 200) (rx : s.trunk.rxScore ≤ 100)
    (hold : HoldOk s) : ScoresOk (recomputeStanding s) := by
  unfold recomputeStanding
  split
  case isTrue silent => exact ⟨tx, rx, fun loud => by simp [silent] at loud, hold⟩
  case isFalse loud =>
    refine standFromScores_scores tx rx (Option.not_isSome_iff_eq_none.mp fun running => loud ?_)
    rw [hold.mp running]; rfl

theorem ScoresOk.hold {s : State} (h : ScoresOk s) : HoldOk s := h.2.2.2

theorem raiseTxScore_scores (n : Nat) {s : State} (h : ScoresOk s) : ScoresOk (raiseTxScore n s) :=
  recomputeStanding_scores (Nat.min_le_left _ _) h.2.1 h.hold

theorem lowerTxScore_scores {s : State} (h : ScoresOk s) : ScoresOk (lowerTxScore s) :=
  recomputeStanding_scores ((Nat.sub_le _ _).trans h.1) h.2.1 h.hold

theorem raiseRxScore_scores (n : Nat) {s : State} (h : ScoresOk s) : ScoresOk (raiseRxScore n s) :=
  recomputeStanding_scores h.1 (Nat.min_le_left _ _) h.hold

theorem lowerRxScore_scores {s : State} (h : ScoresOk s) : ScoresOk (lowerRxScore s) :=
  recomputeStanding_scores h.1 ((Nat.sub_le _ _).trans h.2.1) h.hold

/-- R20: the hold of a station that is cut off starts anew. -/
theorem startCutoffHold_scores {s : State} (h : ScoresOk s) (running : s.trunk.cutoffHold.isSome = true) :
    ScoresOk (startCutoffHold s) :=
  ⟨h.1, h.2.1, h.2.2.1, fun _ => h.hold.mp running, fun _ => rfl⟩

theorem holdElapses_scores {s : State} (h : ScoresOk s) : ScoresOk (holdElapses s) :=
  standFromScores_scores (Nat.zero_le _) h.2.1 rfl

/-- R18, R21: a silent standing that has no hold, whatever the scores. -/
theorem setStanding_scores {x : Standing} {s : State} (h : ScoresOk s) (silent : x.silent = true)
    (held : x ≠ .cutOff .score) : ScoresOk (setStanding x { s with trunk.cutoffHold := none }) := by
  obtain ⟨_, _, _, etx, erx, estanding, ehold, _⟩ := lineState_fields
    (s := { s with trunk := lineState (setStanding x { s with trunk.cutoffHold := none }) })
    (t := setStanding x { s with trunk.cutoffHold := none }) rfl
  rw [setStanding_line] at etx erx estanding ehold
  dsimp only [lineState] at etx erx estanding ehold
  unfold ScoresOk
  rw [etx, erx, estanding, ehold]
  exact ⟨h.1, h.2.1, fun loud => by simp [silent] at loud, by simp [held]⟩

theorem silenceRequest_scores {s : State} (h : ScoresOk s) : ScoresOk (silenceRequest s).2 := by
  unfold silenceRequest
  split
  · exact h
  · exact h
  · exact setStanding_scores h rfl (by simp)

theorem rejoinRequest_scores {s : State} (h : ScoresOk s) : ScoresOk (rejoinRequest s).2 := by
  unfold rejoinRequest
  split
  case h_1 silenced =>
    refine standFromScores_scores h.1 h.2.1 (Option.not_isSome_iff_eq_none.mp fun running => ?_)
    have := h.hold.mp running
    simp [silenced] at this
  · exact holdElapses_scores h
  · exact h
  · exact h

/-! ### The attempt -/

theorem transmitterRests_line (s : State) : lineState (transmitterRests s) = lineState s := by
  unfold transmitterRests; split <;> simp

theorem enterBackoff_line (n : Nat) (s : State) : lineState (enterBackoff n s) = lineState s := by
  unfold enterBackoff; split <;> rfl

theorem applyOwnLimit_line (a : Attempt) (s : State) : lineState (applyOwnLimit a s) = lineState s := by
  unfold applyOwnLimit; split <;> simp

theorem beginAttempt_scores {s : State} (h : ScoresOk s) : ScoresOk (beginAttempt s) := by
  unfold beginAttempt; split <;> exact h

theorem failAttempt_scores (k : Kind) (n : Nat) {s : State} (h : ScoresOk s) : ScoresOk (failAttempt k n s) := by
  have scored : ScoresOk (if n = 0 then s else raiseTxScore n s) := by
    split
    · exact h
    · exact raiseTxScore_scores n h
  unfold failAttempt
  dsimp only
  split
  · exact scoresOk_of_line (enterBackoff_line _ _) scored
  · exact scoresOk_of_line (enterBackoff_line _ _) (raiseTxScore_scores 20 scored)

theorem cleanSend_scores (a : Attempt) {s : State} (h : ScoresOk s) : ScoresOk (cleanSend a s) := by
  have limited : ScoresOk (applyOwnLimit a (restartPresence
      (setSlot a.kind ((lowerTxScore s).trunk.slots.get a.kind).afterClean (lowerTxScore s)))) :=
    scoresOk_of_line (applyOwnLimit_line a _) (lowerTxScore_scores h)
  exact scoresOk_of_line (transmitterRests_line _) limited

theorem endDisregarded_scores {s : State} (h : ScoresOk s) : ScoresOk (endDisregarded s) := by
  unfold endDisregarded; dsimp only; split
  · exact scoresOk_of_line (transmitterRests_line _) h
  · exact h

theorem attemptEnds_scores (a : Attempt) {s : State} (h : ScoresOk s) : ScoresOk (attemptEnds a s) := by
  unfold attemptEnds; split_ifs
  · exact endDisregarded_scores h
  · exact cleanSend_scores a h
  · exact failAttempt_scores _ _ h

theorem attemptCollides_scores (a : Attempt) (n : Nat) {s : State} (h : ScoresOk s) :
    ScoresOk (attemptCollides a n s) := by
  unfold attemptCollides; split
  · exact endDisregarded_scores h
  · exact failAttempt_scores _ _ h

/-! ### The receiver and the line -/

theorem badBulletin_scores {s : State} (h : ScoresOk s) : ScoresOk (badBulletin s) := by
  unfold badBulletin; dsimp only; split
  case isTrue running => exact startCutoffHold_scores (raiseRxScore_scores 2 h) running
  case isFalse => exact raiseRxScore_scores 2 h

theorem addressClash_scores {s : State} (h : ScoresOk s) : ScoresOk (addressClash s) := by
  unfold addressClash; dsimp only; split
  · exact h
  · exact setStanding_scores (s := raise .addressClash s) h rfl (by simp)

theorem goodBulletin_scores (g : Gathering) {s : State} (h : ScoresOk s) : ScoresOk (goodBulletin g s) := by
  unfold goodBulletin; dsimp only; split
  · exact addressClash_scores (lowerRxScore_scores h)
  · exact scoresOk_of_line (takeBulletin_line ..) (lowerRxScore_scores h)

theorem setReceiver_scores (r : Receiver) {s : State} (h : ScoresOk s) : ScoresOk (setReceiver r s) := h

theorem gatherByte_scores (g : Gathering) {s : State} (h : ScoresOk s) : ScoresOk (gatherByte g s) := by
  unfold gatherByte; dsimp only; split_ifs
  · exact h
  · exact badBulletin_scores (setReceiver_scores .discard h)
  · split
    · exact h
    · exact h
    · exact goodBulletin_scores g (setReceiver_scores .discard h)
    · exact badBulletin_scores (setReceiver_scores .discard h)
  · exact h

theorem lineActivity_scores {s : State} (h : ScoresOk s) : ScoresOk (lineActivity s) := by
  unfold lineActivity; dsimp only; split <;> exact h

theorem receiveByte_scores (b : Byte) {s : State} (h : ScoresOk s) : ScoresOk (receiveByte b s) := by
  unfold receiveByte; dsimp only; split
  · exact gatherByte_scores _ (lineActivity_scores h)
  · exact gatherByte_scores _ (lineActivity_scores h)
  · exact lineActivity_scores h

theorem receiverCollides_scores {s : State} (h : ScoresOk s) : ScoresOk (receiverCollides s) := by
  unfold receiverCollides; split <;> exact h

theorem takeCollision_scores (n : Nat) {s : State} (h : ScoresOk s) : ScoresOk (takeCollision n s) := by
  have heard : ScoresOk (if s.inRun then receiverCollides (lineActivity s) else s) := by
    split
    · exact receiverCollides_scores (lineActivity_scores h)
    · exact h
  unfold takeCollision; dsimp only; split
  · exact heard
  · exact attemptCollides_scores _ _ heard

theorem takeLineFree_scores {s : State} (h : ScoresOk s) : ScoresOk (takeLineFree s) := by
  have freed : ScoresOk (receiverTakesFree { s with trunk.lineFree := true }) := by
    unfold receiverTakesFree; split
    · exact h
    · split
      · exact h
      · exact badBulletin_scores (setReceiver_scores .listen h)
    · exact h
  unfold takeLineFree; dsimp only; split <;> exact freed

/-! ### Entry to RUN, restart and the requests -/

theorem enterRun_scores (c : GaugeCounts) {s : State} (h : ScoresOk s) : ScoresOk (enterRun c s) := by
  have trunk : ∀ t, ScoresOk t → ScoresOk (trunkEnters t) := fun t ok => by
    unfold trunkEnters; exact scoresOk_of_line (queueBody_line _ _) ok
  have time : ∀ t, lineState (timeEnters t) = lineState t := fun t => by
    unfold timeEnters; dsimp only; split_ifs <;> (try rw [setClock_line]) <;> rfl
  have input : ∀ t, lineState (inputEnters c t) = lineState t := fun t => by
    unfold inputEnters; simp only [convertGauge_line]; rfl
  have pump : ∀ t, lineState (pumpEnters t) = lineState t := fun t => by
    unfold pumpEnters; dsimp only; split <;> rfl
  have gate : ∀ t, lineState (gateEnters t) = lineState t := fun t => by unfold gateEnters; split <;> rfl
  have volume : ∀ t, lineState (volumeEnters t) = lineState t := fun t => by
    unfold volumeEnters measureVolume; split_ifs <;> rfl
  have state : ∀ t, lineState (stateEnters t) = lineState t := fun t => by
    unfold stateEnters; dsimp only; exact (lineState_of_tank (retarget_tank _)).trans rfl
  have spill : ∀ t, lineState (spillEnters t) = lineState t := fun t => by
    unfold spillEnters; dsimp only; rw [takeSpillSample_line, spillEvaluates_line]; rfl
  have claim : ∀ t, lineState (claimEnters t) = lineState t := fun t =>
    lineState_of_tank (by unfold claimEnters; simp)
  have starts : ∀ t, lineState (rainStarts t) = lineState t := fun _ => rfl
  have lamp : ∀ t, lineState (evaluateLamp t) = lineState t := fun _ => rfl
  unfold enterRun blocksEnter tankEntersRun rainEnters
  refine scoresOk_of_line ?_ (trunk { s with
    peers := .reset
    port := { s.port with
      run := .run, committed := itemsToCommit s.port.loaded s.port.items, lastRefusal := none } } h)
  simp only [lamp, tankTakesDrainNotice_line, claim, formBranchAlert_line, evaluateAlert_line, spill, starts, state,
    volume, gate, pump, input, time]

theorem restartPart_scores (s : State) : ScoresOk (restartPart s) := by
  have trunk : ∀ t, ScoresOk (trunkRestarts t) := fun t => by
    unfold trunkRestarts; dsimp only
    split <;> exact ⟨Nat.zero_le _, Nat.zero_le _, fun _ => rfl, by simp⟩
  have time : ∀ t, lineState (timeRestarts t) = lineState t := fun t => by
    unfold timeRestarts; dsimp only; split <;> (try rw [setClock_line]) <;> rfl
  have rain : ∀ t, lineState (rainRestarts t) = lineState t := fun t => by
    unfold rainRestarts; dsimp only; split <;> rfl
  have others : ∀ t, lineState (portRestarts (drainRestarts t)) = lineState t := fun _ => rfl
  have first : ∀ t, lineState (spillRestarts (tankRestarts (inputRestarts t))) = lineState t := fun _ => rfl
  have peers : ∀ t : State, lineState { t with peers := .reset } = lineState t := fun _ => rfl
  unfold restartPart
  refine scoresOk_of_line ?_ (trunk (counterRestarts s))
  rw [others, rain, first, time, peers]

theorem inRunOnly_scores {f : State → Answer} (h : ∀ s, ScoresOk s → ScoresOk (f s).state) {s : State}
    (ok : ScoresOk s) : ScoresOk (inRunOnly f s).state := by
  unfold inRunOnly; split
  · exact h s ok
  · exact ok

theorem inConfigOnly_scores {f : State → Answer} (h : ∀ s, ScoresOk s → ScoresOk (f s).state) {s : State}
    (ok : ScoresOk s) : ScoresOk (inConfigOnly f s).state := by
  unfold inConfigOnly; split
  · exact ok
  · exact h s ok

theorem reqCommit_scores (c : GaugeCounts) {s : State} (h : ScoresOk s) : ScoresOk (reqCommit c s).state := by
  refine inConfigOnly_scores (fun s h => ?_) h
  dsimp only
  split
  · exact h
  · split
    · exact h
    · exact enterRun_scores c h

theorem reqClearFault_scores (n : Nat) {s : State} (h : ScoresOk s) : ScoresOk (reqClearFault n s).state :=
  match n with
  | 0 => inRunOnly_scores (fun s h => by
      split
      · exact scoresOk_of_tank (afterGate_tank _ _) (scoresOk_of_control (gateClears_control s) h)
      · exact h) h
  | 1 => inRunOnly_scores (fun s h => by
      split
      · exact scoresOk_of_tank (pumpClears_tank s) h
      · exact h) h
  | _ + 2 => inRunOnly_scores (fun _ h => h) h

theorem setGateMode_scores (m : GateMode) {s : State} (h : ScoresOk s) : ScoresOk (setGateMode m s) := by
  unfold setGateMode; dsimp only; split
  · exact scoresOk_of_tank (by rw [afterGate_tank, retarget_tank]; rfl) h
  · exact h

theorem setDrainMode_scores (m : DrainMode) {s : State} (h : ScoresOk s) : ScoresOk (setDrainMode m s) := by
  unfold setDrainMode; split_ifs
  · exact h
  · exact scoresOk_of_tank (drainModeChanges_tank m s) h
  · exact h

theorem takeRequest_scores (c : GaugeCounts) (code : Nat) (args : List Byte) {s : State} (h : ScoresOk s) :
    ScoresOk (takeRequest c code args s).state := by
  unfold takeRequest
  split
  case h_1 =>
    split
    · exact inConfigOnly_scores (fun _ h => h) h
    · exact inConfigOnly_scores (fun s h => by dsimp only; split <;> exact h) h
  case h_2 => exact reqCommit_scores c h
  case h_4 => unfold reqReadPeer; split <;> exact h
  case h_5 => unfold reqReadLogSlot; split <;> exact h
  case h_6 =>
    unfold reqReleaseRecord; split_ifs
    · exact h
    · exact h
    · exact scoresOk_of_control (releaseOldest_control s) h
  case h_11 => unfold reqReadCapture; split <;> exact h
  case h_14 => exact inRunOnly_scores (fun s h => scoresOk_of_line (stepTime_line ..) h) h
  case h_15 =>
    unfold reqGateMode; split
    · exact h
    · exact setGateMode_scores _ h
  case h_16 =>
    unfold reqDrainMode; split
    · exact h
    · exact setDrainMode_scores _ h
  case h_17 => exact inRunOnly_scores (fun s h => scoresOk_of_line (queueBody_line _ s) h) h
  case h_18 => exact inRunOnly_scores (fun _ h => silenceRequest_scores h) h
  case h_19 => exact inRunOnly_scores (fun _ h => rejoinRequest_scores h) h
  case h_20 => exact reqClearFault_scores _ h
  case h_21 => exact restartPart_scores s
  case h_22 =>
    refine inConfigOnly_scores (fun s h => ?_) h
    dsimp only
    split
    · exact h
    · split <;> exact h
  all_goals exact h

/-! ### Every step -/

/-- An event whose guard may hold it back. -/
theorem ite_scores {p : Prop} [Decidable p] {s t : State} (ok : ScoresOk s) (h : ScoresOk t) :
    ScoresOk (if p then t else s) := by
  split
  · exact h
  · exact ok

/-- R19, R20: every event keeps the scores in bounds and the standing as they give it. -/
theorem event_scores (c : Instr) (s t : State) (v : isEvent c) (h : ScoresOk s) (e : exec c s = .next t) : ScoresOk t := by
  obtain ⟨request, transaction⟩ := v
  cases c with
  | fullReset => cases e; exact ⟨Nat.zero_le _, Nat.zero_le _, fun _ => rfl, iff_of_false nofun nofun⟩
  | loopTestGathered => cases e; unfold loopGathered endLoopTest; split <;> exact h
  | loopTestTimeout => cases e; unfold loopTimeout endLoopTest; split <;> (try split) <;> exact h
  | lineFree => cases e; exact ite_scores h (takeLineFree_scores h)
  | deferralExpiry => cases e; exact ite_scores h (beginAttempt_scores h)
  | collision n => cases e; exact takeCollision_scores n h
  | lastByteDriven =>
    cases e
    split
    · exact h
    · exact ite_scores h (attemptEnds_scores _ (s := { s with trunk.lastActivity := s.elapsed }) h)
  | backoffExpiry => cases e; exact ite_scores h (scoresOk_of_line (transmitterRests_line s) h)
  | byteReceived b => cases e; exact ite_scores h (receiveByte_scores b h)
  | presenceIntervalExpiry =>
    cases e; exact ite_scores h (scoresOk_of_line (s := restartPresence s) (queueBody_line _ _) h)
  | cutoffHoldExpiry => cases e; exact ite_scores h (holdElapses_scores h)
  | claimPartStale p =>
    cases e
    split
    · exact h
    · exact ite_scores h (scoresOk_of_line (drainTakesShareNotice_line _) h)
  | claimPartRemoved p =>
    cases e
    split
    · exact h
    · exact ite_scores h (scoresOk_of_line (drainTakesShareNotice_line _) h)
  | rainLifetimeExpiry p => cases e; exact ite_scores h (scoresOk_of_line (formBranchAlert_line _) h)
  | forgetTimeExpiry p => cases e; exact h
  | limitValidityExpiry => cases e; exact ite_scores h (scoresOk_of_line (drainTakesShareNotice_line _) h)
  | anchorPreferenceLapse => cases e; exact ite_scores h h
  | trunkTimeTick => cases e; exact h
  | adjust =>
    cases e
    split
    · exact h
    · exact ite_scores h (scoresOk_of_line (makeAdjust_line s) h)
  | sample k => cases e; exact ite_scores h (scoresOk_of_line (takeSample_line k s) h)
  | rawTransition => cases e; exact h
  | filterExpiry i =>
    cases e
    split
    · exact h
    · exact scoresOk_of_line (takeEdge_line _ _ s) h
  | releaseTimerExpiry => cases e; exact ite_scores h (scoresOk_of_tank (releaseExpires_tank s) h)
  | gateTravelExpiry =>
    cases e
    exact ite_scores h (scoresOk_of_tank (afterGate_tank _ _) (scoresOk_of_control (travelExpires_control s) h))
  | retryWaitExpiry =>
    cases e
    exact ite_scores h (scoresOk_of_tank (afterGate_tank _ _) (scoresOk_of_tank (retryWaitExpires_tank s) h))
  | reversalPauseExpiry =>
    cases e
    exact ite_scores h (scoresOk_of_tank (afterGate_tank _ _) (scoresOk_of_tank (pauseExpires_tank s) h))
  | startDebounceExpiry => cases e; exact ite_scores h (scoresOk_of_line (confirmSpill_line s) h)
  | stopDebounceExpiry => cases e; exact ite_scores h (scoresOk_of_line (endSpill_line s) h)
  | minuteEnd => cases e; exact ite_scores h (scoresOk_of_control (minuteEnds_control s) h)
  | alertHoldExpiry => cases e; exact ite_scores h (scoresOk_of_control (holdExpires_control s) h)
  | rainRepeatExpiry => cases e; exact ite_scores h (scoresOk_of_control (queueRain_control s) h)
  | claimTimerExpiry => cases e; exact ite_scores h (scoresOk_of_tank (claimTimerExpires_tank s) h)
  | startTimeoutExpiry => cases e; exact ite_scores h (scoresOk_of_control (pumpTimeout_control s) h)
  | stopTimeoutExpiry => cases e; exact ite_scores h (scoresOk_of_control (pumpTimeout_control s) h)
  | restTimerExpiry => cases e; exact ite_scores h (scoresOk_of_tank (restExpires_tank s) h)
  | blockNominalEnd => cases e; exact scoresOk_of_control (blockNominalEnd_control s) h
  | transaction g n k => exact absurd rfl (transaction g n k)
  | _ => cases request

/-- Settles O53: the scores and the standing are set by the Trunk Interface alone, and each of its operations keeps them as
R19 and R20 say. -/
theorem stepKeepsScoresAndStanding : Obligations.StepKeepsScoresAndStanding :=
  step_keeps (fun _ _ h => h) (exec_keeps (fun _ _ k code args h => takeRequest_scores k code args h) (fun _ _ h => h)
    event_scores)

end Sys2Proof.Machine
end

section
/-! SUPPORT. In CONFIG every block is at rest (O56): a restart and a full reset leave it so, no timer of a block at rest can
expire, and no other command leaves RUN. -/

namespace Sys2Proof.Machine

/-! ### Leaving RUN -/

theorem inRun_of_blocks {s t : State} (h : outsideBlocks t = outsideBlocks s) : t.inRun = s.inRun := by
  obtain ⟨_, _, port⟩ := outsideBlocks_fields h
  unfold State.inRun
  rw [port]

theorem inRun_of_control {s t : State} (h : outsideControl t = outsideControl s) : t.inRun = s.inRun :=
  inRun_of_blocks (outsideBlocks_of h)

theorem inRun_of_tank {s t : State} (h : outsideTank t = outsideTank s) : t.inRun = s.inRun :=
  inRun_of_control (outsideControl_of h)

theorem ite_inRun {p : Prop} [Decidable p] {s t : State} (h : t.inRun = s.inRun) :
    (if p then t else s).inRun = s.inRun := by
  split
  · exact h
  · rfl

/-- No event but a full reset changes the run state. -/
theorem event_inRun {c : Instr} {s t : State} (v : isEvent c) (reset : c ≠ .fullReset) (e : exec c s = .next t) :
    t.inRun = s.inRun := by
  obtain ⟨request, transaction⟩ := v
  cases c with
  | fullReset => exact absurd rfl reset
  | loopTestGathered => cases e; unfold loopGathered endLoopTest; split <;> rfl
  | loopTestTimeout => cases e; unfold loopTimeout endLoopTest; split <;> (try split) <;> rfl
  | lineFree => cases e; exact ite_inRun (inRun_of_blocks (takeLineFree_blocks s))
  | deferralExpiry => cases e; exact ite_inRun (inRun_of_blocks (beginAttempt_blocks s))
  | collision n => cases e; exact inRun_of_blocks (takeCollision_blocks n s)
  | lastByteDriven =>
    cases e
    split
    · rfl
    · exact ite_inRun (inRun_of_blocks ((attemptEnds_blocks _ _).trans rfl))
  | backoffExpiry => cases e; exact ite_inRun (inRun_of_blocks (transmitterRests_blocks s))
  | byteReceived b => cases e; exact ite_inRun (inRun_of_blocks (receiveByte_blocks b s))
  | presenceIntervalExpiry => cases e; exact ite_inRun (inRun_of_blocks (queueBody_blocks _ _))
  | cutoffHoldExpiry => cases e; exact ite_inRun (inRun_of_blocks (holdElapses_blocks s))
  | claimPartStale p =>
    cases e
    split
    · rfl
    · exact ite_inRun (inRun_of_blocks (claimGoesStale_blocks p s))
  | claimPartRemoved p =>
    cases e
    split
    · rfl
    · exact ite_inRun (inRun_of_blocks (claimGoes_blocks p s))
  | rainLifetimeExpiry p => cases e; exact ite_inRun (inRun_of_blocks (rainGoes_blocks p s))
  | forgetTimeExpiry p => cases e; rfl
  | limitValidityExpiry => cases e; exact ite_inRun (inRun_of_blocks (limitLapses_blocks s))
  | anchorPreferenceLapse => cases e; exact ite_inRun rfl
  | trunkTimeTick => cases e; rfl
  | adjust =>
    cases e
    split
    · rfl
    · exact ite_inRun (inRun_of_blocks (makeAdjust_blocks s))
  | sample k => cases e; exact ite_inRun (inRun_of_blocks (takeSample_blocks k s))
  | rawTransition => cases e; rfl
  | filterExpiry i =>
    cases e
    split
    · rfl
    · exact inRun_of_blocks (takeEdge_blocks _ _ s)
  | releaseTimerExpiry => cases e; exact ite_inRun (inRun_of_tank (releaseExpires_tank s))
  | gateTravelExpiry =>
    cases e; exact ite_inRun (inRun_of_control ((afterGate_control _ _).trans (travelExpires_control s)))
  | retryWaitExpiry =>
    cases e; exact ite_inRun (inRun_of_tank ((afterGate_tank _ _).trans (retryWaitExpires_tank s)))
  | reversalPauseExpiry => cases e; exact ite_inRun (inRun_of_tank ((afterGate_tank _ _).trans (pauseExpires_tank s)))
  | startDebounceExpiry => cases e; exact ite_inRun (inRun_of_blocks (confirmSpill_blocks s))
  | stopDebounceExpiry => cases e; exact ite_inRun (inRun_of_blocks (endSpill_blocks s))
  | minuteEnd => cases e; exact ite_inRun (inRun_of_control (minuteEnds_control s))
  | alertHoldExpiry => cases e; exact ite_inRun (inRun_of_control (holdExpires_control s))
  | rainRepeatExpiry => cases e; exact ite_inRun (inRun_of_control (queueRain_control s))
  | claimTimerExpiry => cases e; exact ite_inRun (inRun_of_tank (claimTimerExpires_tank s))
  | startTimeoutExpiry => cases e; exact ite_inRun (inRun_of_control (pumpTimeout_control s))
  | stopTimeoutExpiry => cases e; exact ite_inRun (inRun_of_control (pumpTimeout_control s))
  | restTimerExpiry => cases e; exact ite_inRun (inRun_of_tank (restExpires_tank s))
  | blockNominalEnd => cases e; exact inRun_of_control (blockNominalEnd_control s)
  | transaction g n k => exact absurd rfl (transaction g n k)
  | _ => cases request

/-! ### At rest -/

/-- Every block at rest (1.2.2). -/
def AtRest (s : State) : Prop :=
  s.trunk.atRest ∧ s.peers = .reset ∧ s.time.nextAdjust = none ∧ s.time.anchorPref = none ∧ s.input.atRest ∧
  s.tank.atRest ∧ s.spill.atRest ∧ s.rain.atRest ∧ s.drain.atRest ∧ s.counter.atRest

theorem configAtRest_iff {s : State} : ConfigAtRest s ↔ (s.inRun = false → AtRest s) := Iff.rfl

theorem configAtRest_of_run {s : State} (h : s.inRun = true) : ConfigAtRest s := fun c => by simp [h] at c

theorem configAtRest_of_rest {s : State} (h : AtRest s) : ConfigAtRest s := fun _ => h

@[simp] theorem due_none (s : State) : s.due none = false := rfl

/-- A gate at rest neither moves nor waits. -/
theorem restGate_rests {g : Option GateState} (h : restGate g = g) :
    g ≠ some .opening ∧ g ≠ some .closing ∧ g ≠ some .retryWait ∧ g ≠ some .reversing := by
  refine ⟨?_, ?_, ?_, ?_⟩ <;> rintro rfl <;> cases h

theorem restGate_restGate (g : Option GateState) : restGate (restGate g) = restGate g := by
  rcases g with _ | g
  · rfl
  · cases g <;> rfl

/-- The inputs of a part at rest, one by one. -/
theorem InputUnit.atRest.digital {i : InputUnit} (h : i.atRest) (k : DigitalIn) : (i.digital.get k).atRest := by
  obtain ⟨tip, opens, closes, float, pump, _⟩ := h
  cases k <;> assumption

/-- R70 b: while the recognised level is undetermined, a contact changes its raw level alone. -/
theorem contactMoves_atRest {d : DigitalInput} (h : d.atRest) (level : Bool) (now : Stamped) :
    (contactMoves level now d).atRest := by
  obtain ⟨raw, recognised, candidate, rising, falling⟩ := d
  obtain ⟨rfl, rfl⟩ := h
  unfold contactMoves
  split <;> exact ⟨rfl, rfl⟩

theorem setInput_atRest {s : State} (h : s.input.atRest) (k : DigitalIn) {d : DigitalInput} (r : d.atRest) :
    (setInput k d s).input.atRest := by
  obtain ⟨tip, opens, closes, float, pump, others⟩ := h
  cases k
  · exact ⟨r, opens, closes, float, pump, others⟩
  · exact ⟨tip, r, closes, float, pump, others⟩
  · exact ⟨tip, opens, r, float, pump, others⟩
  · exact ⟨tip, opens, closes, r, pump, others⟩
  · exact ⟨tip, opens, closes, float, r, others⟩

/-! ### Events at rest -/

/-- In CONFIG a disregarded attempt ends with the transmitter IDLE. -/
theorem endDisregarded_config {s : State} (config : s.inRun = false) :
    endDisregarded s = idleTransmitter { s with trunk.attempt := none } :=
  if_neg (show ¬ s.inRun = true by simp [config])

theorem endDisregarded_rests {s : State} (config : s.inRun = false) (h : AtRest s) : AtRest (endDisregarded s) := by
  obtain ⟨⟨rx, _, _, lines⟩, others⟩ := h
  rw [endDisregarded_config config]
  exact ⟨⟨rx, .inl rfl, fun _ h => (by cases h), lines⟩, others⟩

theorem takeCollision_rests {s : State} (n : Nat) (config : s.inRun = false) (h : AtRest s) :
    AtRest (takeCollision n s) := by
  have disregarded := h.1.2.2.1
  unfold takeCollision
  simp only [config, Bool.false_eq_true, if_false]
  split
  · exact h
  · next a ha =>
    rw [attemptCollides, if_pos (disregarded a ha)]
    exact endDisregarded_rests config h

theorem attemptEnds_rests {s : State} {a : Attempt} (ha : s.trunk.attempt = some a) (config : s.inRun = false)
    (h : AtRest s) : AtRest (attemptEnds a { s with trunk.lastActivity := s.elapsed }) := by
  rw [attemptEnds, if_pos (h.1.2.2.1 a ha)]
  exact endDisregarded_rests config h

/-- In CONFIG no event but a full reset takes a block at rest from its rest. -/
theorem event_rests {c : Instr} {s t : State} (v : isEvent c) (reset : c ≠ .fullReset) (config : s.inRun = false)
    (h : AtRest s) (e : exec c s = .next t) : AtRest t := by
  have rest := h
  obtain ⟨⟨rx, tx, disregarded, _, _, _, hold, presence⟩, peers, adjust, preference, input, tank, spill, rain, drain,
    counter⟩ := h
  obtain ⟨_, _, release, _, _, gateTimer, _, gate⟩ := tank
  obtain ⟨spillState, _⟩ := spill
  obtain ⟨_, minute, _, alertHold, rainRepeat, _⟩ := rain
  obtain ⟨_, _, _, claimTarget, pumpTimer, restTimer, _⟩ := drain
  obtain ⟨_, _, current, _⟩ := counter
  obtain ⟨opening, closing, retryWait, reversing⟩ := restGate_rests gate
  have waits : s.trunk.tx ≠ .defer ∧ s.trunk.tx ≠ .backoff := by rcases tx with h | h <;> simp [h]
  have noClaim : ∀ p, claimPartAt p s = none := fun p => by rw [claimPartAt, peers]; rfl
  have noRain : ∀ p, rainDue p s = false := fun p => by rw [rainDue, peers]; rfl
  have noLimit : limitDue s = false := by rw [limitDue, peers]; rfl
  have noEdge : ∀ i, filterDue i s = none := fun i => by rw [filterDue, (input.digital i).2]
  have noGap : idleGapSeen s = false := by simp [idleGapSeen, config]
  have noClaimTimer : claimTimerDue s = false := by rw [claimTimerDue, claimTarget]
  obtain ⟨request, transaction⟩ := v
  cases c with
  | fullReset => exact absurd rfl reset
  | loopTestGathered => cases e; unfold loopGathered endLoopTest; split <;> exact rest
  | loopTestTimeout => cases e; unfold loopTimeout endLoopTest; split <;> (try split) <;> exact rest
  | lineFree => cases e; rw [noGap]; exact rest
  | deferralExpiry => cases e; rw [if_neg fun x => waits.1 x.1]; exact rest
  | collision n => cases e; exact takeCollision_rests n config rest
  | lastByteDriven =>
    cases e
    split
    · exact rest
    · next a ha =>
      split
      · exact attemptEnds_rests ha config rest
      · exact rest
  | backoffExpiry => cases e; rw [if_neg fun x => waits.2 x.1]; exact rest
  | byteReceived b => cases e; rw [config]; exact rest
  | presenceIntervalExpiry => cases e; rw [presence]; exact rest
  | cutoffHoldExpiry => cases e; rw [hold]; exact rest
  | claimPartStale p => cases e; rw [noClaim]; exact rest
  | claimPartRemoved p => cases e; rw [noClaim]; exact rest
  | rainLifetimeExpiry p => cases e; rw [noRain]; exact rest
  | forgetTimeExpiry p =>
    cases e
    have forgotten : (forgetEntry p s).peers = .reset := by unfold forgetEntry setEntries; dsimp only; rw [peers]; rfl
    exact ⟨rest.1, forgotten, rest.2.2⟩
  | limitValidityExpiry => cases e; rw [noLimit]; exact rest
  | anchorPreferenceLapse => cases e; rw [preference]; exact rest
  | trunkTimeTick => cases e; exact rest
  | adjust => cases e; rw [adjust]; exact rest
  | sample k => cases e; rw [input.2.2.2.2.2.1]; exact rest
  | rawTransition i level =>
    cases e
    exact ⟨rest.1, peers, adjust, preference, setInput_atRest input i (contactMoves_atRest (input.digital i) level _),
      rest.2.2.2.2.2⟩
  | filterExpiry i => cases e; rw [noEdge]; exact rest
  | releaseTimerExpiry => cases e; rw [release]; exact rest
  | gateTravelExpiry => cases e; rw [gateTimer]; simpa using rest
  | retryWaitExpiry => cases e; rw [if_neg fun x => retryWait x.1]; exact rest
  | reversalPauseExpiry => cases e; rw [if_neg fun x => reversing x.1]; exact rest
  | startDebounceExpiry => cases e; rw [spillState]; exact rest
  | stopDebounceExpiry => cases e; rw [spillState]; exact rest
  | minuteEnd => cases e; rw [minute]; exact rest
  | alertHoldExpiry => cases e; rw [alertHold]; exact rest
  | rainRepeatExpiry => cases e; rw [rainRepeat]; exact rest
  | claimTimerExpiry => cases e; rw [noClaimTimer]; exact rest
  | startTimeoutExpiry => cases e; rw [pumpTimer]; simpa using rest
  | stopTimeoutExpiry => cases e; rw [pumpTimer]; simpa using rest
  | restTimerExpiry => cases e; rw [restTimer]; exact rest
  | blockNominalEnd => cases e; rw [blockNominalEnd, current]; exact rest
  | transaction g n k => exact absurd rfl (transaction g n k)
  | _ => cases request

/-! ### A full reset, a restart and the requests -/

theorem resetPart_rests (s : State) : AtRest (resetPart s) :=
  ⟨⟨rfl, .inl rfl, fun _ h => (by cases h), rfl, rfl, rfl, rfl, rfl⟩, rfl, rfl, rfl,
    ⟨⟨rfl, rfl⟩, ⟨rfl, rfl⟩, ⟨rfl, rfl⟩, ⟨rfl, rfl⟩, ⟨rfl, rfl⟩, rfl, rfl, rfl, rfl, rfl⟩,
    ⟨rfl, rfl, rfl, rfl, rfl, rfl, rfl, rfl⟩, ⟨rfl, rfl⟩, ⟨rfl, rfl, rfl, rfl, rfl, rfl⟩,
    ⟨rfl, rfl, rfl, rfl, rfl, rfl, rfl⟩, ⟨rfl, rfl, rfl, rfl, rfl⟩⟩

/-- R24: the Trunk Interface after a restart. -/
theorem trunkRestarts_rests (s : State) : (trunkRestarts s).trunk.atRest := by
  have rest : ∀ t : State, t.trunk = { s.trunk with
      slots := ⟨.empty, .empty, .empty, .empty⟩, txScore := 0, rxScore := 0, standing := .normal, cutoffHold := none
      presence := none, rx := .off, lineFree := false, txUntil := none
      tx := if s.trunk.tx = .send then .send else .idle
      attempt := s.trunk.attempt.map fun a => { a with disregarded := true } } → t.trunk.atRest := by
    intro t h
    rw [h]
    refine ⟨rfl, ?_, ?_, rfl, rfl, rfl, rfl, rfl⟩
    · dsimp only; split
      · exact .inr rfl
      · exact .inl rfl
    · intro a ha
      obtain ⟨b, _, rfl⟩ := Option.map_eq_some_iff.mp ha
      rfl
  unfold trunkRestarts
  dsimp only
  split <;> exact rest _ rfl

/-- R138: the Rain Unit after a restart; the rest of the blocks stays, but for the flags. -/
theorem rainRestarts_rests (s : State) : (rainRestarts s).rain.atRest ∧
    outsideControl (rainRestarts s) = outsideControl s ∧ (rainRestarts s).drain = s.drain ∧
    (rainRestarts s).tank = s.tank ∧ (rainRestarts s).input = s.input ∧ (rainRestarts s).trunk = s.trunk ∧
    (rainRestarts s).counter = s.counter := by
  unfold rainRestarts
  dsimp only
  split <;> exact ⟨⟨rfl, rfl, rfl, rfl, rfl, rfl⟩, rfl, rfl, rfl, rfl, rfl, rfl⟩

theorem setClock_leaves (c : ClockState) (s : State) :
    (setClock c s).trunk = s.trunk ∧ (setClock c s).peers = s.peers ∧ (setClock c s).counter = s.counter ∧
    (setClock c s).time = { s.time with clock := c } := by
  unfold setClock
  split
  · next same => exact ⟨rfl, rfl, rfl, by rw [same]⟩
  · exact ⟨rfl, rfl, rfl, rfl⟩

theorem timeRestarts_rests (s : State) :
    (timeRestarts s).time.nextAdjust = none ∧ (timeRestarts s).time.anchorPref = none ∧
    (timeRestarts s).trunk = s.trunk ∧ (timeRestarts s).peers = s.peers ∧ (timeRestarts s).counter = s.counter := by
  unfold timeRestarts
  dsimp only
  split
  · obtain ⟨trunk, peers, counter, time⟩ := setClock_leaves .following { s with time := { s.time with
      e := 0, settleRun := 0, outlierRun := 0, anchorPref := none, lastSample := none, nextAdjust := none } }
    rw [trunk, peers, counter, time]
    exact ⟨rfl, rfl, rfl, rfl, rfl⟩
  · exact ⟨rfl, rfl, rfl, rfl, rfl⟩

theorem pumpDriven_afterRestart (b : Bool) : pumpDriven (some (if b then .stopping else .stopped)) = false := by
  cases b <;> rfl

/-- R191: a restart leaves every block at rest. -/
theorem restartPart_rests (s : State) : AtRest (restartPart s) := by
  have counterRest : (trunkRestarts (counterRestarts s)).counter = (counterRestarts s).counter := by
    unfold trunkRestarts; dsimp only; split <;> rfl
  obtain ⟨adjust, preference, trunk, peers, counter⟩ :=
    timeRestarts_rests { trunkRestarts (counterRestarts s) with peers := .reset }
  have before : ∃ u, restartPart s = portRestarts (drainRestarts (rainRestarts (spillRestarts (tankRestarts (inputRestarts u)))))
      ∧ u.trunk.atRest ∧ u.peers = .reset ∧ u.time.nextAdjust = none ∧ u.time.anchorPref = none ∧ u.counter.atRest :=
    ⟨_, rfl, by rw [trunk]; exact trunkRestarts_rests _, by rw [peers], adjust, preference, by
      rw [counter, counterRest]; exact ⟨rfl, rfl, rfl, rfl, rfl⟩⟩
  obtain ⟨u, eq, trunkRest, peersRest, noAdjust, noPreference, counterRest⟩ := before
  obtain ⟨rain, outside, drain, tank, input, trunk, counter⟩ :=
    rainRestarts_rests (spillRestarts (tankRestarts (inputRestarts u)))
  obtain ⟨_, peers, time, spill, _⟩ := outsideControl_fields outside
  rw [eq]
  refine ⟨?_, ?_, ?_, ?_, ?_, ?_, ?_, rain, ⟨rfl, rfl, rfl, rfl, rfl, rfl, pumpDriven_afterRestart _⟩, ?_⟩
  · exact trunk ▸ trunkRest
  · exact peers.trans peersRest
  · exact (congrArg TimeUnit.nextAdjust time).trans noAdjust
  · exact (congrArg TimeUnit.anchorPref time).trans noPreference
  · exact input ▸ ⟨⟨rfl, rfl⟩, ⟨rfl, rfl⟩, ⟨rfl, rfl⟩, ⟨rfl, rfl⟩, ⟨rfl, rfl⟩, rfl, rfl, rfl, rfl, rfl⟩
  · exact tank ▸ ⟨rfl, rfl, rfl, rfl, rfl, rfl, rfl, restGate_restGate _⟩
  · exact spill ▸ ⟨rfl, rfl⟩
  · exact counter ▸ counterRest

/-- A record's release touches nothing of the Spill Counter but the log, the pending records and the totals. -/
theorem placePending_rests (rs : List SpillRecord) {s : State} (h : AtRest s) : AtRest (placePending rs s) := by
  induction rs generalizing s with
  | nil => exact h
  | cons r rs ih =>
    unfold placePending
    split
    · exact ih h
    · exact h

theorem enterRun_inRun (c : GaugeCounts) (s : State) : (enterRun c s).inRun = true := by
  unfold enterRun
  rw [inRun_of_blocks (blocksEnter_blocks c _)]
  rfl

/-- A request that is taken in RUN only leaves the part in RUN, or leaves it alone. -/
theorem inRunOnly_rests {f : State → Answer} (h : ∀ s, s.inRun = true → (f s).state.inRun = true) {s : State}
    (ok : ConfigAtRest s) : ConfigAtRest (inRunOnly f s).state := by
  unfold inRunOnly
  split
  · next run => exact configAtRest_of_run (h s run)
  · exact ok

theorem inConfigOnly_rests {f : State → Answer} (h : ∀ s, AtRest s → ConfigAtRest (f s).state) {s : State}
    (ok : ConfigAtRest s) : ConfigAtRest (inConfigOnly f s).state := by
  unfold inConfigOnly
  split
  · exact ok
  · next config => exact h s (ok (by simpa using config))

theorem reqCommit_rests (c : GaugeCounts) {s : State} (ok : ConfigAtRest s) : ConfigAtRest (reqCommit c s).state := by
  refine inConfigOnly_rests (fun s h => ?_) ok
  dsimp only
  split
  · exact configAtRest_of_rest h
  · split
    · exact configAtRest_of_rest h
    · exact configAtRest_of_run (enterRun_inRun c s)

theorem setGateMode_rests (m : GateMode) {s : State} (ok : ConfigAtRest s) : ConfigAtRest (setGateMode m s) := by
  unfold setGateMode
  dsimp only
  split
  · next run =>
    refine configAtRest_of_run ?_
    rw [inRun_of_tank ((afterGate_tank _ _).trans (retarget_tank _))]; exact run
  · exact ok

theorem setDrainMode_rests (m : DrainMode) {s : State} (ok : ConfigAtRest s) : ConfigAtRest (setDrainMode m s) := by
  unfold setDrainMode
  split_ifs with _ run
  · exact ok
  · exact configAtRest_of_run ((inRun_of_tank (drainModeChanges_tank m s)).trans run)
  · exact ok

theorem reqClearFault_rests (n : Nat) {s : State} (ok : ConfigAtRest s) : ConfigAtRest (reqClearFault n s).state :=
  match n with
  | 0 => inRunOnly_rests (fun s run => by
      split
      · exact (inRun_of_control ((afterGate_control _ _).trans (gateClears_control s))).trans run
      · exact run) ok
  | 1 => inRunOnly_rests (fun s run => by
      split
      · exact (inRun_of_tank (pumpClears_tank s)).trans run
      · exact run) ok
  | _ + 2 => inRunOnly_rests (fun _ run => run) ok

theorem clearCaptures_rests (i : DigitalIn) {s : State} (ok : ConfigAtRest s) : ConfigAtRest (clearCaptures i s) := by
  intro config
  obtain ⟨trunk, peers, adjust, preference, input, others⟩ := ok config
  exact ⟨trunk, peers, adjust, preference, setInput_atRest input i (input.digital i), others⟩

theorem takeRequest_rests (c : GaugeCounts) (code : Nat) (args : List Byte) {s : State} (ok : ConfigAtRest s) :
    ConfigAtRest (takeRequest c code args s).state := by
  unfold takeRequest
  split
  case h_1 =>
    split
    · exact inConfigOnly_rests (fun _ h => configAtRest_of_rest h) ok
    · refine inConfigOnly_rests (fun s h => ?_) ok
      dsimp only
      split <;> exact configAtRest_of_rest h
  case h_2 => exact reqCommit_rests c ok
  case h_4 => unfold reqReadPeer; split <;> exact ok
  case h_5 => unfold reqReadLogSlot; split <;> exact ok
  case h_6 =>
    unfold reqReleaseRecord; split_ifs
    · exact ok
    · exact ok
    · intro config
      rw [show (doneWith (releaseOldest s)).state = releaseOldest s from rfl,
        inRun_of_control (releaseOldest_control s)] at config
      exact placePending_rests _ (ok config)
  case h_11 =>
    unfold reqReadCapture; split
    · exact ok
    · exact clearCaptures_rests _ ok
  case h_14 => exact inRunOnly_rests (fun s run => (inRun_of_blocks (stepTime_blocks ..)).trans run) ok
  case h_15 =>
    unfold reqGateMode; split
    · exact ok
    · exact setGateMode_rests _ ok
  case h_16 =>
    unfold reqDrainMode; split
    · exact ok
    · exact setDrainMode_rests _ ok
  case h_17 => exact inRunOnly_rests (fun s run => (inRun_of_tank (queueBody_tank _ s)).trans run) ok
  case h_18 => exact inRunOnly_rests (fun s run => (inRun_of_blocks (silenceRequest_blocks s)).trans run) ok
  case h_19 => exact inRunOnly_rests (fun s run => (inRun_of_blocks (rejoinRequest_blocks s)).trans run) ok
  case h_20 => exact reqClearFault_rests _ ok
  case h_21 => exact configAtRest_of_rest (restartPart_rests s)
  case h_22 =>
    refine inConfigOnly_rests (fun s h => ?_) ok
    dsimp only
    split
    · exact configAtRest_of_rest h
    · split <;> exact configAtRest_of_rest h
  all_goals exact ok

/-! ### Every step -/

theorem event_configAtRest (c : Instr) (s t : State) (v : isEvent c) (ok : ConfigAtRest s) (e : exec c s = .next t) :
    ConfigAtRest t := by
  by_cases reset : c = .fullReset
  · subst reset
    cases e
    exact configAtRest_of_rest (resetPart_rests s)
  · intro config
    have before : s.inRun = false := (event_inRun v reset e).symm.trans config
    exact event_rests v reset before (ok before) e

/-- Settles O56: RESTART and FULL_RESET alone lead to CONFIG, and at rest no timer runs that could move a block. -/
theorem stepKeepsConfigAtRest : Obligations.StepKeepsConfigAtRest :=
  step_keeps (fun _ _ ok => ok) (exec_keeps (fun _ _ k code args ok => takeRequest_rests k code args ok) (fun _ _ ok => ok)
    event_configAtRest)

end Sys2Proof.Machine
end

section
/-! SUPPORT. A full reset: the reset values block by block (O4), and the invariants that hold of them (O51). -/

namespace Sys2Proof.Machine

/-- Settles O4: a full reset is the reset state with the contacts and the queue kept, so each value is read off. -/
theorem fullResetOtherBlocks : Obligations.FullResetOtherBlocks := by
  intro s
  have contacts : ∀ i : DigitalIn, ((resetPart s).input.digital.get i).raw = (s.input.digital.get i).raw := by
    intro i; cases i <;> rfl
  have uses : ∀ i, i < 4 → ((resetPart s).port.items.accept.get i).uses = ⟨false, false, false, false⟩ := by
    intro i h
    match i, h with
    | 0, _ => rfl
    | 1, _ => rfl
    | 2, _ => rfl
    | 3, _ => rfl
  refine ⟨resetPart s, rfl, rfl, contacts, ?_⟩
  and_intros
  on_goal 10 => exact uses
  all_goals intros; rfl

/-- The reset state with any contacts, free values and queue. -/
def resetWith (d : PerInput DigitalInput) (f : FreeCounters) (q : List Instr) : State :=
  { State.reset with input.digital := d, free := f, pending := q }

theorem resetWith_log (d : PerInput DigitalInput) (f : FreeCounters) (q : List Instr) :
    LogOk (resetWith d f q) ∧ LogHoldsRecords (resetWith d f q) := by
  have start : (0 : Nat) < 48 := by decide
  have none : ∀ r ∈ ([] : List SpillRecord), r.entries.length ≤ 60 := fun _ h => absurd h List.not_mem_nil
  refine ⟨⟨rfl, start, start, rfl, nofun⟩, none, [], none, ⟨Nat.zero_le _, rfl, fun i h => ?_, ?_⟩, rfl⟩
  · have owner : (List.replicate 48 LogOwner.log)[(0 + i) % 48]? = some .log := by
      rw [List.getElem?_replicate, if_pos (Nat.mod_lt _ (by decide))]
    exact iff_of_false (fun host => by cases owner.symm.trans host) (Nat.not_lt_zero i)
  · intro before r after h
    simp at h

/-- The eleven invariants hold of a reset state whose inputs are at rest. -/
theorem resetWith_invariants {d : PerInput DigitalInput} (rest : ∀ i, (d.get i).atRest) (f : FreeCounters)
    (q : List Instr) :
    AttentionOk (resetWith d f q) ∧ LogOk (resetWith d f q) ∧ ScoresOk (resetWith d f q) ∧ PeersOk (resetWith d f q) ∧
    TimeOk (resetWith d f q) ∧ ConfigAtRest (resetWith d f q) ∧ DrivesOk (resetWith d f q) ∧
    SetpointOk (resetWith d f q) ∧ AlertsOk (resetWith d f q) ∧ CountingOk (resetWith d f q) ∧
    LogHoldsRecords (resetWith d f q) := by
  obtain ⟨log, records⟩ := resetWith_log d f q
  have input : (resetWith d f q).input.atRest :=
    ⟨rest .rainTip, rest .gateOpenLimit, rest .gateClosedLimit, rest .spillFloat, rest .pumpRunning, rfl, rfl, rfl, rfl, rfl⟩
  have config : ConfigAtRest (resetWith d f q) := fun _ =>
    ⟨⟨rfl, .inl rfl, fun _ h => absurd h.symm (Option.some_ne_none _), rfl, rfl, rfl, rfl, rfl⟩, rfl, rfl, rfl, input,
      ⟨rfl, rfl, rfl, rfl, rfl, rfl, rfl, rfl⟩, ⟨rfl, rfl⟩, ⟨rfl, rfl, rfl, rfl, rfl, rfl⟩,
      ⟨rfl, rfl, rfl, rfl, rfl, rfl, rfl⟩, ⟨rfl, rfl, rfl, rfl, rfl⟩⟩
  have minimum : 1 ≤ factoryItems.pumpMin := by decide
  have rate : (0 : Nat) = 0 * 1000 / 100 := by decide
  have attention : false = attentionOf 0 0 := by decide
  have unheld : (none : Option Nat).isSome = true ↔ Standing.normal = .cutOff .score := by decide
  have counting : CountingOk (resetWith d f q) :=
    ⟨fun _ h => absurd h.symm (Option.some_ne_none _), rfl, fun h => absurd h Bool.false_ne_true, Nat.zero_le _⟩
  have setpoint : SetpointOk (resetWith d f q) :=
    ⟨minimum, minimum, Nat.zero_le _, Nat.zero_le _, fun h => absurd h Bool.false_ne_true,
      fun h => absurd h (by decide : AlertLevel.clear ≠ .severe), fun h => absurd h (by decide : TankState.off ≠ .draining),
      fun h => absurd rfl h⟩
  exact ⟨attention, log, ⟨Nat.zero_le _, Nat.zero_le _, fun _ => rfl, unheld⟩,
    ⟨Nat.zero_le _, .nil, fun _ h => absurd h List.not_mem_nil⟩, ⟨Nat.zero_le _, Nat.zero_le _, fun _ => rfl⟩, config,
    ⟨rfl, rfl, fun h => absurd rfl h, rate⟩, setpoint,
    fun run => absurd run Bool.false_ne_true, counting, records⟩

/-- Settles O51: both states are the reset state but for contacts, free values and queue. -/
theorem invariantsHoldAfterReset : Obligations.InvariantsHoldAfterReset := by
  rintro s t (rfl | e)
  · exact resetWith_invariants (d := InputUnit.reset.digital) (fun i => by cases i <;> exact ⟨rfl, rfl⟩) _ _
  · cases e
    exact resetWith_invariants (d := s.input.digital.map DigitalInput.fullReset)
      (fun i => by cases i <;> exact ⟨rfl, rfl⟩) _ _

end Sys2Proof.Machine
end

section
/-! SUPPORT. The transmit slots and the transmitter's wait: the eligible slot of the highest priority and the attempt that
it begins (O29), and the bulletins that the presence interval and the claim timer queue (O36). -/

namespace Sys2Proof.Machine

theorem due_some {s : State} {x : Nat} (h : x ≤ s.elapsed) : s.due (some x) = true := decide_eq_true h

/-! ### The eligible slot of the highest priority -/

theorem isWaiting_iff {v : Slot} : v.isWaiting = true ↔ ∃ b n, v = .waiting b n := by
  cases v <;> simp [Slot.isWaiting]

/-- R5: the standings that allow a kind. -/
theorem allows_iff {st : Standing} {k : Kind} : st.allows k = true ↔
    st = .normal ∨ st = .warned ∨ (st = .quiet ∧ (k = .rain ∨ k = .claim)) := by
  cases st <;> cases k <;> simp [Standing.allows]

theorem eligible_iff {t : Trunk} {k : Kind} : t.eligible k = true ↔ (∃ b n, t.slots.get k = .waiting b n) ∧
    (t.standing = .normal ∨ t.standing = .warned ∨ (t.standing = .quiet ∧ (k = .rain ∨ k = .claim))) := by
  rw [Trunk.eligible, Bool.and_eq_true, isWaiting_iff, allows_iff]

/-- R5: RAIN before LIMIT before CLAIM before PRESENCE. -/
theorem firstEligible_iff (t : Trunk) :
    (t.firstEligible = some .rain ↔ t.eligible .rain = true) ∧
    (t.firstEligible = some .limit ↔ ¬ t.eligible .rain = true ∧ t.eligible .limit = true) ∧
    (t.firstEligible = some .claim ↔
      ¬ t.eligible .rain = true ∧ ¬ t.eligible .limit = true ∧ t.eligible .claim = true) ∧
    (t.firstEligible = some .presence ↔ ¬ t.eligible .rain = true ∧ ¬ t.eligible .limit = true ∧
      ¬ t.eligible .claim = true ∧ t.eligible .presence = true) := by
  unfold Trunk.firstEligible
  split_ifs <;> simp_all

theorem firstEligible_eligible {t : Trunk} {k : Kind} (h : t.firstEligible = some k) : t.eligible k = true := by
  obtain ⟨rain, limit, claim, presence⟩ := firstEligible_iff t
  cases k with
  | rain => exact rain.mp h
  | limit => exact (limit.mp h).2
  | claim => exact (claim.mp h).2.2
  | presence => exact (presence.mp h).2.2.2

theorem firstEligible_none_iff {t : Trunk} : t.firstEligible = none ↔ ∀ k, t.eligible k = false := by
  constructor
  · intro h k
    unfold Trunk.firstEligible at h
    split_ifs at h with rain limit claim presence
    cases k <;> simp_all
  · intro h
    simp [Trunk.firstEligible, h]

/-- R5: CUT_OFF and SILENCED let nothing be sent. -/
theorem firstEligible_of_silent {t : Trunk} (h : t.standing.silent = true) : t.firstEligible = none := by
  refine firstEligible_none_iff.mpr fun k => ?_
  unfold Trunk.eligible
  cases e : t.standing <;> simp_all [Standing.silent, Standing.allows]

/-! ### An attempt begins -/

/-- R8: the attempt that the slot of a kind, waiting with a body, begins. -/
theorem startAttempt_waiting {s : State} {k : Kind} {b : Body} {n : Nat} (h : s.trunk.slots.get k = .waiting b n) :
    startAttempt k s = { s with trunk := { s.trunk with
      slots := s.trunk.slots.set k (.sending b n none), tx := .send, txUntil := none, lineFree := false
      lastActivity := s.elapsed
      attempt := some { kind := k, body := b, stamp := s.time.t, echo := none, disregarded := false
                        began := s.elapsed
                        bytes := composeBulletin b s.ownAddress s.time.clock (decide (s.trunk.standing = .quiet))
                          s.time.t } } } := by
  unfold startAttempt
  rw [h]
  rfl

/-- Settles O29: the eligible slot of the highest priority is taken and its attempt begins. -/
theorem deferralEndBeginsAttempt : Obligations.DeferralEndBeginsAttempt := by
  intro s x tx until_ due
  have taken : s.trunk.tx = .defer ∧ s.due s.trunk.txUntil = true := ⟨tx, by rw [until_]; exact due_some due⟩
  refine ⟨fun may h => ?_, fun none => ?_, fun k b n first slot => ?_⟩
  · have eligible : ∀ k, may k ↔ s.trunk.eligible k = true := fun k => (h k).trans eligible_iff.symm
    simp only [eligible]
    exact firstEligible_iff s.trunk
  · refine ⟨_, rfl, ?_⟩
    rw [if_pos taken, beginAttempt, none]
    rfl
  · refine ⟨_, rfl, ?_⟩
    rw [if_pos taken, beginAttempt, first]
    exact startAttempt_waiting slot

/-! ### The presence interval and the claim timer -/

theorem slots_set_presence (x : Slots) (v : Slot) : x.set .presence v = { x with presence := v } := rfl

theorem slots_set_claim (x : Slots) (v : Slot) : x.set .claim v = { x with claim := v } := rfl

/-- R4: what queuing does to each state of a slot. -/
theorem slot_queue (b : Body) (v : Slot) : v.queue b = match v with
    | .empty => .waiting b 0
    | .waiting _ n => .waiting b n
    | .sending cur n _ => .sending cur n (some b) := by
  cases v <;> rfl

/-- R141: within one period after t lies exactly one instant that leaves the offset modulo the period. -/
theorem next_at_offset {p d : Nat} (hd : d < p) (t : Nat) :
    let base := t - t % p + d
    let next := if t < base then base else base + p
    next % p = d ∧ t < next ∧ next ≤ t + p := by
  have whole : t - t % p = p * (t / p) := by have := Nat.div_add_mod t p; omega
  have rest : t % p < p := Nat.mod_lt _ (by omega)
  have split_ : t = p * (t / p) + t % p := (Nat.div_add_mod t p).symm
  dsimp only
  rw [whole]
  split
  · exact ⟨by rw [Nat.mul_add_mod, Nat.mod_eq_of_lt hd], by omega, by omega⟩
  · exact ⟨by rw [Nat.add_mod_right, Nat.mul_add_mod, Nat.mod_eq_of_lt hd], by omega, by omega⟩

/-- R141: the claim timer's next target. -/
theorem nextClaimInstant_spec (s : State) (t : Nat) (h : 0 < s.cfg.claimPeriod) : ∃ y,
    y % (1000 * s.cfg.claimPeriod) = stationOf s.ownAddress * s.cfg.claimSpacing % (1000 * s.cfg.claimPeriod) ∧
    t < y ∧ y ≤ t + 1000 * s.cfg.claimPeriod ∧
    nextClaimInstant s t = if y ≤ 2 ^ 48 - 1 then some y else none := by
  have offset := next_at_offset (Nat.mod_lt (stationOf s.ownAddress * s.cfg.claimSpacing)
    (by omega : 0 < 1000 * s.cfg.claimPeriod)) t
  dsimp only at offset
  obtain ⟨at_, after, within⟩ := offset
  refine ⟨_, at_, after, within, ?_⟩
  unfold nextClaimInstant maxTime
  rw [Nat.mul_comm s.cfg.claimPeriod 1000]

/-- Settles O36: each timer's expiry queues its body (`queueBody_sets`) and sets its own timer anew. -/
theorem timersQueueBulletins : Obligations.TimersQueueBulletins := by
  refine ⟨fun s x timer due => ?_, fun s x p d target due positive hp hd => ?_⟩
  · refine ⟨_, rfl, ?_⟩
    rw [if_pos (by rw [timer]; exact due_some due), queueBody_sets]
    refine ⟨?_, ?_, rfl⟩
    · exact (slots_set_presence ..).trans (by rw [slot_queue]; rfl)
    · rw [Nat.mul_comm 1000]; rfl
  · subst hp hd
    have ready : claimTimerDue s = true := by rw [claimTimerDue, target]; exact decide_eq_true due
    refine ⟨_, rfl, ?_⟩
    rw [if_pos ready, claimTimerExpires, placeClaimTimer, queueClaim, queueBody_sets]
    exact ⟨rfl, nextClaimInstant_spec s s.time.t positive, rfl⟩

end Sys2Proof.Machine
end

section
/-! SUPPORT. The notices between the Drain Controller and the Tank Controller: what the gate leaves alone, that no notice
brings the pump or the tank back to a state that it has left (`course`), and so which run of the share computation an event
leaves in force (`Passes`, `ShareRuns`). -/

namespace Sys2Proof.Machine

/-! ### What the gate leaves alone -/

/-- All but the gate's own state and its drive. -/
def outsideGate (s : State) : State :=
  { s with
    tank := { s.tank with gate := none, gateDir := none, retries := 0, gateTimer := none, target := none }
    input := { s.input with gateDrive := .off } }

theorem outsideGate_fields {s t : State} (h : outsideGate t = outsideGate s) :
    t.trunk = s.trunk ∧ t.drain = s.drain ∧ t.port = s.port ∧ t.peers = s.peers ∧ t.rain = s.rain ∧
    t.tank.state = s.tank.state ∧ t.tank.releaseTimer = s.tank.releaseTimer ∧
    t.tank.openDeferred = s.tank.openDeferred ∧ t.tank.volume = s.tank.volume ∧ t.tank.fill = s.tank.fill ∧
    t.tank.mode = s.tank.mode ∧ t.tank.assumedFull = s.tank.assumedFull := by
  simp only [outsideGate, State.mk.injEq, Tank.mk.injEq] at h
  tauto

@[simp] theorem gateArrives_gate (d : GateDir) (s : State) : outsideGate (gateArrives d s) = outsideGate s := rfl

@[simp] theorem beginTravel_gate (d : GateDir) (c : Nat) (s : State) :
    outsideGate (beginTravel d c s) = outsideGate s := by
  unfold beginTravel; split <;> rfl

@[simp] theorem reverseGate_gate (d : GateDir) (s : State) : outsideGate (reverseGate d s) = outsideGate s := rfl

@[simp] theorem gateActsOn_gate (d : GateDir) (s : State) : outsideGate (gateActsOn d s) = outsideGate s := by
  unfold gateActsOn
  split
  case h_5 => split <;> simp
  case h_6 => rfl
  all_goals simp

/-- R94: the target and the gate change, and nothing else. -/
@[simp] theorem retarget_gate (s : State) : outsideGate (retarget s) = outsideGate s := by
  unfold retarget gateActsOnTarget
  dsimp only
  split
  · rfl
  · split
    · rfl
    · rw [gateActsOn_gate]; rfl

/-! ### The Drain Controller -/

/-- R139: of the Drain Controller, the own claim alone is formed anew. -/
theorem formClaim_drain (s : State) : (formClaim s).drain = { s.drain with claim := claimNow s } := by
  unfold formClaim queueClaim
  dsimp only
  split
  · rw [queueBody_drain]
  · rfl

/-- The last computation, the own share and its stamp are those of another state. -/
def SameShare (s t : State) : Prop :=
  t.drain.last = s.drain.last ∧ t.drain.share = s.drain.share ∧ t.drain.shareStamp = s.drain.shareStamp

theorem SameShare.refl (s : State) : SameShare s s := ⟨rfl, rfl, rfl⟩

theorem SameShare.trans {s t u : State} (h : SameShare s t) (k : SameShare t u) : SameShare s u :=
  ⟨k.1.trans h.1, k.2.1.trans h.2.1, k.2.2.trans h.2.2⟩

theorem SameShare.of_drain {s t : State} (h : t.drain = s.drain) : SameShare s t := by
  unfold SameShare; rw [h]; exact ⟨rfl, rfl, rfl⟩

theorem commandStop_share (s : State) : SameShare s (commandStop s) := by
  unfold commandStop; dsimp only; split <;> exact ⟨rfl, rfl, rfl⟩

theorem followShare_share (s : State) : SameShare s (followShare s) := by
  unfold followShare; split_ifs
  · exact commandStop_share s
  all_goals exact ⟨rfl, rfl, rfl⟩

theorem shareAndSetpoint_share (s : State) : SameShare (runShare s) (shareAndSetpoint s) := by
  unfold shareAndSetpoint
  dsimp only
  split
  · exact followShare_share _
  · exact (followShare_share _).trans ⟨by rw [formClaim_drain], by rw [formClaim_drain], by rw [formClaim_drain]⟩

/-- R149: a silent station's share is at most its allowance. -/
theorem runShare_silent {s : State} (h : s.trunk.standing.silent = true) :
    (runShare s).drain.share ≤ s.cfg.silentAllowance := by
  have share : (runShare s).drain.share = shareOf s (computation s) := rfl
  rw [share, shareOf, if_pos h]
  exact Nat.min_le_left _ _

/-! ### The course of the pump and of the tank -/

/-- How far the pump has come: a notice moves it from STOPPED through STARTING or RUNNING to STOPPING only. -/
def pumpRank : Option PumpState → Nat
  | some .stopped => 0
  | some .starting => 1
  | some .running => 1
  | some .stopping => 2
  | some .fault => 3
  | none => 3

/-- How far the tank has come: out of DRAINING through HOLDING and DRY to ADMITTING. -/
def tankRank : TankState → Nat
  | .draining => 0
  | .holding => 1
  | .dry => 2
  | .admitting => 3
  | .off => 3

/-- The course of both: HOLDING leads back to DRAINING only with a start of the pump. -/
def course (s : State) : Nat := 4 * pumpRank s.drain.pump + tankRank s.tank.state

theorem course_same {s t : State} (pump : t.drain.pump = s.drain.pump) (tank : t.tank.state = s.tank.state) :
    course t = course s := by
  unfold course; rw [pump, tank]

theorem commandStop_pump (s : State) : (commandStop s).drain.pump =
    if s.drain.pump = some .starting ∨ s.drain.pump = some .running then some .stopping else s.drain.pump := by
  unfold commandStop; dsimp only; split <;> rfl

theorem commandStop_rank (s : State) : pumpRank s.drain.pump ≤ pumpRank (commandStop s).drain.pump := by
  rw [commandStop_pump]
  split
  · next driven => rcases driven with h | h <;> rw [h] <;> decide
  · exact le_refl _

theorem followShare_rank (s : State) : pumpRank s.drain.pump ≤ pumpRank (followShare s).drain.pump := by
  unfold followShare; split_ifs
  · exact commandStop_rank s
  all_goals exact le_refl _

theorem shareAndSetpoint_rank (s : State) : pumpRank s.drain.pump ≤ pumpRank (shareAndSetpoint s).drain.pump := by
  unfold shareAndSetpoint
  dsimp only
  split
  · exact followShare_rank (runShare s)
  · rw [formClaim_drain]; exact followShare_rank (runShare s)

theorem reformClaim_rank (s : State) : pumpRank s.drain.pump ≤ pumpRank (reformClaim s).drain.pump := by
  have claimed : (formClaim s).drain.pump = s.drain.pump := by rw [formClaim_drain]
  unfold reformClaim
  rw [← claimed]
  exact shareAndSetpoint_rank _

theorem pumpStart_starts {s : State} (stopped : s.drain.pump = some .stopped) (share : s.cfg.pumpMin ≤ s.drain.share) :
    (pumpStart s).drain.pump = some .starting := by
  unfold pumpStart
  rw [if_pos ⟨stopped, share⟩]

/-- R150: outside DRAINING the notice of the tank state stops the pump; in DRAINING it starts one that may start. -/
theorem drainTakesTankState_rank (s : State) :
    (s.tank.state ≠ .draining → pumpRank s.drain.pump ≤ pumpRank (drainTakesTankState s).drain.pump) ∧
    (s.tank.state = .draining → s.drain.pump = some .stopped → s.cfg.pumpMin ≤ s.drain.share →
      1 ≤ pumpRank (drainTakesTankState s).drain.pump) := by
  unfold drainTakesTankState
  refine ⟨fun state => ?_, fun state stopped share => ?_⟩
  · rw [if_neg state]
    exact (commandStop_rank s).trans (reformClaim_rank _)
  · rw [if_pos state]
    have started := reformClaim_rank (pumpStart s)
    rw [pumpStart_starts stopped share] at started
    exact started

/-! ### The tank's transitions -/

theorem tankMoves_moves (t : TankState) (s : State) :
    (tankMoves t s).drain = s.drain ∧ (tankMoves t s).port = s.port ∧ (tankMoves t s).trunk = s.trunk ∧
    (tankMoves t s).tank.state = t ∧ (tankMoves t s).tank.releaseTimer = none ∧
    (tankMoves t s).tank.openDeferred = (decide (t = .admitting) && pumpMayDraw s) := by
  unfold tankMoves
  obtain ⟨trunk, drain, port, _, _, state, release, deferred, _⟩ := outsideGate_fields (retarget_gate { s with
    tank := { s.tank with
      state := t, releaseTimer := none, openDeferred := decide (t = .admitting) && pumpMayDraw s } })
  exact ⟨drain, port, trunk, state, release, deferred⟩

theorem releaseDeferred_leaves (s : State) :
    (releaseDeferred s).drain = s.drain ∧ (releaseDeferred s).trunk = s.trunk ∧
    (releaseDeferred s).tank.state = s.tank.state ∧ (releaseDeferred s).tank.releaseTimer = s.tank.releaseTimer ∧
    (releaseDeferred s).tank.openDeferred = (s.tank.openDeferred && pumpMayDraw s) := by
  unfold releaseDeferred
  split
  · next h =>
    obtain ⟨trunk, drain, _, _, _, state, release, deferred, _⟩ :=
      outsideGate_fields (retarget_gate { s with tank.openDeferred := false })
    exact ⟨drain, trunk, state, release, by rw [deferred]; simp [h.2]⟩
  · next h =>
    refine ⟨rfl, rfl, rfl, rfl, ?_⟩
    cases deferred : s.tank.openDeferred <;> simp_all

/-- A transition's state is the one decided on; the notice to the Drain Controller and its answer leave it. -/
theorem tankEnters_state (t : TankState) (s : State) :
    (tankEnters t s).tank.state = t ∧ (tankEnters t s).tank.releaseTimer = none := by
  obtain ⟨_, _, _, state, release, _⟩ := tankMoves_moves t s
  obtain ⟨_, _, _, tank, _⟩ := outsideDrain_fields (drainTakesTankState_outside (tankMoves t s))
  obtain ⟨_, _, same, kept, _⟩ := releaseDeferred_leaves (drainTakesTankState (tankMoves t s))
  unfold tankEnters
  rw [same, kept, tank]
  exact ⟨state, release⟩

theorem tankEnters_drain (t : TankState) (s : State) :
    (tankEnters t s).drain = (drainTakesTankState (tankMoves t s)).drain :=
  (releaseDeferred_leaves _).1

/-- R86, R91: the tank enters DRAINING from HOLDING only, with the pump STOPPED and a share that it may start at. -/
theorem tankDecides_draining {a b : Bool} {s : State} (h : tankDecides a b s = some .draining) :
    s.tank.state = .holding ∧ s.drain.pump = some .stopped ∧ s.cfg.pumpMin ≤ s.drain.share := by
  unfold tankDecides at h
  split at h
  · cases h
  · cases h
  · split_ifs at h <;> cases h
  · next state =>
    split_ifs at h with _ _ may
    · cases h
    · cases h
    · obtain ⟨permitted, _⟩ := Bool.and_eq_true_iff.mp may
      obtain ⟨_, _, _, _, pump, _, _, share⟩ := of_decide_eq_true permitted
      exact ⟨state, pump, share⟩
  · split_ifs at h <;> cases h

/-- Any other transition but a sample's from DRY to HOLDING raises the tank's rank. -/
theorem tankDecides_rank {b : Bool} {s : State} {t : TankState} (h : tankDecides false b s = some t)
    (draining : t ≠ .draining) : tankRank s.tank.state < tankRank t := by
  unfold tankDecides at h
  split at h
  · cases h
  · cases h
  · next state =>
    rw [state]
    simp only [Bool.false_and, Bool.false_eq_true, if_false] at h
    split_ifs at h
    cases h; decide
  · next state => rw [state]; split_ifs at h <;> cases h <;> first | decide | exact absurd rfl draining
  · next state => rw [state]; split_ifs at h <;> cases h <;> decide

/-- No notice brings the pump or the tank back: every transition but a sample's carries the course on. -/
theorem tankEnters_course {b : Bool} {s : State} {t : TankState} (h : tankDecides false b s = some t) :
    course s < course (tankEnters t s) := by
  obtain ⟨drain, port, _, state, _⟩ := tankMoves_moves t s
  obtain ⟨stops, starts⟩ := drainTakesTankState_rank (tankMoves t s)
  unfold course
  rw [(tankEnters_state t s).1, tankEnters_drain]
  by_cases draining : t = .draining
  · subst draining
    obtain ⟨holding, pump, share⟩ := tankDecides_draining h
    have started := starts state (by rw [drain]; exact pump) (by unfold State.cfg; rw [drain, port]; exact share)
    rw [pump, holding]
    show 4 * 0 + 1 < 4 * _ + 0
    omega
  · have stopped := stops (by rw [state]; exact draining)
    rw [drain] at stopped
    have := tankDecides_rank h draining
    omega

/-! ### What an evaluation passes on -/

/-- A relation that every transition of a kind satisfies is satisfied by the cascade of them. -/
theorem tankCascade_rel {R : State → State → Prop} (refl : ∀ s, R s s) (trans : ∀ s t u, R s t → R t u → R s u)
    (enters : ∀ b s t, tankDecides false b s = some t → R s (tankEnters t s)) (n : Nat) (b : Bool) (s : State) :
    R s (tankCascade n false b s) := by
  induction n generalizing b s with
  | zero => exact refl s
  | succ n ih =>
    unfold tankCascade
    split
    · exact refl s
    · next t h =>
      dsimp only
      split
      · exact trans _ _ _ (enters b s t h) (ih _ _)
      · exact enters b s t h

/-- The course goes on, and where it does not the share stays. -/
structure Passes (s t : State) : Prop where
  course : course s ≤ course t
  share : Machine.course t = Machine.course s → SameShare s t

theorem Passes.refl (s : State) : Passes s s := ⟨le_refl _, fun _ => .refl s⟩

theorem Passes.trans {s t u : State} (h : Passes s t) (k : Passes t u) : Passes s u :=
  ⟨h.course.trans k.course, fun same => by
    have one := h.course
    have two := k.course
    exact (h.share (by omega)).trans (k.share (by omega))⟩

theorem Passes.of_same {s t : State} (drain : t.drain = s.drain) (tank : t.tank.state = s.tank.state) : Passes s t :=
  ⟨(course_same (by rw [drain]) tank).ge, fun _ => .of_drain drain⟩

theorem tankEvaluate_passes (s : State) : Passes s (tankEvaluate false s) :=
  tankCascade_rel .refl (fun _ _ _ => .trans)
    (fun _ _ _ h => ⟨(tankEnters_course h).le, fun same => absurd same (tankEnters_course h).ne'⟩) _ _ _

theorem tankTakesDrainNotice_passes (s : State) : Passes s (tankTakesDrainNotice s) := by
  obtain ⟨drain, _, state, _⟩ := releaseDeferred_leaves s
  exact (Passes.of_same drain state).trans (tankEvaluate_passes _)

theorem afterDrain_passes (s t : State) : Passes t (afterDrain s t) := by
  unfold afterDrain; split
  · exact tankTakesDrainNotice_passes t
  · exact .refl t

theorem updateRelease_leaves (s : State) : (updateRelease s).drain = s.drain ∧
    (updateRelease s).tank = { s.tank with releaseTimer := (updateRelease s).tank.releaseTimer } := by
  unfold updateRelease; split_ifs <;> exact ⟨rfl, rfl⟩

theorem tankTakesAlert_passes (s : State) : Passes s (tankTakesAlert s) := by
  obtain ⟨drain, tank⟩ := updateRelease_leaves s
  exact (Passes.of_same drain (by rw [tank])).trans (tankEvaluate_passes _)

/-! ### The share computation that an event leaves in force -/

/-- The course goes on, and where it does not the share is the one that a run on s gives. -/
structure ShareRuns (s t : State) : Prop where
  course : course s ≤ course t
  share : Machine.course t = Machine.course s → SameShare (runShare s) t

theorem shareAndSetpoint_runs (s : State) : ShareRuns s (shareAndSetpoint s) := by
  obtain ⟨_, _, _, tank, _⟩ := outsideDrain_fields (shareAndSetpoint_outside s)
  refine ⟨?_, fun _ => shareAndSetpoint_share s⟩
  have := shareAndSetpoint_rank s
  unfold Machine.course
  rw [tank]
  omega

theorem ShareRuns.passes {s t u : State} (h : ShareRuns s t) (k : Passes t u) : ShareRuns s u :=
  ⟨h.course.trans k.course, fun same => by
    have one := h.course
    have two := k.course
    exact (h.share (by omega)).trans (k.share (by omega))⟩

/-- R143: a notice to the Drain Controller runs the computation. -/
theorem drainTakesShareNotice_runs (s : State) : ShareRuns s (drainTakesShareNotice s) :=
  (shareAndSetpoint_runs s).passes (afterDrain_passes s _)

/-- What a run of the computation reads. -/
theorem runShare_drain {s t : State} (peers : t.peers = s.peers) (cfg : t.cfg = s.cfg) (drain : t.drain = s.drain)
    (branch : t.rain.branch = s.rain.branch) (standing : t.trunk.standing = s.trunk.standing)
    (time : t.time.t = s.time.t) : (runShare t).drain = (runShare s).drain := by
  calc (runShare t).drain = (runShare { s with
        peers := t.peers, drain := t.drain, rain.branch := t.rain.branch, trunk.standing := t.trunk.standing
        time.t := t.time.t, port.committed := t.cfg }).drain := rfl
    _ = (runShare s).drain := by rw [peers, cfg, drain, branch, standing, time]; rfl

/-- What a run of the computation reads, but for the claim timer's target, which it does not read. -/
theorem runShare_claimTarget (s : State) (x : Option Nat) :
    SameShare (runShare s) (runShare { s with drain.claimTarget := x }) := ⟨rfl, rfl, rfl⟩

/-- An event whose notice runs the computation on a state u leaves in force what `shareFollows` says, where u differs from
the event's first state in nothing that the computation or the course reads but the peer table, the branch alert and the
standing. -/
theorem ShareRuns.follows {s u t : State} (h : ShareRuns u t) (peers : t.peers = u.peers) (cfg : u.cfg = s.cfg)
    (drain : u.drain = s.drain) (tank : u.tank.state = s.tank.state) (branch : t.rain.branch = u.rain.branch)
    (standing : t.trunk.standing = u.trunk.standing) (time : u.time.t = s.time.t) : shareFollows s t := by
  intro state pump v hv
  have ran : (runShare u).drain = v.drain := by
    rw [hv]
    exact runShare_drain peers.symm cfg drain branch.symm standing.symm time
  have same := h.share (course_same (pump.trans (by rw [drain])) (state.trans tank.symm))
  unfold SameShare at same
  rw [ran] at same
  exact same

end Sys2Proof.Machine
end

section
/-! SUPPORT. What the notices of the Drain Controller and of the Tank Controller do to the transmit slots and to the
transmitter's wait (`ClaimQueued`): at most a CLAIM is queued, and an idle transmitter is woken by it. -/

namespace Sys2Proof.Machine

theorem slot_queue_queue (a b : Body) (v : Slot) : (v.queue a).queue b = v.queue b := by cases v <;> rfl

theorem slots_set_set (x : Slots) (k : Kind) (v w : Slot) : (x.set k v).set k w = x.set k w := by cases k <;> rfl

/-- R7: the transmitter enters WAIT_LINE while the line is busy, and draws a deferral of 0 to 3 slots where it is free. -/
theorem enterWaitLine_waits (s : State) :
    (s.trunk.lineFree = false → (enterWaitLine s).trunk.tx = .waitLine ∧ (enterWaitLine s).trunk.txUntil = none ∧
      (enterWaitLine s).free = s.free) ∧
    (s.trunk.lineFree = true → (enterWaitLine s).trunk.tx = .defer ∧
      ∃ n, n < 4 ∧ (enterWaitLine s).trunk.txUntil = some (s.elapsed + n * 25 / 3)) := by
  unfold enterWaitLine
  dsimp only
  refine ⟨fun busy => ?_, fun free => ?_⟩
  · rw [if_neg (by simp [busy])]; exact ⟨rfl, rfl, rfl⟩
  · rw [if_pos free]; exact ⟨rfl, _, (Config.deferralDraw s.free.deferrals).isLt, rfl⟩

theorem enterWaitLine_tx (s : State) :
    (enterWaitLine s).trunk.tx = if s.trunk.lineFree then .defer else .waitLine := by
  obtain ⟨busy, free⟩ := enterWaitLine_waits s
  cases h : s.trunk.lineFree with
  | true => exact (free h).1
  | false => exact (busy h).1

theorem enterWaitLine_slots (s : State) : (enterWaitLine s).trunk.slots = s.trunk.slots ∧
    (enterWaitLine s).trunk.standing = s.trunk.standing := by
  rw [enterWaitLine_sets]; exact ⟨rfl, rfl⟩

theorem firstEligible_congr {t u : Trunk} (slots : u.slots = t.slots) (standing : u.standing = t.standing) :
    u.firstEligible = t.firstEligible := by
  unfold Trunk.firstEligible Trunk.eligible; rw [slots, standing]

/-- R7: an idle transmitter that is woken waits, and one that stays IDLE has nothing eligible. -/
theorem wakeTransmitter_wakes (s : State) :
    ((wakeTransmitter s).trunk.tx = s.trunk.tx ∧ (wakeTransmitter s).trunk.txUntil = s.trunk.txUntil ∨
      s.trunk.tx = .idle ∧ s.trunk.standing.silent = false ∧
        (wakeTransmitter s).trunk.tx = if s.trunk.lineFree then .defer else .waitLine) ∧
    ((wakeTransmitter s).trunk.tx = .idle → (wakeTransmitter s).trunk.firstEligible = none) ∧
    (wakeTransmitter s).trunk.slots = s.trunk.slots := by
  unfold wakeTransmitter
  split
  · next h =>
    obtain ⟨idle, eligible⟩ := h
    have loud : s.trunk.standing.silent = false := by
      by_contra silent
      rw [firstEligible_of_silent (by simpa using silent)] at eligible
      cases eligible
    refine ⟨.inr ⟨idle, loud, enterWaitLine_tx s⟩, fun stays => ?_, (enterWaitLine_slots s).1⟩
    rw [enterWaitLine_tx] at stays
    split at stays <;> cases stays
  · next h =>
    exact ⟨.inl ⟨rfl, rfl⟩, fun idle => by simpa [idle] using h, rfl⟩

/-- What a notice may do to the transmitter: at most a CLAIM is queued, which may wake it. -/
structure ClaimQueued (s t : State) : Prop where
  line : lineState t = lineState s
  slots : t.trunk.slots = s.trunk.slots ∨ ∃ c, t.trunk.slots = s.trunk.slots.set .claim (s.trunk.slots.claim.queue (.claim c))
  tx : t.trunk.tx = s.trunk.tx ∧ t.trunk.txUntil = s.trunk.txUntil ∨
    s.trunk.tx = .idle ∧ s.trunk.standing.silent = false ∧ t.trunk.tx = if s.trunk.lineFree then .defer else .waitLine
  awake : (s.trunk.tx = .idle → s.trunk.firstEligible = none) → t.trunk.tx = .idle → t.trunk.firstEligible = none

theorem ClaimQueued.of_trunk {s t : State} (h : t.trunk = s.trunk) : ClaimQueued s t :=
  ⟨by unfold lineState; rw [h], .inl (by rw [h]), .inl ⟨by rw [h], by rw [h]⟩, fun a i => by
    rw [h] at i ⊢; exact a i⟩

theorem ClaimQueued.refl (s : State) : ClaimQueued s s := .of_trunk rfl

theorem ClaimQueued.trans {s t u : State} (h : ClaimQueued s t) (k : ClaimQueued t u) : ClaimQueued s u := by
  obtain ⟨_, free, _, _, _, standing, _⟩ := lineState_fields h.line
  refine ⟨k.line.trans h.line, ?_, ?_, fun a => k.awake (h.awake a)⟩
  · rcases k.slots with same | ⟨c, queued⟩
    · rw [same]; exact h.slots
    · refine .inr ⟨c, ?_⟩
      rcases h.slots with same | ⟨d, before⟩
      · rw [queued, same]
      · rw [queued, before, slots_set_set]
        exact congrArg _ (slot_queue_queue _ _ _)
  · rcases k.tx with ⟨tx, wait⟩ | ⟨idle, loud, woken⟩
    · rw [tx, wait]; exact h.tx
    · rcases h.tx with ⟨tx, _⟩ | ⟨_, _, woken'⟩
      · exact .inr ⟨tx ▸ idle, by rw [← standing]; exact loud, by rw [← free]; exact woken⟩
      · rw [woken'] at idle
        split at idle <;> cases idle

theorem queueClaim_queues (s : State) : ClaimQueued s (queueClaim s) := by
  obtain ⟨tx, awake, slots⟩ := wakeTransmitter_wakes { s with
    trunk.slots := s.trunk.slots.set .claim (s.trunk.slots.claim.queue (.claim (claimBody s))) }
  exact ⟨lineState_of_tank (queueClaim_tank s), .inr ⟨_, slots⟩, tx, fun _ => awake⟩

theorem formClaim_queues (s : State) : ClaimQueued s (formClaim s) := by
  have formed : ClaimQueued s { s with drain.claim := claimNow s } := .of_trunk rfl
  unfold formClaim
  dsimp only
  split
  · exact formed.trans (queueClaim_queues _)
  · exact formed

theorem commandStop_trunk (s : State) : (commandStop s).trunk = s.trunk := by
  unfold commandStop; dsimp only; split <;> rfl

theorem followShare_trunk (s : State) : (followShare s).trunk = s.trunk := by
  unfold followShare; split_ifs
  · exact commandStop_trunk s
  all_goals rfl

theorem pumpStart_trunk (s : State) : (pumpStart s).trunk = s.trunk := by
  unfold pumpStart; split <;> rfl

theorem shareAndSetpoint_queues (s : State) : ClaimQueued s (shareAndSetpoint s) := by
  have followed : ClaimQueued s (followShare (runShare s)) := .of_trunk (followShare_trunk (runShare s))
  unfold shareAndSetpoint
  dsimp only
  split
  · exact followed
  · exact followed.trans (formClaim_queues _)

theorem reformClaim_queues (s : State) : ClaimQueued s (reformClaim s) :=
  (formClaim_queues s).trans (shareAndSetpoint_queues _)

theorem releaseDeferred_queues (s : State) : ClaimQueued s (releaseDeferred s) :=
  .of_trunk (releaseDeferred_leaves s).2.1

theorem tankEnters_queues (t : TankState) (s : State) : ClaimQueued s (tankEnters t s) := by
  obtain ⟨_, _, trunk, _⟩ := tankMoves_moves t s
  have driven : ClaimQueued (tankMoves t s) (if (tankMoves t s).tank.state = .draining then pumpStart (tankMoves t s)
      else commandStop (tankMoves t s)) := by
    split
    · exact .of_trunk (pumpStart_trunk _)
    · exact .of_trunk (commandStop_trunk _)
  exact (ClaimQueued.of_trunk trunk).trans ((driven.trans (reformClaim_queues _)).trans (releaseDeferred_queues _))

theorem tankEvaluate_queues (s : State) : ClaimQueued s (tankEvaluate false s) :=
  tankCascade_rel .refl (fun _ _ _ => .trans) (fun _ s t _ => tankEnters_queues t s) _ _ _

theorem tankTakesDrainNotice_queues (s : State) : ClaimQueued s (tankTakesDrainNotice s) :=
  (releaseDeferred_queues s).trans (tankEvaluate_queues _)

theorem afterDrain_queues (s t : State) : ClaimQueued t (afterDrain s t) := by
  unfold afterDrain; split
  · exact tankTakesDrainNotice_queues t
  · exact .refl t

theorem drainTakesShareNotice_queues (s : State) : ClaimQueued s (drainTakesShareNotice s) :=
  (shareAndSetpoint_queues s).trans (afterDrain_queues s _)

theorem updateRelease_trunk (s : State) : (updateRelease s).trunk = s.trunk := by
  unfold updateRelease; split_ifs <;> rfl

theorem tankTakesAlert_queues (s : State) : ClaimQueued s (tankTakesAlert s) :=
  (ClaimQueued.of_trunk (updateRelease_trunk s)).trans (tankEvaluate_queues _)

/-- A slot of another kind is left alone. -/
theorem ClaimQueued.other {s t : State} (h : ClaimQueued s t) {k : Kind} (hk : k ≠ .claim) :
    t.trunk.slots.get k = s.trunk.slots.get k := by
  rcases h.slots with same | ⟨c, queued⟩
  · rw [same]
  · rw [queued, slots_get_set_other _ _ hk]

/-! ### The allowance of a silent station -/

/-- A silent station that keeps its allowance keeps it. -/
def AllowanceKept (s t : State) : Prop :=
  t.trunk.standing = s.trunk.standing ∧ t.cfg = s.cfg ∧
  (s.trunk.standing.silent = true → s.drain.share ≤ s.cfg.silentAllowance → t.drain.share ≤ t.cfg.silentAllowance)

theorem AllowanceKept.refl (s : State) : AllowanceKept s s := ⟨rfl, rfl, fun _ h => h⟩

theorem AllowanceKept.trans {s t u : State} (h : AllowanceKept s t) (k : AllowanceKept t u) : AllowanceKept s u :=
  ⟨k.1.trans h.1, k.2.1.trans h.2.1, fun silent share => k.2.2 (h.1 ▸ silent) (h.2.2 silent share)⟩

theorem standing_cfg_of_tank {s t : State} (h : outsideTank t = outsideTank s) :
    t.trunk.standing = s.trunk.standing ∧ t.cfg = s.cfg := by
  obtain ⟨_, _, _, _, _, _, _, trunk, _, port⟩ := outsideTank_fields h
  exact ⟨by rw [trunk], by unfold State.cfg; rw [port]⟩

theorem shareAndSetpoint_allowance {s : State} (silent : s.trunk.standing.silent = true) :
    (shareAndSetpoint s).drain.share ≤ s.cfg.silentAllowance := by
  rw [(shareAndSetpoint_share s).2.1]; exact runShare_silent silent

theorem tankEnters_allowance (t : TankState) (s : State) : AllowanceKept s (tankEnters t s) := by
  obtain ⟨standing, cfg⟩ := standing_cfg_of_tank (tankEnters_tank t s)
  refine ⟨standing, cfg, fun silent _ => ?_⟩
  have before : ∀ u, outsideTank u = outsideTank s → (reformClaim u).drain.share ≤ s.cfg.silentAllowance := by
    intro u h
    obtain ⟨standing, cfg⟩ := standing_cfg_of_tank ((formClaim_tank u).trans h)
    rw [← cfg]
    exact shareAndSetpoint_allowance (by rw [standing]; exact silent)
  rw [cfg, tankEnters_drain, drainTakesTankState]
  refine before _ ?_
  split
  · exact (outsideTank_of (pumpStart_outside _)).trans (tankMoves_tank t s)
  · exact (outsideTank_of (commandStop_outside _)).trans (tankMoves_tank t s)

/-- R149: a notice that runs the computation leaves a silent station's share within its allowance. -/
theorem drainTakesShareNotice_allowance {s : State} (silent : s.trunk.standing.silent = true) :
    (drainTakesShareNotice s).drain.share ≤ s.cfg.silentAllowance := by
  have ran : AllowanceKept s (shareAndSetpoint s) :=
    ⟨(standing_cfg_of_tank (shareAndSetpoint_tank s)).1, (standing_cfg_of_tank (shareAndSetpoint_tank s)).2, fun _ _ => by
      rw [(standing_cfg_of_tank (shareAndSetpoint_tank s)).2]; exact shareAndSetpoint_allowance silent⟩
  have after : AllowanceKept (shareAndSetpoint s) (drainTakesShareNotice s) := by
    unfold drainTakesShareNotice afterDrain tankTakesDrainNotice
    split
    · obtain ⟨standing, cfg⟩ := standing_cfg_of_tank (releaseDeferred_tank (shareAndSetpoint s))
      have released : AllowanceKept (shareAndSetpoint s) (releaseDeferred (shareAndSetpoint s)) :=
        ⟨standing, cfg, fun _ h => by rw [cfg, (releaseDeferred_leaves _).1]; exact h⟩
      exact released.trans (tankCascade_rel .refl (fun _ _ _ => .trans) (fun _ s t _ => tankEnters_allowance t s) _ _ _)
    · exact .refl _
  have share := shareAndSetpoint_allowance silent
  have kept := after.2.2 (by rw [ran.1]; exact silent) (by rw [ran.2.1]; exact share)
  rw [after.2.1, ran.2.1] at kept
  exact kept

end Sys2Proof.Machine
end

section
/-! SUPPORT. What a new standing does (`Restood`): its flag, the transmitter, the slots and the share computation, said once
for every operation that sets the standing; and the commands that set it (O23). -/

namespace Sys2Proof.Machine

/-! ### The share computation, carried over unlike states -/

/-- `shareFollows` reads of the first state only what the computation and its notice read. -/
theorem shareFollows_congr {r s t : State} (h : shareFollows r t) (cfg : r.cfg = s.cfg) (drain : r.drain = s.drain)
    (tank : r.tank.state = s.tank.state) (time : r.time.t = s.time.t) : shareFollows s t := by
  intro state pump v hv
  have same : (runShare { r with
      peers := t.peers, rain.branch := t.rain.branch, trunk.standing := t.trunk.standing }).drain = v.drain := by
    rw [hv]; exact runShare_drain rfl cfg drain rfl rfl time
  obtain ⟨last, share, stamp⟩ := h (state.trans tank.symm) (pump.trans (by rw [drain])) _ rfl
  rw [same] at last share stamp
  exact ⟨last, share, stamp⟩

/-- What follows an event's share computation without touching the blocks that it reads. -/
theorem shareFollows_after {s t u : State} (drain : u.drain = t.drain) (tank : u.tank.state = t.tank.state)
    (peers : u.peers = t.peers) (branch : u.rain.branch = t.rain.branch)
    (standing : u.trunk.standing = t.trunk.standing) (h : shareFollows s t) : shareFollows s u := by
  unfold shareFollows at h ⊢
  rw [drain, tank, peers, branch, standing]
  exact h

/-! ### A new standing -/

/-- The transmitter's answer to a new standing changes its state and wait alone. -/
theorem transmitterTakesStanding_sets (s : State) : transmitterTakesStanding s = { s with
    trunk := { s.trunk with
      tx := (transmitterTakesStanding s).trunk.tx, txUntil := (transmitterTakesStanding s).trunk.txUntil }
    free := (transmitterTakesStanding s).free } := by
  unfold transmitterTakesStanding
  split_ifs
  · rfl
  · rfl
  · exact wakeTransmitter_sets s

theorem transmitterTakesStanding_silent {s : State} (h : s.trunk.standing.silent = true) :
    (transmitterTakesStanding s).trunk.tx = if s.trunk.tx = .send then .send else .idle := by
  unfold transmitterTakesStanding
  rw [if_pos h]
  split
  · assumption
  · rfl

/-- What an operation does that sets the standing: nothing where it stays, and otherwise its flag, its effect on the
transmitter, and a run of the share computation. -/
structure Restood (s t : State) : Prop where
  outside : outsideTank t = outsideTank { s with
    trunk := { s.trunk with standing := t.trunk.standing, cutoffHold := t.trunk.cutoffHold }
    port := { s.port with flags := t.port.flags, attention := t.port.attention } }
  flags : t.port.flags =
    if t.trunk.standing = s.trunk.standing then s.port.flags else s.port.flags ||| BitVec.twoPow 15 6
  still : t.trunk.standing = s.trunk.standing → t = s
  share : t.trunk.standing ≠ s.trunk.standing → shareFollows s t
  slots : t.trunk.slots = s.trunk.slots ∨ ∃ c, t.trunk.slots = s.trunk.slots.set .claim (s.trunk.slots.claim.queue (.claim c))
  loud : t.trunk.standing.silent = false → t.trunk.tx = s.trunk.tx ∧ t.trunk.txUntil = s.trunk.txUntil ∨
    s.trunk.tx = .idle ∧ t.trunk.tx = if s.trunk.lineFree then .defer else .waitLine
  hushed : t.trunk.standing ≠ s.trunk.standing → t.trunk.standing.silent = true →
    t.trunk.tx = if s.trunk.tx = .send then .send else .idle
  awake : t.trunk.standing ≠ s.trunk.standing → t.trunk.standing.silent = false → t.trunk.tx = .idle →
    t.trunk.firstEligible = none

theorem Restood.refl (s : State) : Restood s s :=
  ⟨rfl, (if_pos rfl).symm, fun _ => rfl, fun h => absurd rfl h, .inl rfl, fun _ => .inl ⟨rfl, rfl⟩,
    fun h => absurd rfl h, fun h => absurd rfl h⟩

theorem setStanding_restood (x : Standing) (s : State) : Restood s (setStanding x s) := by
  have standing := (lineState_fields (s := { s with trunk := lineState (setStanding x s) }) (t := setStanding x s) rfl).2.2.2.2.2.1
  rw [setStanding_line] at standing
  dsimp only at standing
  by_cases same : x = s.trunk.standing
  · rw [setStanding, if_pos same]; exact .refl s
  rw [setStanding, if_neg same] at standing ⊢
  obtain ⟨u, hu⟩ : ∃ u, u = transmitterTakesStanding (raise .standingChange { s with trunk.standing := x }) := ⟨_, rfl⟩
  have sets := transmitterTakesStanding_sets (raise .standingChange { s with trunk.standing := x })
  rw [← hu] at sets standing ⊢
  have queued := drainTakesShareNotice_queues u
  have outside := drainTakesShareNotice_tank u
  obtain ⟨_, peers, _, _, rain, _, _, _, _, port⟩ := outsideTank_fields outside
  have uPort : u.port = (raise .standingChange { s with trunk.standing := x }).port := by rw [sets]
  have uSlots : u.trunk.slots = s.trunk.slots := by rw [sets]; rfl
  have uStanding : u.trunk.standing = x := by rw [sets]; rfl
  have uFree : u.trunk.lineFree = s.trunk.lineFree := by rw [sets]; rfl
  refine ⟨?_, ?_, fun h => absurd (standing.symm.trans h) same, fun _ => ?_, ?_, ?_, ?_, ?_⟩
  · have hold := (lineState_fields queued.line).2.2.2.2.2.2.1
    rw [outside, standing, hold, port, uPort, sets]
    rfl
  · rw [standing, if_neg same, port, uPort]
    rfl
  · exact (drainTakesShareNotice_runs u).follows peers (by rw [sets]; rfl) (by rw [sets]; rfl) (by rw [sets]; rfl)
      (by rw [rain]) (standing.trans uStanding.symm) (by rw [sets]; rfl)
  · rw [← uSlots]; exact queued.slots
  · intro loud
    have woken := (wakeTransmitter_wakes (raise .standingChange { s with trunk.standing := x })).1
    rw [standing] at loud
    have woke := hu.trans (if_neg (ne_true_of_eq_false loud))
    rw [← woke] at woken
    rcases queued.tx with ⟨tx, wait⟩ | ⟨idle, _, tx⟩
    · rw [tx, wait]
      rcases woken with same | ⟨idle, _, tx⟩
      · exact .inl same
      · exact .inr ⟨idle, tx⟩
    · rw [uFree] at tx
      rcases woken with ⟨same, _⟩ | ⟨idle, _⟩
      · exact .inr ⟨same.symm.trans idle, tx⟩
      · exact .inr ⟨idle, tx⟩
  · intro _ silent
    rw [standing] at silent
    rcases queued.tx with ⟨tx, _⟩ | ⟨_, loud, _⟩
    · rw [tx, hu]
      exact transmitterTakesStanding_silent silent
    · rw [uStanding, silent] at loud; cases loud
  · intro _ loud
    rw [standing] at loud
    have awake := (wakeTransmitter_wakes (raise .standingChange { s with trunk.standing := x })).2.1
    rw [← hu.trans (if_neg (ne_true_of_eq_false loud))] at awake
    exact queued.awake awake

/-- A standing that is set together with the cut-off hold. -/
theorem Restood.of_hold {s t : State} {x : Option Nat} (h : Restood { s with trunk.cutoffHold := x } t)
    (changed : t.trunk.standing ≠ s.trunk.standing) : Restood s t :=
  ⟨h.outside, h.flags, fun same => absurd same changed, fun c => shareFollows_congr (h.share c) rfl rfl rfl rfl, h.slots,
    h.loud, h.hushed, h.awake⟩

/-- R19: what the scores give the standing and the hold. -/
theorem standFromScores_sets (s : State) :
    (standFromScores s).trunk.txScore = s.trunk.txScore ∧ (standFromScores s).trunk.rxScore = s.trunk.rxScore ∧
    (standFromScores s).trunk.standing = standingOf s.trunk.txScore s.trunk.rxScore ∧
    (standFromScores s).trunk.cutoffHold =
      if 200 ≤ s.trunk.txScore then some (s.elapsed + seconds s.cfg.cutoffHold) else s.trunk.cutoffHold := by
  obtain ⟨_, _, _, tx, rx, standing, hold, _⟩ :=
    lineState_fields (s := { s with trunk := lineState (standFromScores s) }) (t := standFromScores s) rfl
  rw [standFromScores_line] at tx rx standing hold
  exact ⟨tx, rx, standing, hold⟩

theorem standFromScores_restood {s : State} (h : s.trunk.standing = .cutOff .score → s.trunk.txScore < 200) :
    Restood s (standFromScores s) := by
  have standing := (standFromScores_sets s).2.2.1
  unfold standFromScores at standing ⊢
  dsimp only at standing ⊢
  by_cases cut : standingOf s.trunk.txScore s.trunk.rxScore = .cutOff .score
  · rw [if_pos cut] at standing ⊢
    refine (setStanding_restood _ (startCutoffHold s)).of_hold fun same => ?_
    have held := h (same.symm.trans (standing.trans cut))
    have := standingOf_cutOff.mp cut
    omega
  · rw [if_neg cut]
    exact setStanding_restood _ s

theorem recomputeStanding_restood (s : State) : Restood s (recomputeStanding s) := by
  unfold recomputeStanding
  split
  · exact .refl s
  · next loud => exact standFromScores_restood fun cut => absurd (by rw [cut]; rfl) loud

/-- R19: a standing recomputed: CUT_OFF and SILENCED stay, and any other is the one that the scores give. -/
theorem recomputeStanding_sets (s : State) :
    (recomputeStanding s).trunk.txScore = s.trunk.txScore ∧ (recomputeStanding s).trunk.rxScore = s.trunk.rxScore ∧
    (s.trunk.standing.silent = true → recomputeStanding s = s) ∧
    (s.trunk.standing.silent = false → (recomputeStanding s).trunk.standing = standingOf s.trunk.txScore s.trunk.rxScore ∧
      (recomputeStanding s).trunk.cutoffHold =
        if 200 ≤ s.trunk.txScore then some (s.elapsed + seconds s.cfg.cutoffHold) else s.trunk.cutoffHold) := by
  obtain ⟨tx, rx, standing, hold⟩ := standFromScores_sets s
  unfold recomputeStanding
  cases silent : s.trunk.standing.silent with
  | true => exact ⟨rfl, rfl, fun _ => rfl, nofun⟩
  | false => exact ⟨tx, rx, nofun, fun _ => ⟨standing, hold⟩⟩

/-! ### The commands that set the standing -/

/-- A state with its held response replaced. -/
def holding (r : List Byte) (s : State) : State := { s with port.heldResponse := r }

theorem answer_holding (code : Nat) (st : Status) (data : List Byte) (s : State) :
    answer code ⟨st, data, s⟩ = holding (responseFrame (BitVec.ofNat 8 code) st data) s := rfl

theorem outsideTank_holding {s t : State} (r : List Byte) (h : outsideTank t = outsideTank s) :
    outsideTank (holding r t) = outsideTank (holding r s) := by
  have e : ∀ x, outsideTank (holding r x) = holding r (outsideTank x) := fun _ => rfl
  rw [e, e, h]

theorem reqSilence_run {s : State} (run : s.inRun = true) :
    reqSilence s = ⟨(silenceRequest s).1, [], (silenceRequest s).2⟩ := if_pos run

theorem reqRejoin_run {s : State} (run : s.inRun = true) :
    reqRejoin s = ⟨(rejoinRequest s).1, [], (rejoinRequest s).2⟩ := if_pos run

/-- R21: SILENCE from a standing that is neither SILENCED nor a clash. -/
theorem silenceRequest_loud {s : State} (h : s.trunk.standing ∈ [.normal, .warned, .quiet, .cutOff .score]) :
    silenceRequest s = (.done, setStanding .silenced { s with trunk.cutoffHold := none }) := by
  unfold silenceRequest
  simp only [List.mem_cons, List.not_mem_nil, or_false] at h
  rcases h with h | h | h | h <;> rw [h]

/-- R21: what SILENCE leaves. -/
theorem silence_spec {s t : State} (h : s.trunk.standing ∈ [.normal, .warned, .quiet, .cutOff .score])
    (ht : t = setStanding .silenced { s with trunk.cutoffHold := none }) :
    t.trunk.standing = .silenced ∧ t.trunk.cutoffHold = none ∧
    t.trunk.tx = (if s.trunk.tx = .send then .send else .idle) ∧ t.drain.share ≤ s.cfg.silentAllowance ∧
    shareFollows s t ∧ t.port.flags = s.port.flags ||| BitVec.twoPow 15 6 ∧
    outsideTank t = outsideTank { s with
      trunk.standing := .silenced, trunk.cutoffHold := none
      port := { s.port with flags := t.port.flags, attention := t.port.attention } } := by
  have fields := lineState_fields (s := { s with trunk := lineState t }) (t := t) rfl
  have line : lineState t = { lineState { s with trunk.cutoffHold := none } with standing := .silenced } := by
    rw [ht, setStanding_line]
  rw [line] at fields
  obtain ⟨_, _, _, _, _, standing, hold, _⟩ := fields
  have changed : Standing.silenced ≠ s.trunk.standing := fun same => by rw [← same] at h; simp at h
  have restood := setStanding_restood .silenced { s with trunk.cutoffHold := none }
  rw [← ht] at restood
  have moved : t.trunk.standing ≠ s.trunk.standing := standing ▸ changed
  refine ⟨standing, hold, ?_, ?_, ?_, ?_, ?_⟩
  · exact restood.hushed moved (by rw [standing]; rfl)
  · rw [setStanding, if_neg changed] at ht
    have sets := transmitterTakesStanding_sets (raise .standingChange { s with trunk.standing := .silenced, trunk.cutoffHold := none })
    have allowance := drainTakesShareNotice_allowance (s := transmitterTakesStanding
      (raise .standingChange { s with trunk.standing := .silenced, trunk.cutoffHold := none })) (by rw [sets]; rfl)
    have cfg : (transmitterTakesStanding (raise .standingChange
        { s with trunk.standing := .silenced, trunk.cutoffHold := none })).cfg = s.cfg := by rw [sets]; rfl
    rw [cfg] at allowance
    exact ht ▸ allowance
  · exact shareFollows_congr (restood.share moved) rfl rfl rfl rfl
  · rw [restood.flags, if_neg moved]
  · have outside := restood.outside
    rw [standing, hold] at outside
    exact outside

/-- R20, R22: what the standing that the scores give leaves, from a silent standing and a score and a hold. -/
theorem rejoin_spec {s t : State} {tx : Nat} {hold : Option Nat}
    (silent : s.trunk.standing = .silenced ∨ s.trunk.standing = .cutOff .score ∧ tx = 0)
    (ht : t = standFromScores { s with trunk.txScore := tx, trunk.cutoffHold := hold }) :
    t.trunk.txScore = tx ∧
    t.trunk.standing = (if 200 ≤ tx then .cutOff .score else if 100 ≤ tx then .quiet
      else if 40 ≤ tx ∨ 40 ≤ s.trunk.rxScore then .warned else .normal) ∧
    t.trunk.cutoffHold = (if 200 ≤ tx then some (s.elapsed + 1000 * s.cfg.cutoffHold) else hold) ∧
    t.port.flags = s.port.flags ||| BitVec.twoPow 15 6 ∧
    (tx < 200 → s.trunk.tx = .idle → t.trunk.firstEligible.isSome = true → t.trunk.tx ∈ [.waitLine, .defer]) ∧
    shareFollows s t ∧
    outsideTank t = outsideTank { s with
      trunk := { s.trunk with txScore := tx, standing := t.trunk.standing, cutoffHold := t.trunk.cutoffHold }
      port := { s.port with flags := t.port.flags, attention := t.port.attention } } := by
  obtain ⟨score, _, standing, held⟩ := standFromScores_sets { s with trunk.txScore := tx, trunk.cutoffHold := hold }
  have restood : Restood { s with trunk.txScore := tx, trunk.cutoffHold := hold } t := by
    rw [ht]
    refine standFromScores_restood fun cut => ?_
    rcases silent with silenced | ⟨_, zero⟩
    · cases silenced.symm.trans cut
    · show tx < 200
      omega
  rw [← ht] at score standing held
  dsimp only at standing
  have moved : t.trunk.standing ≠ s.trunk.standing := by
    rw [standing]
    rcases silent with silenced | ⟨cut, zero⟩
    · rw [silenced]; unfold standingOf; split_ifs <;> simp
    · rw [cut]; exact fun same => by have := standingOf_cutOff.mp same; omega
  refine ⟨score, standing, ?_, ?_, ?_, shareFollows_congr (restood.share moved) rfl rfl rfl rfl, restood.outside⟩
  · rw [held, Nat.mul_comm 1000]; rfl
  · rw [restood.flags, if_neg moved]
  · intro low idle eligible
    have loud : t.trunk.standing.silent = false := by
      rw [standing, standingOf_silent]; exact decide_eq_false (by omega)
    rcases restood.loud loud with ⟨same, _⟩ | ⟨_, woken⟩
    · have none := restood.awake moved loud (same.trans idle)
      rw [none] at eligible; cases eligible
    · rw [woken]; split <;> simp

/-- Settles O23: SILENCE sets the standing (`silence_spec`); REJOIN and the end of the hold let the scores give it
(`rejoin_spec`). -/
theorem standingCommands : Obligations.StandingCommands := by
  intro s
  refine ⟨fun run clash => ⟨⟨_, rfl, ?_⟩, ⟨_, rfl, ?_⟩⟩, fun run silenced => ⟨_, rfl, ?_⟩, fun run loud => ⟨_, rfl, ?_⟩,
    fun run loud => ⟨_, rfl, ?_⟩, fun c tx hold h => ?_⟩
  · rw [reqSilence_run run, silenceRequest, clash]; rfl
  · rw [reqRejoin_run run, rejoinRequest, clash]; rfl
  · rw [reqSilence_run run, silenceRequest, silenced]; rfl
  · have same : rejoinRequest s = (.done, s) := by
      unfold rejoinRequest
      simp only [List.mem_cons, List.not_mem_nil, or_false] at loud
      rcases loud with h | h | h <;> rw [h]
    rw [reqRejoin_run run, same]; rfl
  · rw [reqSilence_run run, silenceRequest_loud loud, answer_holding]
    obtain ⟨standing, held, tx, allowance, share, flags, outside⟩ := silence_spec loud rfl
    exact ⟨rfl, standing, held, tx, allowance, share, flags, outsideTank_holding _ outside⟩
  · rcases h with ⟨rfl, run, silenced, rfl, rfl⟩ | ⟨rfl, run, cut, rfl, rfl⟩ | ⟨rfl, cut, rfl, rfl, x, running, due⟩
    · have same : rejoinRequest s = (.done, standFromScores s) := by rw [rejoinRequest, silenced]
      obtain ⟨score, standing, held, flags, waits, share, outside⟩ :=
        rejoin_spec (s := s) (tx := s.trunk.txScore) (hold := s.trunk.cutoffHold) (.inl silenced) rfl
      refine ⟨_, rfl, ?_⟩
      rw [reqRejoin_run run, same, answer_holding]
      exact ⟨score, standing, held, flags, waits, fun _ => rfl, share, outsideTank_holding _ outside⟩
    · have same : rejoinRequest s = (.done, holdElapses s) := by rw [rejoinRequest, cut]
      obtain ⟨score, standing, held, flags, waits, share, outside⟩ :=
        rejoin_spec (s := s) (tx := 0) (hold := none) (.inr ⟨cut, rfl⟩) rfl
      refine ⟨_, rfl, ?_⟩
      rw [reqRejoin_run run, same, answer_holding]
      exact ⟨score, standing, held, flags, waits, fun _ => rfl, share, outsideTank_holding _ outside⟩
    · obtain ⟨score, standing, held, flags, waits, share, outside⟩ :=
        rejoin_spec (s := s) (tx := 0) (hold := none) (.inr ⟨cut, rfl⟩) rfl
      have ready : s.due s.trunk.cutoffHold = true := by rw [running]; exact decide_eq_true due
      have ends : exec .cutoffHoldExpiry s = .next (holdElapses s) := congrArg _ (if_pos ready)
      refine ⟨_, ends, score, standing, held, flags, waits, nofun, share, ?_⟩
      have port : (holdElapses s).port.heldResponse = s.port.heldResponse :=
        congrArg (·.port.heldResponse) outside
      rw [port]
      exact outside

end Sys2Proof.Machine
end

section
/-! SUPPORT. What a change of the scores does (`Rescored`): the scores, the standing that follows them, and what a new
standing brings with it; and the line that becomes free, and the end of a backoff (O28). -/

namespace Sys2Proof.Machine

/-! ### The scores and the standing that follows them -/

/-- A state with its scores replaced. -/
def scored (tx rx : Nat) (s : State) : State := { s with trunk := { s.trunk with txScore := tx, rxScore := rx } }

/-- STANDING_CHANGE is bit 6 of the flags, and is raised by no other flag. -/
theorem getLsbD_standingChange (f : BitVec 15) : (f ||| BitVec.twoPow 15 6).getLsbD 6 = true := by
  rw [BitVec.getLsbD_or, BitVec.getLsbD_twoPow]; simp

theorem getLsbD_other (f : BitVec 15) {i : Nat} (h : i ≠ 6) : (f ||| BitVec.twoPow 15 6).getLsbD i = f.getLsbD i := by
  rw [BitVec.getLsbD_or, BitVec.getLsbD_twoPow]; simp [Ne.symm h]

/-- `standingFollows` reads the scores, the standing and the flags. -/
theorem standingFollows_congr {r s t u : State} (before : r.trunk.standing = s.trunk.standing)
    (flags : r.port.flags = s.port.flags) (tx : u.trunk.txScore = t.trunk.txScore) (rx : u.trunk.rxScore = t.trunk.rxScore)
    (after : u.trunk.standing = t.trunk.standing) (flag : u.port.flags.getLsbD 6 = t.port.flags.getLsbD 6)
    (h : standingFollows s t) : standingFollows r u := by
  unfold standingFollows at h ⊢
  rw [before, flags, tx, rx, after, flag]
  exact h

/-- What a change of the scores leaves, the standing having followed it. -/
structure Rescored (s t : State) : Prop where
  outside : outsideTank t = outsideTank { s with
    trunk := { s.trunk with
      txScore := t.trunk.txScore, rxScore := t.trunk.rxScore, standing := t.trunk.standing
      cutoffHold := t.trunk.cutoffHold }
    port := { s.port with flags := t.port.flags, attention := t.port.attention } }
  silent : s.trunk.standing.silent = true → t.trunk.standing = s.trunk.standing ∧
    (t.trunk.cutoffHold = s.trunk.cutoffHold ∨ t.trunk.cutoffHold = some (s.elapsed + seconds s.cfg.cutoffHold))
  rated : s.trunk.standing.silent = false → t.trunk.standing = standingOf t.trunk.txScore t.trunk.rxScore ∨
    t.trunk.standing = s.trunk.standing ∧ t.trunk.txScore = s.trunk.txScore ∧ t.trunk.rxScore = s.trunk.rxScore
  held : s.trunk.standing.silent = false → t.trunk.standing = .cutOff .score →
    t.trunk.cutoffHold = some (s.elapsed + seconds s.cfg.cutoffHold)
  slots : t.trunk.slots = s.trunk.slots ∨ ∃ c, t.trunk.slots = s.trunk.slots.set .claim (s.trunk.slots.claim.queue (.claim c))
  loud : t.trunk.standing.silent = false → t.trunk.tx = s.trunk.tx ∧ t.trunk.txUntil = s.trunk.txUntil ∨
    s.trunk.tx = .idle ∧ t.trunk.tx = if s.trunk.lineFree then .defer else .waitLine
  flags : ∀ i, i ≠ 6 → t.port.flags.getLsbD i = s.port.flags.getLsbD i

/-- What a change of the standing brings with it, its absence included. -/
structure Restands (s t : State) : Prop where
  still : t.trunk.standing = s.trunk.standing → t = { scored t.trunk.txScore t.trunk.rxScore s with
    trunk.cutoffHold := t.trunk.cutoffHold }
  share : t.trunk.standing ≠ s.trunk.standing → shareFollows s t
  flag : t.port.flags.getLsbD 6 = true ↔ s.port.flags.getLsbD 6 = true ∨ t.trunk.standing ≠ s.trunk.standing

theorem Rescored.refl (s : State) : Rescored s s :=
  ⟨rfl, fun _ => ⟨rfl, .inl rfl⟩, fun _ => .inr ⟨rfl, rfl, rfl⟩, fun loud cut => absurd loud (by rw [cut]; decide), .inl rfl,
    fun _ => .inl ⟨rfl, rfl⟩, fun _ _ => rfl⟩

theorem Restands.refl (s : State) : Restands s s :=
  ⟨fun _ => rfl, fun h => absurd rfl h, .inl, fun h => h.resolve_right (· rfl)⟩

/-- R19: a state whose standing is as its scores give it goes on to such a state. -/
theorem Rescored.follows {s t : State} (h : Rescored s t) (k : Restands s t) (ok : ScoresOk s) : standingFollows s t := by
  refine ⟨fun quiet => (h.silent quiet).1, fun loud => ?_, k.flag⟩
  rcases h.rated loud with rated | ⟨same, tx, rx⟩
  · exact rated
  · rw [same, tx, rx]; exact ok.2.2.1 loud

/-- R19: the standing recomputed from new scores. -/
theorem recomputeStanding_rescored (tx rx : Nat) (s : State) : Rescored s (recomputeStanding (scored tx rx s)) ∧
    Restands s (recomputeStanding (scored tx rx s)) := by
  have restood := recomputeStanding_restood (scored tx rx s)
  obtain ⟨etx, erx, silent, loud⟩ := recomputeStanding_sets (scored tx rx s)
  generalize recomputeStanding (scored tx rx s) = t at *
  refine ⟨⟨?_, fun h => ⟨congrArg (·.trunk.standing) (silent h), .inl (congrArg (·.trunk.cutoffHold) (silent h))⟩,
    fun h => .inl ?_, fun h cut => ?_, restood.slots, restood.loud, fun i other => ?_⟩, fun same => ?_, fun changed => ?_, ?_⟩
  · rw [restood.outside, etx, erx]; rfl
  · rw [(loud h).1, etx, erx]
  · have at_ := standingOf_cutOff.mp ((loud h).1.symm.trans cut)
    exact (loud h).2.trans (if_pos at_)
  · rw [restood.flags]
    split
    · rfl
    · exact getLsbD_other _ other
  · have unchanged : t = scored tx rx s := restood.still same
    rw [unchanged]; rfl
  · exact shareFollows_congr (restood.share changed) rfl rfl rfl rfl
  · rw [restood.flags]
    by_cases same : t.trunk.standing = s.trunk.standing
    · rw [if_pos (show t.trunk.standing = (scored tx rx s).trunk.standing from same)]
      exact ⟨.inl, fun h => h.resolve_right (· same)⟩
    · rw [if_neg (show ¬ t.trunk.standing = (scored tx rx s).trunk.standing from same)]
      exact ⟨fun _ => .inr same, fun _ => getLsbD_standingChange _⟩

/-- The hold started anew after a change of the scores. -/
theorem Rescored.startHold {s t : State} (h : Rescored s t) : Rescored s (startCutoffHold t) ∧
    (startCutoffHold t).trunk.cutoffHold = some (s.elapsed + seconds s.cfg.cutoffHold) := by
  obtain ⟨elapsed, _, _, _, _, _, _, _, _, port⟩ := outsideTank_fields h.outside
  have cfg : t.cfg = s.cfg := by unfold State.cfg; rw [port]
  have hold : (startCutoffHold t).trunk.cutoffHold = some (s.elapsed + seconds s.cfg.cutoffHold) := by
    rw [← elapsed, ← cfg]; rfl
  have outside := congrArg (fun v : State => { v with trunk := { v.trunk with
    cutoffHold := (startCutoffHold t).trunk.cutoffHold } }) h.outside
  exact ⟨⟨outside, fun quiet => ⟨(h.silent quiet).1, .inr hold⟩, h.rated, fun _ _ => hold, h.slots, h.loud, h.flags⟩, hold⟩

theorem Restands.startHold {s t : State} (h : Restands s t) : Restands s (startCutoffHold t) :=
  ⟨fun same => congrArg (fun v : State => { v with trunk := { v.trunk with
      cutoffHold := (startCutoffHold t).trunk.cutoffHold } }) (h.still same),
    fun changed => shareFollows_after rfl rfl rfl rfl rfl (h.share changed), h.flag⟩

/-- R16, R20: a bad bulletin scores 2, and starts a running hold anew. -/
theorem badBulletin_rescored (s : State) : Rescored s (badBulletin s) ∧ Restands s (badBulletin s) ∧
    (badBulletin s).trunk.txScore = s.trunk.txScore ∧ (badBulletin s).trunk.rxScore = min 100 (s.trunk.rxScore + 2) ∧
    (s.trunk.cutoffHold.isSome = true → (badBulletin s).trunk.cutoffHold = some (s.elapsed + seconds s.cfg.cutoffHold)) := by
  obtain ⟨rescored, restands⟩ : Rescored s (raiseRxScore 2 s) ∧ Restands s (raiseRxScore 2 s) :=
    recomputeStanding_rescored s.trunk.txScore (min 100 (s.trunk.rxScore + 2)) s
  obtain ⟨tx, rx, silent, loud⟩ := recomputeStanding_sets (scored s.trunk.txScore (min 100 (s.trunk.rxScore + 2)) s)
  have held : s.trunk.cutoffHold.isSome = true → (raiseRxScore 2 s).trunk.cutoffHold.isSome = true := by
    intro running
    cases quiet : s.trunk.standing.silent with
    | true => exact (congrArg (·.trunk.cutoffHold.isSome) (silent quiet)).trans running
    | false =>
      refine (congrArg Option.isSome (loud quiet).2).trans ?_
      split
      · rfl
      · exact running
  unfold badBulletin
  dsimp only
  split
  case isTrue => exact ⟨rescored.startHold.1, restands.startHold, tx, rx, fun _ => rescored.startHold.2⟩
  case isFalse idle => exact ⟨rescored, restands, tx, rx, fun running => absurd (held running) idle⟩

/-! ### The line becomes free -/

/-- R15: what the receiver makes of a free line. -/
def freed (s : State) : State :=
  { s with trunk := { s.trunk with lineFree := true, rx := if s.trunk.rx = .off then .off else .listen } }

/-- R16: the receive fault score after the line has become free. -/
def freedScore (s : State) : Nat :=
  match s.trunk.rx with
  | .frame g => if g.echo then s.trunk.rxScore else min 100 (s.trunk.rxScore + 2)
  | _ => s.trunk.rxScore

/-- R16: a frame that is not an echo is truncated, and so bad. -/
theorem receiverTakesFree_truncates {s : State} {g : Gathering} (rx : s.trunk.rx = .frame g) (echo : g.echo = false) :
    receiverTakesFree { s with trunk.lineFree := true } = badBulletin (freed s) ∧
    freedScore s = min 100 (s.trunk.rxScore + 2) := by
  unfold receiverTakesFree freedScore freed
  dsimp only
  rw [rx]
  dsimp only
  rw [echo]
  exact ⟨rfl, rfl⟩

/-- R15: otherwise nothing is scored. -/
theorem receiverTakesFree_unscored {s : State} (h : ∀ g, s.trunk.rx = .frame g → g.echo = true) :
    receiverTakesFree { s with trunk.lineFree := true } = freed s ∧ freedScore s = s.trunk.rxScore := by
  obtain ⟨_, ⟨_, _, _, _, rx, _, _, _, _, _, _, _⟩, _⟩ := s
  cases rx with
  | off => exact ⟨rfl, rfl⟩
  | listen => exact ⟨rfl, rfl⟩
  | discard => exact ⟨rfl, rfl⟩
  | frame g => exact ⟨if_pos (h g rfl), if_pos (h g rfl)⟩

theorem receiverTakesFree_takes (s : State) : ∃ u, receiverTakesFree { s with trunk.lineFree := true } = u ∧
    Rescored (freed s) u ∧ Restands (freed s) u ∧ u.trunk.txScore = s.trunk.txScore ∧ u.trunk.rxScore = freedScore s ∧
    ((∀ g, s.trunk.rx ≠ .frame g) → u = freed s) := by
  by_cases bad : ∃ g, s.trunk.rx = .frame g ∧ g.echo = false
  · obtain ⟨g, rx, echo⟩ := bad
    obtain ⟨truncates, score⟩ := receiverTakesFree_truncates rx echo
    obtain ⟨rescored, restands, tx, rescore, _⟩ := badBulletin_rescored (freed s)
    exact ⟨_, truncates, rescored, restands, tx, rescore.trans score.symm, fun other => absurd rx (other g)⟩
  · obtain ⟨same, score⟩ := receiverTakesFree_unscored fun g rx => by
      by_contra echo
      exact bad ⟨g, rx, by simpa using echo⟩
    exact ⟨_, same, .refl _, .refl _, rfl, score.symm, fun _ => rfl⟩

theorem drawDeferral_draws (s : State) : (drawDeferral s).trunk.tx = .defer ∧
    ∃ n, n < 4 ∧ (drawDeferral s).trunk.txUntil = some (s.elapsed + n * 25 / 3) :=
  ⟨rfl, _, (Config.deferralDraw s.free.deferrals).isLt, rfl⟩

/-- A state with its transmitter's state and wait replaced. -/
def withWait (tx : TxState) (x : Option Nat) (f : FreeCounters) (s : State) : State :=
  { s with trunk := { s.trunk with tx := tx, txUntil := x }, free := f }

/-- R1, R7: the line that becomes free lets a transmitter that waits for it draw its deferral. -/
theorem takeLineFree_takes (s : State) : ∃ u, Rescored (freed s) u ∧ Restands (freed s) u ∧ u.trunk.txScore = s.trunk.txScore ∧
    u.trunk.rxScore = freedScore s ∧
    ((∀ g, s.trunk.rx ≠ .frame g) → u = freed s) ∧
    (∃ tx x f, takeLineFree s = withWait tx x f u) ∧
    (u.trunk.tx = .waitLine → (takeLineFree s).trunk.tx = .defer ∧
      ∃ n, n < 4 ∧ (takeLineFree s).trunk.txUntil = some (u.elapsed + n * 25 / 3)) ∧
    (u.trunk.tx ≠ .waitLine → takeLineFree s = u) := by
  obtain ⟨u, hu, rescored, restands, txScore, score, unscored⟩ := receiverTakesFree_takes s
  have takes : takeLineFree s = if u.trunk.tx = .waitLine then drawDeferral u else u := by rw [← hu]; rfl
  refine ⟨u, rescored, restands, txScore, score, unscored, ?_⟩
  rw [takes]
  by_cases waits : u.trunk.tx = .waitLine
  · rw [if_pos waits]
    exact ⟨⟨_, _, _, rfl⟩, fun _ => drawDeferral_draws u, fun h => absurd waits h⟩
  · rw [if_neg waits]
    exact ⟨⟨_, _, _, rfl⟩, fun h => absurd h waits, fun _ => rfl⟩

/-- R1, R7, R14: an end of a backoff or of an attempt, said once. -/
theorem transmitterRests_rests (s : State) :
    (s.trunk.firstEligible = none → (transmitterRests s).trunk.tx = .idle ∧ (transmitterRests s).trunk.txUntil = none ∧
      (transmitterRests s).free = s.free) ∧
    (s.trunk.firstEligible ≠ none → s.trunk.lineFree = false → (transmitterRests s).trunk.tx = .waitLine ∧
      (transmitterRests s).trunk.txUntil = none ∧ (transmitterRests s).free = s.free) ∧
    (s.trunk.firstEligible ≠ none → s.trunk.lineFree = true → (transmitterRests s).trunk.tx = .defer ∧
      ∃ n, n < 4 ∧ (transmitterRests s).trunk.txUntil = some (s.elapsed + n * 25 / 3)) ∧
    transmitterRests s = { s with
      trunk := { s.trunk with tx := (transmitterRests s).trunk.tx, txUntil := (transmitterRests s).trunk.txUntil }
      free := (transmitterRests s).free } := by
  obtain ⟨busy, free⟩ := enterWaitLine_waits s
  unfold transmitterRests
  cases first : s.trunk.firstEligible with
  | none => exact ⟨fun _ => ⟨rfl, rfl, rfl⟩, fun h => absurd rfl h, fun h => absurd rfl h, rfl⟩
  | some k => exact ⟨nofun, fun _ => busy, fun _ => free, enterWaitLine_sets s⟩

/-- Settles O28: the receiver takes the free line (`receiverTakesFree_takes`) and a waiting transmitter draws; a backoff's
end is `transmitterRests_rests`. -/
theorem lineFreeAndBackoffLetTheTransmitterGoOn : Obligations.LineFreeAndBackoffLetTheTransmitterGoOn := by
  refine ⟨fun s run busy idle gap => ?_, fun s x backoff until_ due => ?_⟩
  · have seen : idleGapSeen s = true := by
      unfold idleGapSeen
      rw [run, busy, idle]
      exact decide_eq_true gap
    obtain ⟨u, rescored, restands, txScore, score, unscored, ⟨tx, x, f, sets⟩, draws, stays⟩ := takeLineFree_takes s
    obtain ⟨elapsed, _, _, _, _, _, _, trunk, _⟩ := outsideTank_fields rescored.outside
    refine ⟨takeLineFree s, congrArg _ (if_pos seen), ?_⟩
    have standing : (takeLineFree s).trunk.standing = u.trunk.standing := by rw [sets]; rfl
    have kept : u.trunk.standing.silent = false → s.trunk.tx ≠ .idle →
        u.trunk.tx = s.trunk.tx ∧ u.trunk.txUntil = s.trunk.txUntil :=
      fun loud awake => (rescored.loud loud).resolve_right fun h => awake h.1
    refine ⟨?_, ?_, ?_, fun ok => ?_, fun changed => ?_, fun waits loud => ?_, fun backoff loud => ?_, fun other => ?_, ?_⟩
    · rw [sets]; exact congrArg Trunk.lineFree trunk
    · rw [sets]; exact congrArg Trunk.rx trunk
    · rw [sets]; exact score
    · rw [sets]; exact standingFollows_congr rfl rfl rfl rfl rfl rfl (rescored.follows restands ok)
    · rw [standing] at changed
      rw [sets]
      exact shareFollows_after rfl rfl rfl rfl rfl (shareFollows_congr (restands.share changed) rfl rfl rfl rfl)
    · rw [standing] at loud
      obtain ⟨same, _⟩ := kept loud (by rw [waits]; nofun)
      rw [elapsed] at draws
      exact draws (same.trans waits)
    · rw [standing] at loud
      obtain ⟨same, wait⟩ := kept loud (by rw [backoff]; nofun)
      rw [stays (by rw [same, backoff]; nofun)]
      exact ⟨same.trans backoff, wait⟩
    · rw [sets, unscored other]; rfl
    · rw [sets]
      have outside := rescored.outside
      rw [txScore] at outside
      have rx : u.trunk.rx = (freed s).trunk.rx := by rw [trunk]
      rw [show (withWait tx x f u).trunk.rx = (freed s).trunk.rx from rx]
      exact outside
  · obtain ⟨none, busy, free, sets⟩ := transmitterRests_rests s
    refine ⟨transmitterRests s, congrArg _ (if_pos ⟨backoff, by rw [until_]; exact due_some due⟩), fun first => ?_,
      fun first line => ?_, free, sets⟩
    · exact ⟨(none first).1, (none first).2.1⟩
    · exact ⟨(busy first line).1, (busy first line).2.1⟩

end Sys2Proof.Machine
end

section
/-! SUPPORT. The ends of an attempt: a failure's scores, slot and backoff, and a collision (O30). -/

namespace Sys2Proof.Machine

/-! ### Two changes of the scores, one after the other -/

theorem elapsed_cfg_of_tank {s t : State} (h : outsideTank t = outsideTank s) : t.elapsed = s.elapsed ∧ t.cfg = s.cfg := by
  obtain ⟨elapsed, _, _, _, _, _, _, _, _, port⟩ := outsideTank_fields h
  exact ⟨elapsed, by unfold State.cfg; rw [port]⟩

theorem Rescored.fields {s t : State} (h : Rescored s t) : t.elapsed = s.elapsed ∧ t.cfg = s.cfg ∧
    t.trunk.attempt = s.trunk.attempt ∧ t.trunk.lineFree = s.trunk.lineFree ∧
    t.trunk.lastActivity = s.trunk.lastActivity ∧ t.trunk.rx = s.trunk.rx ∧ t.trunk.presence = s.trunk.presence ∧
    t.peers = s.peers ∧ t.time = s.time ∧ t.rain = s.rain := by
  obtain ⟨elapsed, peers, time, _, rain, _, _, trunk, _, port⟩ := outsideTank_fields h.outside
  exact ⟨elapsed, by unfold State.cfg; rw [port], by rw [trunk], by rw [trunk], by rw [trunk], by rw [trunk], by rw [trunk],
    peers, time, rain⟩

/-- The same with no attempt. -/
theorem Rescored.of_attempt {s t : State} (h : Rescored s t) (a : Option Attempt) :
    Rescored { s with trunk.attempt := a } { t with trunk.attempt := a } :=
  ⟨congrArg (fun v : State => { v with trunk := { v.trunk with attempt := a } }) h.outside, h.silent, h.rated, h.held,
    h.slots, h.loud, h.flags⟩

theorem Restands.of_attempt {s t : State} (h : Restands s t) (a : Option Attempt) :
    Restands { s with trunk.attempt := a } { t with trunk.attempt := a } :=
  ⟨fun same => congrArg (fun v : State => { v with trunk := { v.trunk with attempt := a } }) (h.still same),
    fun changed => shareFollows_after rfl rfl rfl rfl rfl (shareFollows_congr (h.share changed) rfl rfl rfl rfl), h.flag⟩

theorem Rescored.trans {s t u : State} (h : Rescored s t) (k : Rescored t u) (rise : t.trunk.txScore ≤ u.trunk.txScore) :
    Rescored s u := by
  obtain ⟨elapsed, cfg, _, free, _⟩ := h.fields
  refine ⟨?_, fun quiet => ?_, fun loud => ?_, fun loud cut => ?_, ?_, fun loud => ?_,
    fun i other => (k.flags i other).trans (h.flags i other)⟩
  · rw [k.outside]
    exact congrArg (fun v : State => { v with
      trunk := { v.trunk with
        txScore := u.trunk.txScore, rxScore := u.trunk.rxScore, standing := u.trunk.standing
        cutoffHold := u.trunk.cutoffHold }
      port := { v.port with flags := u.port.flags, attention := u.port.attention } }) h.outside
  · obtain ⟨same, hold⟩ := h.silent quiet
    obtain ⟨same', hold'⟩ := k.silent (by rw [same]; exact quiet)
    rw [elapsed, cfg] at hold'
    refine ⟨same'.trans same, ?_⟩
    rcases hold' with kept | anew
    · rw [kept]; exact hold
    · exact .inr anew
  · cases later : t.trunk.standing.silent with
    | true =>
      obtain ⟨same, _⟩ := k.silent later
      rcases h.rated loud with rated | ⟨stays, _⟩
      · have high : 200 ≤ t.trunk.txScore := by
          rw [rated, standingOf_silent] at later; exact of_decide_eq_true later
        rw [same, rated]
        exact .inl ((standingOf_cutOff.mpr high).trans (standingOf_cutOff.mpr (high.trans rise)).symm)
      · rw [stays, loud] at later; cases later
    | false =>
      rcases k.rated later with rated | ⟨same, tx, rx⟩
      · exact .inl rated
      · rw [same, tx, rx]; exact h.rated loud
  · cases later : t.trunk.standing.silent with
    | true =>
      obtain ⟨same, hold⟩ := k.silent later
      have started := h.held loud (same.symm.trans cut)
      rw [elapsed, cfg] at hold
      rcases hold with kept | anew
      · rw [kept]; exact started
      · exact anew
    | false => rw [← elapsed, ← cfg]; exact k.held later cut
  · rcases k.slots with same | ⟨c, queued⟩
    · rw [same]; exact h.slots
    · refine .inr ⟨c, ?_⟩
      rcases h.slots with same | ⟨d, before⟩
      · rw [queued, same]
      · rw [queued, before, slots_set_set]
        exact congrArg _ (slot_queue_queue _ _ _)
  · have before : t.trunk.standing.silent = false := by
      by_contra quiet
      have quiet' := (Bool.not_eq_false _).mp quiet
      rw [(k.silent quiet').1, quiet'] at loud; cases loud
    rcases k.loud loud with ⟨tx, wait⟩ | ⟨idle, woken⟩
    · rw [tx, wait]; exact h.loud before
    · rcases h.loud before with ⟨tx, _⟩ | ⟨_, woken'⟩
      · exact .inr ⟨tx ▸ idle, by rw [← free]; exact woken⟩
      · rw [woken'] at idle
        split at idle <;> cases idle

/-- Where one of the two leaves the standing. -/
theorem Restands.trans {s t u : State} (h : Restands s t) (k : Restands t u)
    (one : u.trunk.standing = t.trunk.standing ∨ t.trunk.standing = s.trunk.standing) : Restands s u := by
  refine ⟨fun same => ?_, fun changed => ?_, ?_⟩
  · have first : t.trunk.standing = s.trunk.standing := one.elim (fun e => e.symm.trans same) id
    have second := k.still (same.trans first.symm)
    rw [h.still first] at second
    exact second
  · rcases one with stays | stays
    · have second := k.still stays
      rw [second]
      exact shareFollows_after rfl rfl rfl rfl rfl (h.share fun same => changed (stays.trans same))
    · have first := h.still stays
      have share := k.share fun same => changed (same.trans stays)
      rw [first] at share
      exact shareFollows_congr share rfl rfl rfl rfl
  · rw [k.flag, h.flag]
    rcases one with stays | stays
    · rw [stays]; simp
    · rw [stays]; simp

/-! ### What a failure scores -/

/-- R9, R10, R13: the transmit fault score raised. -/
theorem raiseTxScore_rescored (n : Nat) (s : State) : Rescored s (raiseTxScore n s) ∧ Restands s (raiseTxScore n s) ∧
    (raiseTxScore n s).trunk.txScore = min 200 (s.trunk.txScore + n) ∧
    (raiseTxScore n s).trunk.rxScore = s.trunk.rxScore := by
  obtain ⟨rescored, restands⟩ := recomputeStanding_rescored (min 200 (s.trunk.txScore + n)) s.trunk.rxScore s
  obtain ⟨tx, rx, _⟩ := recomputeStanding_sets (scored (min 200 (s.trunk.txScore + n)) s.trunk.rxScore s)
  exact ⟨rescored, restands, tx, rx⟩

/-- R9, R10: what an attempt's failure scores by itself. -/
theorem failureScore_rescored (score : Nat) {s : State} (low : s.trunk.txScore ≤ 200) :
    Rescored s (if score = 0 then s else raiseTxScore score s) ∧
    Restands s (if score = 0 then s else raiseTxScore score s) ∧
    (if score = 0 then s else raiseTxScore score s).trunk.txScore = min 200 (s.trunk.txScore + score) ∧
    (if score = 0 then s else raiseTxScore score s).trunk.rxScore = s.trunk.rxScore := by
  split
  case isTrue none => exact ⟨.refl s, .refl s, by omega, rfl⟩
  case isFalse => exact raiseTxScore_rescored score s

/-- R19: a rise by at most 10 and a further one by 20 do not pass two of the bounds 40, 100 and 200. -/
theorem standingOf_twice {tx score : Nat} (rx : Nat) (small : score ≤ 10) :
    standingOf (min 200 (min 200 (tx + score) + 20)) rx = standingOf (min 200 (tx + score)) rx ∨
    standingOf (min 200 (tx + score)) rx = standingOf tx rx := by
  unfold standingOf
  split_ifs <;> simp <;> omega

/-- R19: of two such rises, at most one changes the standing. -/
theorem Rescored.one_changes {s t u : State} {score : Nat} (ok : ScoresOk s) (first : Rescored s t) (stands : Restands s t)
    (second : Rescored t u) (small : score ≤ 10)
    (tx : t.trunk.txScore = min 200 (s.trunk.txScore + score)) (rx : t.trunk.rxScore = s.trunk.rxScore)
    (tx' : u.trunk.txScore = min 200 (t.trunk.txScore + 20)) (rx' : u.trunk.rxScore = t.trunk.rxScore) :
    u.trunk.standing = t.trunk.standing ∨ t.trunk.standing = s.trunk.standing := by
  obtain ⟨stays, follows, _⟩ := first.follows stands ok
  change _ → t.trunk.standing = standingOf _ _ at follows
  cases quiet : s.trunk.standing.silent with
  | true => exact .inr (stays quiet)
  | false =>
    have given := follows quiet
    cases quiet' : t.trunk.standing.silent with
    | true => exact .inl (second.silent quiet').1
    | false =>
      have scores : u.trunk.standing = standingOf u.trunk.txScore u.trunk.rxScore ∨ u.trunk.standing = t.trunk.standing :=
        (second.rated quiet').imp_right And.left
      rcases scores with rated | same
      · rw [rated, given, ok.2.2.1 quiet, tx', rx', tx, rx]
        exact standingOf_twice _ small
      · exact .inl same

/-- What a failed attempt leaves before its slot leaves SENDING. -/
structure FailureScored (k : Kind) (n score : Nat) (s u : State) : Prop where
  rescored : Rescored { s with trunk.attempt := none } u
  restands : n < 12 ∨ ScoresOk s → Restands { s with trunk.attempt := none } u
  rx : u.trunk.rxScore = s.trunk.rxScore
  tx : u.trunk.txScore = if n < 12 then min 200 (s.trunk.txScore + score) else min 200 (s.trunk.txScore + score + 20)
  fails : failAttempt k score s = if n < 12 then enterBackoff n (setSlot k (u.trunk.slots.get k).afterFailure u)
    else enterBackoff 12 (setSlot k .empty u)

theorem failAttempt_scored {k : Kind} {b : Body} {n score : Nat} {next : Option Body} {s : State}
    (slot : s.trunk.slots.get k = .sending b n next) (low : s.trunk.txScore ≤ 200) (small : score ≤ 10) :
    ∃ u, FailureScored k (n + 1) score s u := by
  obtain ⟨first, stands, tx, rx⟩ := failureScore_rescored score low
  obtain ⟨v, hv⟩ : ∃ v, v = if score = 0 then s else raiseTxScore score s := ⟨_, rfl⟩
  rw [← hv] at first stands tx rx
  have count : (s.trunk.slots.get k).count = n := by rw [slot]; rfl
  have fails : failAttempt k score s = if n + 1 < 12
      then enterBackoff (n + 1) (setSlot k (v.trunk.slots.get k).afterFailure { v with trunk.attempt := none })
      else enterBackoff 12 (setSlot k .empty (raiseTxScore 20 { v with trunk.attempt := none })) := by
    unfold failAttempt
    dsimp only
    rw [count, ← hv]
  by_cases few : n + 1 < 12
  · rw [if_pos few] at fails
    exact ⟨{ v with trunk.attempt := none }, first.of_attempt none, fun _ => stands.of_attempt none, rx,
      by rw [if_pos few]; exact tx, by rw [if_pos few]; exact fails⟩
  · rw [if_neg few] at fails
    obtain ⟨second, stands', tx', rx'⟩ := raiseTxScore_rescored 20 { v with trunk.attempt := none }
    have rise : v.trunk.txScore ≤ (raiseTxScore 20 { v with trunk.attempt := none }).trunk.txScore := by
      rw [tx']
      show v.trunk.txScore ≤ min 200 (v.trunk.txScore + 20)
      omega
    refine ⟨_, (first.of_attempt none).trans second rise, fun ok => ?_, rx'.trans rx, ?_, ?_⟩
    · have ok : ScoresOk s := ok.resolve_left few
      have bare : ScoresOk { s with trunk.attempt := none } := ok
      exact (stands.of_attempt none).trans stands'
        ((first.of_attempt none).one_changes bare (stands.of_attempt none) second small tx rx tx' rx')
    · rw [if_neg few, tx']
      show min 200 (v.trunk.txScore + 20) = _
      omega
    · rw [if_neg few]; exact fails

/-- R12, R14: the backoff of a failure, or none in a silent standing. -/
theorem enterBackoff_enters (m : Nat) (s : State) :
    (s.trunk.standing.silent = true → (enterBackoff m s).trunk.tx = .idle ∧ (enterBackoff m s).trunk.txUntil = none) ∧
    (s.trunk.standing.silent = false → (enterBackoff m s).trunk.tx = .backoff ∧
      ∃ j, j < 2 ^ min m 5 ∧ (enterBackoff m s).trunk.txUntil = some (s.elapsed + j * 25 / 3)) ∧
    ∃ tx x f, enterBackoff m s = withWait tx x f s := by
  unfold enterBackoff
  cases s.trunk.standing.silent with
  | true => exact ⟨fun _ => ⟨rfl, rfl⟩, nofun, _, _, _, rfl⟩
  | false => exact ⟨nofun, fun _ => ⟨rfl, _, Nat.mod_lt _ (by positivity), rfl⟩, _, _, _, rfl⟩

/-! ### What a failure leaves -/

theorem Rescored.otherSlot {s t : State} (h : Rescored s t) {j : Kind} (other : j ≠ .claim) :
    t.trunk.slots.get j = s.trunk.slots.get j := by
  rcases h.slots with same | ⟨c, queued⟩
  · rw [same]
  · rw [queued, slots_get_set_other _ _ other]

/-- The slot of the attempt keeps its body and its count; a CLAIM queued by the notice of a changed standing may replace what
waits behind it. -/
theorem Rescored.sending {s t : State} (h : Rescored s t) {k : Kind} {b : Body} {n : Nat} {next : Option Body}
    (slot : s.trunk.slots.get k = .sending b n next) : ∃ next', t.trunk.slots.get k = .sending b n next' ∧
      (k ≠ .claim ∨ t.trunk.slots = s.trunk.slots → next' = next) := by
  rcases h.slots with same | ⟨c, queued⟩
  · exact ⟨next, by rw [same]; exact slot, fun _ => rfl⟩
  by_cases unchanged : k ≠ .claim ∨ t.trunk.slots = s.trunk.slots
  · refine ⟨next, ?_, fun _ => rfl⟩
    rcases unchanged with other | same
    · exact (h.otherSlot other).trans slot
    · rw [same]; exact slot
  · obtain rfl : k = .claim := by_contra fun other => unchanged (.inl other)
    have before : s.trunk.slots.claim = .sending b n next := slot
    exact ⟨some (.claim c), by rw [queued, slots_get_set, before]; rfl, fun h => absurd h unchanged⟩

/-- What every end of an attempt that fails leaves (R9, R10, R12 to R14, R19). -/
structure Fails (k : Kind) (b : Body) (n : Nat) (next : Option Body) (score : Nat) (s t : State) : Prop where
  failed : attemptFailed k b n next score s t
  rated : s.trunk.standing.silent = false → t.trunk.txScore ≠ s.trunk.txScore →
    t.trunk.standing = standingOf t.trunk.txScore s.trunk.rxScore
  silent : s.trunk.standing.silent = true → t.trunk.standing = s.trunk.standing
  follows : ScoresOk s → standingFollows s t ∧ (t.trunk.standing ≠ s.trunk.standing → shareFollows s t)
  outside : outsideTank t = outsideTank { s with
    trunk := { s.trunk with
      attempt := none, txScore := t.trunk.txScore, standing := t.trunk.standing, cutoffHold := t.trunk.cutoffHold }
    port := { s.port with flags := t.port.flags, attention := t.port.attention } }

theorem FailureScored.backoff {k : Kind} {n score : Nat} {s u : State} (h : FailureScored k n score s u) :
    ∃ v, failAttempt k score s = enterBackoff (min n 12) (setSlot k v u) ∧
      (n < 12 → v = (u.trunk.slots.get k).afterFailure) ∧ (¬ n < 12 → v = .empty) := by
  have fails := h.fails
  by_cases few : n < 12
  · rw [if_pos few] at fails
    rw [Nat.min_eq_left few.le]
    exact ⟨_, fails, fun _ => rfl, fun many => absurd few many⟩
  · rw [if_neg few] at fails
    rw [Nat.min_eq_right (not_lt.mp few)]
    exact ⟨_, fails, fun h => absurd h few, fun _ => rfl⟩

theorem failAttempt_fails {k : Kind} {b : Body} {n score : Nat} {next : Option Body} {s : State}
    (slot : s.trunk.slots.get k = .sending b n next) (low : s.trunk.txScore ≤ 200) (small : score ≤ 10) :
    Fails k b n next score s (failAttempt k score s) := by
  obtain ⟨u, h⟩ := failAttempt_scored slot low small
  obtain ⟨v, fails, few, many⟩ := h.backoff
  obtain ⟨elapsed, cfg, attempt, _⟩ := h.rescored.fields
  obtain ⟨quiet, loud, tx, x, f, sets⟩ := enterBackoff_enters (min (n + 1) 12) (setSlot k v u)
  rw [fails]
  refine ⟨⟨?_, ?_, fun lt => ⟨?_, ?_⟩, fun eq => ⟨?_, ?_⟩, fun j other claim => ?_, fun before cut => ?_, fun silent => ?_,
    fun before => ?_⟩, fun before changed => ?_, fun before => ?_, fun ok => ⟨?_, fun changed => ?_⟩, ?_⟩
  · rw [sets]; exact attempt
  · rw [sets]; exact h.rx
  · rw [sets]; exact h.tx.trans (if_pos lt)
  · obtain ⟨next', sending, kept⟩ := h.rescored.sending (s := { s with trunk.attempt := none }) slot
    refine ⟨next'.getD b, ?_, fun unchanged => ?_⟩
    · rw [sets, few lt, sending]; exact slots_get_set _ _ _
    · rw [kept (unchanged.imp_right fun same => ?_)]
      rw [sets] at same
      rw [(h.restands (.inl lt)).still same]
      rfl
  · rw [sets]; exact h.tx.trans (if_neg (by omega))
  · rw [sets, many (by omega)]; exact slots_get_set _ _ _
  · rw [sets]; exact (slots_get_set_other _ _ other).trans (h.rescored.otherSlot claim)
  · rw [sets] at cut ⊢
    rw [Nat.mul_comm 1000]
    exact h.rescored.held before cut
  · rw [sets] at silent; exact quiet silent
  · rw [sets] at before
    obtain ⟨tx, m, range, wait⟩ := loud before
    exact ⟨tx, m, by rwa [min_assoc, Nat.min_eq_right (by decide : 5 ≤ 12)] at range, by rw [← elapsed]; exact wait⟩
  · rw [sets] at changed ⊢
    rcases h.rescored.rated before with rated | ⟨_, same, _⟩
    · rw [← h.rx]; exact rated
    · exact absurd same changed
  · rw [sets]; exact (h.rescored.silent before).1
  · rw [sets]
    exact h.rescored.follows (h.restands (.inr ok)) (s := { s with trunk.attempt := none }) ok
  · rw [sets] at changed ⊢
    exact shareFollows_after rfl rfl rfl rfl rfl
      (shareFollows_congr ((h.restands (.inr ok)).share changed) rfl rfl rfl rfl)
  · rw [sets]
    have outside := h.rescored.outside
    rw [h.rx] at outside
    exact outside

/-- R24, R25: a disregarded attempt ends without a score. -/
theorem endDisregarded_ends (s : State) : disregardedEnds s (endDisregarded s) := by
  obtain ⟨none, busy, free, sets⟩ := transmitterRests_rests { s with trunk.attempt := Option.none }
  unfold endDisregarded disregardedEnds
  dsimp only
  cases run : s.inRun with
  | false => exact ⟨rfl, fun _ => ⟨rfl, rfl, rfl⟩, nofun, nofun⟩
  | true => exact ⟨sets, fun h => none (h.resolve_left nofun), fun _ => busy, fun _ => free⟩

/-! ### A collision -/

theorem lineActivity_eq (s : State) : lineActivity s = lineHeard s := by
  unfold lineActivity lineHeard
  dsimp only
  split <;> rfl

/-- R1, R15: the line after a collision in RUN. -/
def collided (s : State) : State :=
  { lineHeard s with trunk.rx := match s.trunk.rx with | .frame _ => .discard | r => r }

theorem receiverCollides_eq (s : State) : receiverCollides (lineActivity s) = collided s := by
  rw [lineActivity_eq]
  obtain ⟨_, ⟨_, _, _, _, rx, _, _, _, _, _, _, _⟩, _⟩ := s
  cases rx <;> rfl

/-- R8, R15: what a collision comes to, by run state and attempt. -/
theorem takeCollision_takes (atByte : Nat) (s : State) :
    (s.trunk.attempt = none → takeCollision atByte s = if s.inRun then collided s else s) ∧
    ∀ a, s.trunk.attempt = some a →
      takeCollision atByte s = attemptCollides a atByte (if s.inRun then collided s else s) := by
  unfold takeCollision
  rw [receiverCollides_eq]
  dsimp only
  have attempt : (if s.inRun then collided s else s).trunk.attempt = s.trunk.attempt := by split <;> rfl
  rw [attempt]
  exact ⟨fun h => by rw [h], fun a h => by rw [h]⟩

/-- Settles O30: the line is heard (`collided`), then the attempt ends (`endDisregarded_ends`, `failAttempt_fails`). -/
theorem collisionEndsAttempt : Obligations.CollisionEndsAttempt := by
  refine ⟨fun s atByte config => ?_, fun s atByte run => ?_⟩
  · obtain ⟨idle, driving⟩ := takeCollision_takes atByte s
    rw [config] at idle driving
    refine ⟨fun h => ⟨_, rfl, idle h⟩, fun a h disregarded => ⟨_, rfl, ?_⟩⟩
    rw [driving a h, attemptCollides, if_pos disregarded]
    exact endDisregarded_ends s
  · obtain ⟨idle, driving⟩ := takeCollision_takes atByte s
    rw [run] at idle driving
    refine ⟨fun h => ⟨_, rfl, idle h⟩, fun a h disregarded => ⟨_, rfl, ?_⟩,
      fun a b n next h regarded slot low => ⟨_, rfl, ?_⟩⟩
    · rw [driving a h, attemptCollides, if_pos disregarded]
      exact endDisregarded_ends (collided s)
    · have ends : takeCollision atByte s = failAttempt a.kind (if atByte < 6 then 0 else 10) (collided s) :=
        (driving a h).trans (if_neg (by rw [regarded]; decide))
      rw [ends]
      have fails := failAttempt_fails (s := collided s) (score := if atByte < 6 then 0 else 10) slot low (by split <;> omega)
      generalize failAttempt a.kind (if atByte < 6 then 0 else 10) (collided s) = t at fails
      obtain ⟨_, _, _, _, _, _, _, trunk, _⟩ := outsideTank_fields fails.outside
      have rx : t.trunk.rx = (collided s).trunk.rx := by rw [trunk]
      refine ⟨fails.failed, by rw [trunk]; rfl, by rw [trunk]; rfl, rx, fails.rated, fails.silent, fun ok => ?_, ?_⟩
      · obtain ⟨follows, share⟩ := fails.follows ok
        exact ⟨follows, fun changed => shareFollows_congr (share changed) rfl rfl rfl rfl⟩
      · rw [rx]
        exact fails.outside

end Sys2Proof.Machine
end

section
/-! SUPPORT. The limit record taken from a LIMIT, and a clean send (O31). -/

namespace Sys2Proof.Machine

/-! ### A flag raised -/

theorem raise_flag_other (f : EventFlag) (s : State) {i : Nat} (h : i ≠ f.bit) :
    (raise f s).port.flags.getLsbD i = s.port.flags.getLsbD i := by
  rw [raise_port, (withEvents_sets _ _ _).1, BitVec.getLsbD_or, BitVec.getLsbD_twoPow]
  simp [Ne.symm h]

theorem raise_flag_self (f : EventFlag) (s : State) : (raise f s).port.flags.getLsbD f.bit = true := by
  have small : f.bit < 15 := by cases f <;> decide
  rw [raise_port, (withEvents_sets _ _ _).1, BitVec.getLsbD_or, BitVec.getLsbD_twoPow]
  simp [small]

/-- A state with a new record of the LIMIT and other flags. -/
def limited (r : LimitRecord) (flags : BitVec 15) (attention : Bool) (s : State) : State :=
  { s with peers.limit := some r, port := { s.port with flags := flags, attention := attention } }

/-- R41: LIMIT_CHANGE is raised where the record is absent, not fresh or of another capacity. -/
theorem applyLimit_applies (l : LimitBody) (a : Addr) (x : Stamped) (s : State) :
    (∃ flags attention, applyLimit l a x s = limited ⟨l.capacity, l.validity, a, x, true⟩ flags attention s) ∧
    limitFlagged (some l.capacity) s (applyLimit l a x s) ∧
    ∀ i, i ≠ 9 → (applyLimit l a x s).port.flags.getLsbD i = s.port.flags.getLsbD i := by
  unfold limitFlagged applyLimit
  dsimp only
  cases old : s.peers.limit with
  | none =>
    refine ⟨⟨_, _, rfl⟩, ⟨fun _ => .inr ⟨_, rfl, nofun⟩, fun _ => raise_flag_self .limitChange _⟩,
      fun i other => raise_flag_other .limitChange _ other⟩
  | some r =>
    dsimp only
    by_cases fresh : r.fresh = false ∨ r.capacity ≠ l.capacity
    · rw [if_pos fresh]
      refine ⟨⟨_, _, rfl⟩, ⟨fun _ => .inr ⟨_, rfl, ?_⟩, fun _ => raise_flag_self .limitChange _⟩,
        fun i other => raise_flag_other .limitChange _ other⟩
      rintro _ ⟨⟩
      exact fresh
    · rw [if_neg fresh]
      refine ⟨⟨_, _, rfl⟩, ⟨.inl, fun h => h.resolve_right ?_⟩, fun i _ => rfl⟩
      rintro ⟨_, ⟨⟩, all⟩
      exact fresh (all r rfl)

/-! ### The own LIMIT -/

/-- R11 d, R42: the limit record after a clean send. -/
def ownLimit (a : Attempt) (s : State) : Option LimitRecord :=
  match a.body with
  | .limit l => some ⟨l.capacity, l.validity, s.ownAddress, ⟨s.elapsed, a.stamp⟩, true⟩
  | _ => s.peers.limit

/-- The capacity of the LIMIT that an attempt carries. -/
def ownCapacity (a : Attempt) : Option Nat :=
  match a.body with
  | .limit l => some l.capacity
  | _ => none

theorem limitFlagged_none (s : State) : limitFlagged none s s :=
  ⟨.inl, fun h => h.elim id fun ⟨_, absent, _⟩ => nomatch absent⟩

/-- What the own LIMIT leaves. -/
structure OwnLimitTaken (a : Attempt) (s t : State) : Prop where
  queued : ClaimQueued s t
  peers : t.peers = { s.peers with limit := ownLimit a s }
  outside : outsideTank t = outsideTank { s with
    peers := t.peers, port := { s.port with flags := t.port.flags, attention := t.port.attention } }
  flagged : limitFlagged (ownCapacity a) s t
  flags : ∀ i, i ≠ 9 → t.port.flags.getLsbD i = s.port.flags.getLsbD i
  share : a.body.kind = .limit → shareFollows s t
  other : a.body.kind ≠ .limit → t = s

theorem ownLimit_of_other {a : Attempt} (h : a.body.kind ≠ .limit) (s : State) :
    ownLimit a s = s.peers.limit ∧ ownCapacity a = none ∧ applyOwnLimit a s = s := by
  unfold ownLimit ownCapacity applyOwnLimit
  cases body : a.body with
  | limit l => rw [body] at h; exact absurd rfl h
  | _ => exact ⟨rfl, rfl, rfl⟩

theorem kind_limit {b : Body} (h : b.kind = .limit) : ∃ l, b = .limit l := by
  cases b with
  | limit l => exact ⟨l, rfl⟩
  | _ => cases h

theorem applyOwnLimit_takes (a : Attempt) (s : State) : OwnLimitTaken a s (applyOwnLimit a s) := by
  by_cases kind : a.body.kind = .limit
  · obtain ⟨l, body⟩ := kind_limit kind
    have record : ownLimit a s = some ⟨l.capacity, l.validity, s.ownAddress, ⟨s.elapsed, a.stamp⟩, true⟩ := by
      rw [ownLimit, body]
    have capacity : ownCapacity a = some l.capacity := by rw [ownCapacity, body]
    have same : applyOwnLimit a s = drainTakesShareNotice (applyLimit l s.ownAddress ⟨s.elapsed, a.stamp⟩ s) := by
      rw [applyOwnLimit, body]
    obtain ⟨⟨flags, attention, applied⟩, flagged, unflagged⟩ := applyLimit_applies l s.ownAddress ⟨s.elapsed, a.stamp⟩ s
    obtain ⟨u, hu⟩ : ∃ u, u = applyLimit l s.ownAddress ⟨s.elapsed, a.stamp⟩ s := ⟨_, rfl⟩
    rw [same]
    rw [← hu] at applied flagged unflagged ⊢
    have outside := drainTakesShareNotice_tank u
    obtain ⟨_, peers, _, _, rain, _, _, _, _, port⟩ := outsideTank_fields outside
    refine ⟨?_, by rw [peers, applied, record]; rfl, ?_, ?_, fun i other => ?_, fun _ => ?_, fun other => absurd kind other⟩
    · exact (ClaimQueued.of_trunk (by rw [applied]; rfl)).trans (drainTakesShareNotice_queues u)
    · rw [outside, peers, port, applied]; rfl
    · rw [capacity]
      unfold limitFlagged at flagged ⊢
      rw [port]; exact flagged
    · rw [port]; exact unflagged i other
    · exact (drainTakesShareNotice_runs u).follows peers (by rw [applied]; rfl) (by rw [applied]; rfl)
        (by rw [applied]; rfl) (by rw [rain]) (standing_cfg_of_tank outside).1 (by rw [applied]; rfl)
  · obtain ⟨record, capacity, same⟩ := ownLimit_of_other kind s
    rw [same]
    exact ⟨.refl s, by rw [record], rfl, by rw [capacity]; exact limitFlagged_none s, fun _ _ => rfl,
      fun h => absurd h kind, fun _ => rfl⟩

/-! ### A clean send -/

/-- R11 a: the transmit fault score lowered. -/
theorem lowerTxScore_rescored (s : State) : Rescored s (lowerTxScore s) ∧ Restands s (lowerTxScore s) ∧
    (lowerTxScore s).trunk.txScore = s.trunk.txScore - 1 ∧ (lowerTxScore s).trunk.rxScore = s.trunk.rxScore := by
  obtain ⟨rescored, restands⟩ := recomputeStanding_rescored (s.trunk.txScore - 1) s.trunk.rxScore s
  obtain ⟨tx, rx, _⟩ := recomputeStanding_sets (scored (s.trunk.txScore - 1) s.trunk.rxScore s)
  exact ⟨rescored, restands, tx, rx⟩

/-- R11 b, c: the slot and the presence interval after a clean send. -/
def sent (k : Kind) (s : State) : State := restartPresence (setSlot k (s.trunk.slots.get k).afterClean s)

/-- R11: what a clean send does, in the order of the rule. -/
structure Sends (a : Attempt) (s u v t : State) : Prop where
  rescored : Rescored s u
  restands : Restands s u
  tx : u.trunk.txScore = s.trunk.txScore - 1
  rx : u.trunk.rxScore = s.trunk.rxScore
  limit : OwnLimitTaken a (sent a.kind u) v
  rests : t = transmitterRests { v with trunk.attempt := none }

theorem cleanSend_sends (a : Attempt) (s : State) : ∃ u v, Sends a s u v (cleanSend a s) := by
  obtain ⟨rescored, restands, tx, rx⟩ := lowerTxScore_rescored s
  exact ⟨_, _, rescored, restands, tx, rx, applyOwnLimit_takes a _, rfl⟩

/-- The fields that a clean send's LIMIT and the transmitter's rest leave. -/
theorem Sends.line {a : Attempt} {s u v t : State} (h : Sends a s u v t) :
    t.trunk.attempt = none ∧ t.trunk.txScore = u.trunk.txScore ∧ t.trunk.rxScore = u.trunk.rxScore ∧
    t.trunk.standing = u.trunk.standing ∧ t.trunk.cutoffHold = u.trunk.cutoffHold ∧
    t.trunk.presence = some (s.elapsed + seconds s.cfg.presenceInterval) ∧
    t.trunk.slots = v.trunk.slots ∧ t.peers = v.peers ∧ t.port = v.port := by
  obtain ⟨_, _, _, tx, rx, standing, hold, presence⟩ := lineState_fields h.limit.queued.line
  obtain ⟨_, _, _, sets⟩ := transmitterRests_rests { v with trunk.attempt := none }
  obtain ⟨elapsed, cfg, _⟩ := h.rescored.fields
  rw [h.rests, sets]
  refine ⟨rfl, tx, rx, standing, hold, presence.trans ?_, rfl, rfl, rfl⟩
  rw [← elapsed, ← cfg]
  rfl

/-- R11 b: the slot of the attempt is freed, or holds what waits behind it. -/
theorem Sends.slot {a : Attempt} {b : Body} {n : Nat} {next : Option Body} {s u v t : State} (h : Sends a s u v t)
    (slot : s.trunk.slots.get a.kind = .sending b n next) (kind : a.body.kind = a.kind)
    (unchanged : a.kind ≠ .claim ∨ t.trunk.standing = s.trunk.standing) :
    t.trunk.slots.get a.kind = (Slot.sending b n next).afterClean := by
  obtain ⟨_, _, _, standing, _, _, slots, _⟩ := h.line
  obtain ⟨next', sending, kept⟩ := h.rescored.sending slot
  have limit : v.trunk.slots.get a.kind = (sent a.kind u).trunk.slots.get a.kind := by
    by_cases claim : a.kind = .claim
    · rw [h.limit.other (by rw [kind, claim]; decide)]
    · exact h.limit.queued.other claim
  have freed : (sent a.kind u).trunk.slots.get a.kind = (u.trunk.slots.get a.kind).afterClean := slots_get_set _ _ _
  rw [slots, limit, freed, sending, kept (unchanged.imp_right fun same => ?_)]
  · rw [h.restands.still (standing.symm.trans same)]; rfl

theorem Sends.otherSlot {a : Attempt} {s u v t : State} (h : Sends a s u v t) {j : Kind} (other : j ≠ a.kind)
    (claim : j ≠ .claim) : t.trunk.slots.get j = s.trunk.slots.get j := by
  obtain ⟨_, _, _, _, _, _, slots, _⟩ := h.line
  have freed : (sent a.kind u).trunk.slots.get j = u.trunk.slots.get j := slots_get_set_other _ _ other
  rw [slots, h.limit.queued.other claim, freed, h.rescored.otherSlot claim]

/-- R11 e: the transmitter after a clean send. -/
theorem Sends.wait {a : Attempt} {s u v t : State} (h : Sends a s u v t) :
    (t.trunk.firstEligible = none → t.trunk.tx = .idle ∧ t.trunk.txUntil = none) ∧
    (t.trunk.firstEligible ≠ none → s.trunk.lineFree = false → t.trunk.tx = .waitLine ∧ t.trunk.txUntil = none) := by
  obtain ⟨none, busy, _, sets⟩ := transmitterRests_rests { v with trunk.attempt := Option.none }
  obtain ⟨_, free, _⟩ := lineState_fields h.limit.queued.line
  obtain ⟨_, _, _, free', _⟩ := h.rescored.fields
  rw [← h.rests] at none busy sets
  have same : t.trunk.firstEligible = ({ v with trunk.attempt := Option.none } : State).trunk.firstEligible :=
    firstEligible_congr (by rw [sets]) (by rw [sets])
  rw [same]
  refine ⟨fun first => ?_, fun first line => ?_⟩
  · exact ⟨(none first).1, (none first).2.1⟩
  · have busy := busy first (free.trans (free'.trans line))
    exact ⟨busy.1, busy.2.1⟩

theorem ownLimit_congr {a : Attempt} {s t : State} (cfg : t.cfg = s.cfg) (elapsed : t.elapsed = s.elapsed)
    (peers : t.peers = s.peers) : ownLimit a t = ownLimit a s := by
  unfold ownLimit State.ownAddress
  rw [cfg, elapsed, peers]

theorem Sends.port {a : Attempt} {s u v t : State} (h : Sends a s u v t) :
    t.peers = { s.peers with limit := ownLimit a s } ∧ limitFlagged (ownCapacity a) s t ∧
    t.port.flags.getLsbD 6 = u.port.flags.getLsbD 6 := by
  obtain ⟨_, _, _, _, _, _, _, peers, port⟩ := h.line
  obtain ⟨elapsed, cfg, _, _, _, _, _, peers', _⟩ := h.rescored.fields
  have flagged := h.limit.flagged
  unfold limitFlagged at flagged ⊢
  have before : (sent a.kind u).peers = s.peers := peers'
  have bit : (sent a.kind u).port.flags.getLsbD 9 = s.port.flags.getLsbD 9 := h.rescored.flags 9 (by decide)
  rw [before, bit] at flagged
  refine ⟨?_, by rw [port]; exact flagged, by rw [port]; exact h.limit.flags 6 (by decide)⟩
  rw [peers, h.limit.peers, before, ownLimit_congr (s := s) (t := sent a.kind u) cfg elapsed before]

/-- A state whose attempt has ended cleanly, with what the end sets outside the scores. -/
def ended (presence : Option Nat) (peers : Peers) (port : Port) (s : State) : State :=
  { s with
    trunk := { s.trunk with attempt := none, presence := presence }
    peers := peers, port := { s.port with flags := port.flags, attention := port.attention } }

theorem Sends.outside {a : Attempt} {s u v t : State} (h : Sends a s u v t) : outsideTank t = outsideTank { s with
    trunk := { s.trunk with
      attempt := none, txScore := t.trunk.txScore, standing := t.trunk.standing
      presence := t.trunk.presence, cutoffHold := t.trunk.cutoffHold }
    peers := t.peers, port := { s.port with flags := t.port.flags, attention := t.port.attention } } := by
  obtain ⟨_, tx, _, standing, hold, presence, _, peers, port⟩ := h.line
  obtain ⟨elapsed, cfg, _⟩ := h.rescored.fields
  obtain ⟨_, _, _, sets⟩ := transmitterRests_rests { v with trunk.attempt := Option.none }
  have line : outsideTank t = { outsideTank v with trunk := { (outsideTank v).trunk with attempt := none } } := by
    rw [h.rests, sets]; rfl
  have before := h.rescored.outside
  rw [h.rx] at before
  rw [tx, standing, hold, peers, port]
  calc outsideTank t = ended t.trunk.presence v.peers v.port (outsideTank u) := by
        rw [line, h.limit.outside, presence, ← elapsed, ← cfg]; rfl
    _ = _ := by rw [before]; rfl

/-- R19: the standing after a clean send. -/
theorem Sends.standing {a : Attempt} {s u v t : State} (h : Sends a s u v t) :
    (s.trunk.standing.silent = false → t.trunk.txScore ≠ s.trunk.txScore →
      t.trunk.standing = standingOf t.trunk.txScore s.trunk.rxScore) ∧
    (ScoresOk s → standingFollows s t) := by
  obtain ⟨_, tx, rx, standing, _⟩ := h.line
  obtain ⟨_, _, flag⟩ := h.port
  refine ⟨fun loud changed => ?_, fun ok => ?_⟩
  · rw [tx] at changed
    rcases h.rescored.rated loud with rated | ⟨_, same, _⟩
    · rw [standing, tx, ← h.rx]; exact rated
    · exact absurd same changed
  · exact standingFollows_congr rfl rfl tx rx standing flag (h.rescored.follows h.restands ok)

/-- R143: the share computation after a clean send: the LIMIT's notice runs it, and so does a changed standing. -/
theorem Sends.share {a : Attempt} {s u v t : State} (h : Sends a s u v t) (kind : a.body.kind = a.kind)
    (runs : a.kind = .limit ∧ t.trunk.standing = s.trunk.standing ∨
      a.kind ≠ .limit ∧ t.trunk.standing ≠ s.trunk.standing) : shareFollows s t := by
  obtain ⟨_, _, _, standing, _, _, _, peers, _⟩ := h.line
  obtain ⟨_, _, _, sets⟩ := transmitterRests_rests { v with trunk.attempt := Option.none }
  have standing' : t.trunk.standing = v.trunk.standing := by rw [h.rests, sets]
  have rested : shareFollows s v → shareFollows s t := shareFollows_after (by rw [h.rests, sets]) (by rw [h.rests, sets])
    peers (by rw [h.rests, sets]) standing'
  refine rested ?_
  rcases runs with ⟨limit, same⟩ | ⟨other, changed⟩
  · have still := h.restands.still (standing.symm.trans same)
    have share := h.limit.share (kind.trans limit)
    rw [still] at share
    exact shareFollows_congr share rfl rfl rfl rfl
  · rw [h.limit.other (by rw [kind]; exact other)]
    rw [standing] at changed
    exact shareFollows_after rfl rfl rfl rfl rfl (h.restands.share changed)

/-! ### The last byte -/

/-- Settles O31: the last byte heard, the attempt ends disregarded (`endDisregarded_ends`), failed (`failAttempt_fails`) or
clean (`Sends`). -/
theorem lastByteEndsAttempt : Obligations.LastByteEndsAttempt := by
  have ends : ∀ (s : State) (a : Attempt), s.trunk.attempt = some a → a.began + a.bytes.length * 25 / 48 ≤ s.elapsed →
      exec .lastByteDriven s = .next (attemptEnds a { s with trunk.lastActivity := s.elapsed }) := by
    intro s a attempt driven
    show Host.Outcome.next _ = _
    rw [attempt]
    exact congrArg _ (if_pos (decide_eq_true driven))
  refine ⟨fun s a attempt early => ⟨s, ?_, rfl⟩, fun s a attempt driven disregarded => ⟨_, ends s a attempt driven, ?_⟩,
    fun s a b n next attempt driven regarded slot kind low =>
      ⟨fun fault => ⟨_, ends s a attempt driven, ?_⟩, fun whole => ⟨_, ends s a attempt driven, ?_⟩⟩⟩
  · show Host.Outcome.next _ = _
    rw [attempt]
    exact congrArg _ (if_neg fun driven => absurd (of_decide_eq_true driven) (Nat.not_le.mpr early))
  · rw [attemptEnds, if_pos disregarded]
    exact endDisregarded_ends _
  · have failed : attemptEnds a { s with trunk.lastActivity := s.elapsed } =
        failAttempt a.kind 10 { s with trunk.lastActivity := s.elapsed } := by
      rw [attemptEnds, if_neg (by rw [regarded]; decide), if_neg fault]
    rw [failed]
    have fails := failAttempt_fails (s := { s with trunk.lastActivity := s.elapsed }) slot low (le_refl 10)
    generalize failAttempt a.kind 10 { s with trunk.lastActivity := s.elapsed } = t at fails
    obtain ⟨_, peers, time, _, _, _, _, trunk, _⟩ := outsideTank_fields fails.outside
    refine ⟨fails.failed, by rw [trunk], by rw [trunk], peers, time, fun ok => ?_⟩
    obtain ⟨follows, share⟩ := fails.follows ok
    exact ⟨follows, fun changed => shareFollows_congr (share changed) rfl rfl rfl rfl⟩
  · have clean : attemptEnds a { s with trunk.lastActivity := s.elapsed } =
        cleanSend a { s with trunk.lastActivity := s.elapsed } := by
      rw [attemptEnds, if_neg (by rw [regarded]; decide), if_pos whole]
    rw [clean]
    obtain ⟨u, v, sends⟩ := cleanSend_sends a { s with trunk.lastActivity := s.elapsed }
    generalize cleanSend a { s with trunk.lastActivity := s.elapsed } = t at sends
    obtain ⟨none, tx, rx, _, _, presence, _⟩ := sends.line
    obtain ⟨peers, flagged, _⟩ := sends.port
    obtain ⟨rated, follows⟩ := sends.standing
    refine ⟨none, tx.trans sends.tx, rx.trans sends.rx, ?_, fun unchanged => ?_, fun j => sends.otherSlot, ?_, ?_,
      sends.wait.1, sends.wait.2, rated, follows, fun runs => ?_, sends.outside⟩
    · rw [presence, Nat.mul_comm 1000]; rfl
    · rw [sends.slot slot kind unchanged]; cases next <;> rfl
    · rw [peers]; rfl
    · exact flagged
    · exact shareFollows_congr (sends.share kind runs) rfl rfl rfl rfl

end Sys2Proof.Machine
end

section
/-! SUPPORT. What a bulletin's parts and its time sample leave of the event flags and of the receiver (`Keeps`), and the bytes
gathered (O32). -/

namespace Sys2Proof.Machine

/-! ### The flags and the receiver -/

/-- One event flag is left, and a receiver that discards goes on to discard. -/
structure Keeps (i : Nat) (s t : State) : Prop where
  flag : t.port.flags.getLsbD i = s.port.flags.getLsbD i
  discards : s.trunk.rx = .discard → t.trunk.rx = .discard

theorem Keeps.refl (i : Nat) (s : State) : Keeps i s s := ⟨rfl, id⟩

theorem Keeps.trans {i : Nat} {s t u : State} (h : Keeps i s t) (k : Keeps i t u) : Keeps i s u :=
  ⟨k.flag.trans h.flag, fun rx => k.discards (h.discards rx)⟩

theorem Keeps.of_same {i : Nat} {s t : State} (port : t.port = s.port) (rx : t.trunk.rx = s.trunk.rx) : Keeps i s t :=
  ⟨by rw [port], fun h => rx.trans h⟩

theorem Keeps.of_tank {i : Nat} {s t : State} (h : outsideTank t = outsideTank s) : Keeps i s t := by
  obtain ⟨_, _, _, _, _, _, _, trunk, _, port⟩ := outsideTank_fields h
  exact .of_same port (by rw [trunk])

/-- An operation after an update that leaves the flags and the receiver. -/
theorem Keeps.start {i : Nat} {s t u : State} (k : Keeps i t u) (port : t.port = s.port) (rx : t.trunk.rx = s.trunk.rx) :
    Keeps i s u := (Keeps.of_same port rx).trans k

theorem raise_keeps (f : EventFlag) {i : Nat} (h : i ≠ f.bit) (s : State) : Keeps i s (raise f s) :=
  ⟨raise_flag_other f s h, id⟩

theorem inEitherOrder_keeps {i : Nat} {f g : State → State} (hf : ∀ s, Keeps i s (f s)) (hg : ∀ s, Keeps i s (g s))
    (s : State) : Keeps i s (inEitherOrder f g s) :=
  inEitherOrder_holds (Keeps i s) (fun t h => (h.trans (hf t)).trans (hg _)) (fun t h => (h.trans (hg t)).trans (hf _))
    (.of_same rfl rfl)

theorem counterTakesAlert_keeps (i : Nat) (s : State) : Keeps i s (counterTakesAlert s) := by
  unfold counterTakesAlert onEvent; exact .of_same rfl rfl

theorem formBranchAlert_keeps {i : Nat} (h : i ≠ 5) (s : State) : Keeps i s (formBranchAlert s) := by
  unfold formBranchAlert
  dsimp only
  split
  · exact .refl i s
  · have raised : Keeps i s (raise .alertChange { s with rain.branch := highestAlert s }) :=
      (raise_keeps .alertChange h _).start rfl rfl
    have noticed := inEitherOrder_keeps (i := i) (fun t => .of_tank (drainTakesShareNotice_tank t))
      (fun t => .of_tank (tankTakesAlert_tank t))
    exact (raised.trans (counterTakesAlert_keeps i _)).trans ((noticed _).start rfl rfl)

theorem applyLimit_keeps {i : Nat} (h : i ≠ 9) (l : LimitBody) (a : Addr) (x : Stamped) (s : State) :
    Keeps i s (applyLimit l a x s) := by
  obtain ⟨⟨_, _, applied⟩, _, flags⟩ := applyLimit_applies l a x s
  exact ⟨flags i h, fun rx => by rw [applied]; exact rx⟩

theorem takeEntry_keeps {i : Nat} (h : i ≠ 13) (r : Received) (n x : Nat) (s : State) : Keeps i s (takeEntry r n x s) := by
  unfold takeEntry
  dsimp only
  split
  · exact .of_same rfl rfl
  · split_ifs
    · exact .of_same rfl rfl
    · split
      · exact .of_same rfl rfl
      · exact raise_keeps .tableFull h s

theorem takeBody_keeps {i : Nat} (alert : i ≠ 5) (limit : i ≠ 9) (b : Body) (u : Uses) (a : Addr) (n : Nat) (s : State) :
    Keeps i s (takeBody b u a n s) := by
  have entries : ∀ es, Keeps i s (setEntries es s) := fun _ => .of_same rfl rfl
  unfold takeBody
  dsimp only
  split
  · split_ifs
    · exact (entries _).trans (.of_tank (drainTakesShareNotice_tank _))
    · exact .refl i s
  · split_ifs
    · exact (entries _).trans (formBranchAlert_keeps alert _)
    · exact .refl i s
    · exact (entries _).trans (formBranchAlert_keeps alert _)
    · exact .refl i s
  · split_ifs
    · exact (applyLimit_keeps limit _ _ _ s).trans (.of_tank (drainTakesShareNotice_tank _))
    · exact .refl i s
  · exact .refl i s

/-! ### A time sample -/

theorem setClock_keeps {i : Nat} (h : i ≠ 7) (c : ClockState) (s : State) : Keeps i s (setClock c s) := by
  unfold setClock
  split
  · exact .refl i s
  · exact (raise_keeps .clockChange h _).start rfl rfl

theorem markStepped_keeps (i : Nat) (s : State) : Keeps i s (markStepped s) := by
  unfold markStepped
  split
  case h_1 g rx => exact ⟨rfl, fun h => by cases rx.symm.trans h⟩
  case h_2 => exact .refl i s

theorem counterTakesStep_keeps (i : Nat) (s : State) : Keeps i s (counterTakesStep s) := by
  unfold counterTakesStep onEvent; split_ifs <;> exact .of_same rfl rfl

theorem stepTime_keeps {i : Nat} (h : i ≠ 7) (t : Nat) (c : ClockState) (s : State) : Keeps i s (stepTime t c s) := by
  have stepped : Keeps i s { s with time := { s.time with t := t, e := 0, settleRun := 0, outlierRun := 0 } } :=
    .of_same rfl rfl
  have marked := stepped.trans (markStepped_keeps i _)
  have clocked := marked.trans (setClock_keeps h c _)
  exact (clocked.trans (.of_tank (claimTimerStep_tank _))).trans (counterTakesStep_keeps i _)

theorem handleSample_keeps {i : Nat} (clock : i ≠ 7) (disagree : i ≠ 8) (v : Int) (s : State) :
    Keeps i s (handleSample v s) := by
  unfold handleSample
  split
  · exact stepTime_keeps clock _ _ s
  · unfold takeOutlier
    split
    · exact (raise_keeps .clockDisagree disagree _).start rfl rfl
    · exact .of_same rfl rfl
  · unfold useSample
    dsimp only
    split
    · exact (setClock_keeps clock _ _).start rfl rfl
    · exact .of_same rfl rfl

theorem timeTakesSample_keeps {i : Nat} (clock : i ≠ 7) (disagree : i ≠ 8) (x : TimeSample) (s : State) :
    Keeps i s (timeTakesSample x s) := by
  unfold timeTakesSample
  dsimp only
  split
  · exact .refl i s
  · have handled : ∀ u, Keeps i u (handleSample (sampleValue x s) u) := handleSample_keeps clock disagree _
    have sampled : ∀ u, Keeps i s u → ∀ l, Keeps i s { u with time.lastSample := l } := fun _ h _ => ⟨h.flag, h.discards⟩
    refine sampled _ ?_ _
    split
    · exact (handled _).start rfl rfl
    · exact handled _

theorem takeBulletin_keeps {i : Nat} (h : i ∉ [5, 7, 8, 9, 13]) (r : Received) (n : Nat) (b : Bool) (s : State) :
    Keeps i s (takeBulletin r n b s) := by
  simp only [List.mem_cons, List.not_mem_nil, or_false, not_or] at h
  obtain ⟨alert, clock, disagree, limit, full⟩ := h
  unfold takeBulletin
  split
  · exact .refl i s
  · next hit _ =>
    dsimp only
    have entered := takeEntry_keeps full r hit n s
    split
    · exact entered.trans (inEitherOrder_keeps (takeBody_keeps alert limit _ _ _ _)
        (timeTakesSample_keeps clock disagree _) _)
    · exact entered.trans (takeBody_keeps alert limit _ _ _ _ _)

/-! ### A byte gathered -/

/-- R15 b: the bulletin goes on. -/
theorem gatherByte_more {g : Gathering} (s : State)
    (h : g.bytes.length < 4 ∨ (g.bytes.length = 4 ∧ headerGood g.bytes = true ∧ byteAt g.bytes 2 ≠ 4) ∨
      (4 < g.bytes.length ∧ g.bytes.length ≠ byteAt g.bytes 2)) :
    gatherByte g s = setReceiver (.frame g) s := by
  unfold gatherByte
  have header : ¬ (g.bytes.length = 4 ∧ headerGood g.bytes = false) := by
    rintro ⟨four, bad⟩
    rcases h with short | ⟨_, good, _⟩ | ⟨long, _⟩
    · omega
    · rw [bad] at good; cases good
    · omega
  have whole : ¬ (4 ≤ g.bytes.length ∧ g.bytes.length = byteAt g.bytes 2) := by
    rintro ⟨long, length⟩
    rcases h with short | ⟨four, _, other⟩ | ⟨_, other⟩
    · omega
    · exact other (length.symm.trans four)
    · exact other length
  rw [if_neg header, if_neg whole]

/-- R16: a bad header, or a bulletin whole and not valid. -/
theorem gatherByte_bad {g : Gathering} (s : State)
    (h : g.bytes.length = 4 ∧ headerGood g.bytes = false ∨
      4 < g.bytes.length ∧ g.bytes.length = byteAt g.bytes 2 ∧ bulletinGood g.bytes = false) :
    gatherByte g s = if g.echo then setReceiver .discard s else badBulletin (setReceiver .discard s) := by
  unfold gatherByte
  rcases h with header | ⟨long, length, bad⟩
  · rw [if_pos header]
  · rw [if_neg (fun header => by omega), if_pos ⟨long.le, length⟩, bad]
    cases g.echo <;> rfl

/-- R15, R17: a bulletin whole and valid. -/
theorem gatherByte_good {g : Gathering} (s : State) (long : 4 < g.bytes.length)
    (length : g.bytes.length = byteAt g.bytes 2) (good : bulletinGood g.bytes = true) :
    gatherByte g s = if g.echo then takeEcho g.bytes (setReceiver .discard s)
      else goodBulletin g (setReceiver .discard s) := by
  unfold gatherByte
  rw [if_neg (fun header => by omega), if_pos ⟨long.le, length⟩, good]
  cases g.echo <;> rfl

/-! ### A good bulletin -/

/-- R17: the receive fault score lowered. -/
theorem lowerRxScore_rescored (s : State) : Rescored s (lowerRxScore s) ∧ Restands s (lowerRxScore s) ∧
    (lowerRxScore s).trunk.txScore = s.trunk.txScore ∧ (lowerRxScore s).trunk.rxScore = s.trunk.rxScore - 1 := by
  obtain ⟨rescored, restands⟩ := recomputeStanding_rescored s.trunk.txScore (s.trunk.rxScore - 1) s
  obtain ⟨tx, rx, _⟩ := recomputeStanding_sets (scored s.trunk.txScore (s.trunk.rxScore - 1) s)
  exact ⟨rescored, restands, tx, rx⟩

theorem standingOf_ne_clash (tx rx : Nat) : standingOf tx rx ≠ .cutOff .clash := by
  unfold standingOf; split_ifs <;> simp

/-- Scores do not make a clash. -/
theorem Rescored.clash {s t : State} (h : Rescored s t) (clash : t.trunk.standing = .cutOff .clash) :
    s.trunk.standing = .cutOff .clash := by
  cases quiet : s.trunk.standing.silent with
  | true => rw [← (h.silent quiet).1]; exact clash
  | false =>
    rcases h.rated quiet with rated | ⟨same, _⟩
    · exact absurd (rated.symm.trans clash) (standingOf_ne_clash _ _)
    · exact same.symm.trans clash

/-- R18: what an address clash leaves. -/
structure Clashes (s t : State) : Prop where
  standing : t.trunk.standing = .cutOff .clash
  flagged : t.port.flags.getLsbD 14 = true
  rx : t.trunk.rx = s.trunk.rx
  rxScore : t.trunk.rxScore = s.trunk.rxScore
  peers : t.peers = s.peers
  time : t.time = s.time
  anew : s.trunk.standing ≠ .cutOff .clash → t.port.flags.getLsbD 6 = true ∧ t.trunk.cutoffHold = none

theorem addressClash_clashes (s : State) : Clashes s (addressClash s) := by
  have flag : (raise .addressClash s).port.flags.getLsbD 14 = true := raise_flag_self .addressClash s
  unfold addressClash
  dsimp only
  split
  case isTrue clash => exact ⟨clash, flag, rfl, rfl, rfl, rfl, fun other => absurd clash other⟩
  case isFalse other =>
    obtain ⟨u, hu⟩ : ∃ u : State, u = { raise .addressClash s with trunk.cutoffHold := none } := ⟨_, rfl⟩
    rw [← hu]
    have before : u.trunk.standing = s.trunk.standing ∧ u.trunk.rx = s.trunk.rx ∧ u.trunk.rxScore = s.trunk.rxScore ∧
        u.trunk.cutoffHold = none ∧ u.peers = s.peers ∧ u.time = s.time ∧ u.port.flags.getLsbD 14 = true := by
      rw [hu]; exact ⟨rfl, rfl, rfl, rfl, rfl, rfl, flag⟩
    obtain ⟨standing, rx, score, hold, peers, time, set⟩ := before
    have line := setStanding_line (.cutOff .clash) u
    have restood := setStanding_restood (.cutOff .clash) u
    generalize setStanding (.cutOff .clash) u = t at line restood
    obtain ⟨_, _, _, _, score', standing', hold', _⟩ :=
      lineState_fields (s := { u with trunk.standing := .cutOff .clash }) (t := t) line
    obtain ⟨_, peers', time', _, _, _, _, trunk', _⟩ := outsideTank_fields restood.outside
    have moved : t.trunk.standing ≠ u.trunk.standing := by rw [standing', standing]; exact fun same => other same.symm
    have flags := restood.flags.trans (if_neg moved)
    refine ⟨standing', ?_, ?_, score'.trans score, peers'.trans peers, time'.trans time, fun _ => ⟨?_, hold'.trans hold⟩⟩
    · rw [flags, getLsbD_other _ (by decide)]; exact set
    · rw [trunk']; exact rx
    · rw [flags]; exact getLsbD_standingChange _

/-- R17: a good bulletin that is not an echo. -/
theorem goodBulletin_clash {g : Gathering} {s : State} (own : (parseBulletin g.bytes).sender = s.ownAddress) :
    goodBulletin g s = addressClash (lowerRxScore s) := if_pos own

theorem goodBulletin_other {g : Gathering} {s : State} (other : (parseBulletin g.bytes).sender ≠ s.ownAddress) :
    goodBulletin g s = takeBulletin (parseBulletin g.bytes) g.stamp g.stepped (lowerRxScore s) := if_neg other

/-- R15, R17, R19: what a good bulletin leaves of the receiver, the scores and the standing. -/
theorem goodBulletin_leaves {g : Gathering} {s : State} (rx : s.trunk.rx = .discard) :
    (goodBulletin g s).trunk.rx = .discard ∧ (goodBulletin g s).trunk.rxScore = s.trunk.rxScore - 1 ∧
    ((parseBulletin g.bytes).sender ≠ s.ownAddress → ScoresOk s → standingFollows s (goodBulletin g s)) := by
  obtain ⟨rescored, restands, _, score⟩ := lowerRxScore_rescored s
  obtain ⟨_, _, _, _, _, rx', _⟩ := rescored.fields
  by_cases own : (parseBulletin g.bytes).sender = s.ownAddress
  · have clashes := addressClash_clashes (lowerRxScore s)
    rw [goodBulletin_clash own]
    exact ⟨(clashes.rx.trans rx').trans rx, clashes.rxScore.trans score, fun other => absurd own other⟩
  · obtain ⟨_, _, _, tx, rxScore, standing, _⟩ := lineState_fields
      (takeBulletin_line (parseBulletin g.bytes) g.stamp g.stepped (lowerRxScore s))
    have keeps := takeBulletin_keeps (i := 6) (by decide) (parseBulletin g.bytes) g.stamp g.stepped (lowerRxScore s)
    rw [goodBulletin_other own]
    exact ⟨keeps.discards (rx'.trans rx), rxScore.trans score,
      fun _ ok => standingFollows_congr rfl rfl tx rxScore standing keeps.flag (rescored.follows restands ok)⟩

/-! ### A byte received -/

theorem receiveByte_frame {g : Gathering} {s : State} (b : Byte) (rx : s.trunk.rx = .frame g) :
    receiveByte b s = gatherByte { g with bytes := g.bytes ++ [b] } (lineHeard s) := by
  rw [receiveByte, lineActivity_eq, rx]

theorem byteReceived_runs {b : Byte} {s : State} (run : s.inRun = true) :
    exec (.byteReceived b) s = .next (receiveByte b s) := congrArg _ (if_pos run)

/-- Settles O32: the byte is heard and gathered (`gatherByte_more`, `gatherByte_bad`, `gatherByte_good`). -/
theorem bytesAreGathered : Obligations.BytesAreGathered := by
  refine fun s b run => ⟨fun idle => ⟨_, byteReceived_runs run, ?_⟩, fun listens => ⟨_, byteReceived_runs run, ?_⟩,
    fun g bs rx gathered => ⟨fun more => ⟨_, byteReceived_runs run, ?_⟩, fun bad => ⟨_, byteReceived_runs run, ?_⟩,
      fun long length good => ⟨_, byteReceived_runs run, ?_⟩⟩⟩
  · rw [receiveByte, lineActivity_eq]
    rcases idle with off | discards
    · rw [off]
    · rw [discards]
  · rw [receiveByte, lineActivity_eq, listens]
    exact gatherByte_more _ (.inl (Nat.lt_of_sub_ne_zero (by decide : 4 - 1 ≠ 0)))
  · subst gathered
    rw [receiveByte_frame b rx]
    exact gatherByte_more (g := { g with bytes := g.bytes ++ [b] }) _ more
  · subst gathered
    rw [receiveByte_frame b rx, gatherByte_bad (g := { g with bytes := g.bytes ++ [b] }) _ bad]
    refine ⟨fun echo => if_pos echo, fun other => ?_⟩
    rw [if_neg (by rw [other]; decide)]
    obtain ⟨rescored, restands, tx, score, hold⟩ := badBulletin_rescored (setReceiver .discard (lineHeard s))
    generalize badBulletin (setReceiver .discard (lineHeard s)) = t at *
    obtain ⟨elapsed, _, _, _, _, rx', _, peers, time, rain⟩ := rescored.fields
    refine ⟨rx', score, tx, fun running => ?_, peers, time, rain, elapsed, fun ok => rescored.follows restands ok,
      fun changed => shareFollows_congr (restands.share changed) rfl rfl rfl rfl⟩
    rw [hold running, Nat.mul_comm 1000]; rfl
  · subst gathered
    rw [receiveByte_frame b rx, gatherByte_good (g := { g with bytes := g.bytes ++ [b] }) _ long length good]
    cases echo : g.echo with
    | true => exact ⟨rfl, fun _ => rfl, nofun, nofun, nofun⟩
    | false =>
      obtain ⟨rx', score, follows⟩ := goodBulletin_leaves (g := { g with bytes := g.bytes ++ [b] })
        (s := setReceiver .discard (lineHeard s)) rfl
      refine ⟨rx', nofun, fun _ => score, fun _ => follows, fun _ own => ?_⟩
      obtain ⟨rescored, _⟩ := lowerRxScore_rescored (setReceiver .discard (lineHeard s))
      obtain ⟨_, _, _, _, _, _, _, peers, time, _⟩ := rescored.fields
      have clashes := addressClash_clashes (lowerRxScore (setReceiver .discard (lineHeard s)))
      rw [if_neg (by decide), goodBulletin_clash own]
      have anew : s.trunk.standing ≠ .cutOff .clash → _ := fun other =>
        clashes.anew fun clash => other (rescored.clash clash)
      exact ⟨clashes.standing, clashes.flagged, clashes.peers.trans peers, fun other => (anew other).1,
        clashes.time.trans time, fun other => (anew other).2⟩

end Sys2Proof.Machine
end

section
/-! SUPPORT. The Peer Table taking a bulletin: the acceptance filter, the entries and their lookups, and what `takeEntry` and
`takeBody` make of the entries and of the limit record. -/

namespace Sys2Proof.Machine

/-! ### Acceptance -/

theorem any_iff {u : Uses} : u.any = true ↔ u ≠ ⟨false, false, false, false⟩ := by
  obtain ⟨c, r, t, l⟩ := u
  simp only [Uses.any, Bool.or_eq_true, ne_eq, Uses.mk.injEq]
  grind

theorem hits_iff {e : AcceptEntry} {a : Addr} :
    e.hits a = true ↔ e.uses ≠ ⟨false, false, false, false⟩ ∧ a &&& e.mask = e.value &&& e.mask := by
  rw [AcceptEntry.hits, Bool.and_eq_true, any_iff, beq_iff_eq]

theorem not_hits {e : AcceptEntry} {a : Addr}
    (h : e.uses = ⟨false, false, false, false⟩ ∨ a &&& e.mask ≠ e.value &&& e.mask) : e.hits a = false := by
  rw [← Bool.not_eq_true, hits_iff]
  exact fun ⟨used, matched⟩ => h.elim used (· matched)

/-- R29: the first entry that is hit. -/
theorem filterHit_first {t : AcceptTable} {a : Addr} {n : Nat} (range : n < 4) (hit : (t.get n).hits a = true)
    (before : ∀ i, i < n → (t.get i).hits a = false) : filterHit t a = some n := by
  have e0 := before 0
  have e1 := before 1
  have e2 := before 2
  unfold filterHit
  match n, range with
  | 0, _ => exact if_pos hit
  | 1, _ => exact (if_neg (ne_true_of_eq_false (e0 (by omega)))).trans (if_pos hit)
  | 2, _ =>
    exact ((if_neg (ne_true_of_eq_false (e0 (by omega)))).trans (if_neg (ne_true_of_eq_false (e1 (by omega))))).trans
      (if_pos hit)
  | 3, _ =>
    exact (((if_neg (ne_true_of_eq_false (e0 (by omega)))).trans (if_neg (ne_true_of_eq_false (e1 (by omega))))).trans
      (if_neg (ne_true_of_eq_false (e2 (by omega))))).trans (if_pos hit)

theorem filterHit_none {t : AcceptTable} {a : Addr} (h : ∀ i, i < 4 → (t.get i).hits a = false) : filterHit t a = none := by
  have e0 : t.e0.hits a = false := h 0 (by omega)
  have e1 : t.e1.hits a = false := h 1 (by omega)
  have e2 : t.e2.hits a = false := h 2 (by omega)
  have e3 : t.e3.hits a = false := h 3 (by omega)
  simp [filterHit, e0, e1, e2, e3]

/-! ### Lists of entries -/

/-- At most one entry of the list has the address. -/
def OneAt (a : Addr) (es : List PeerEntry) : Prop :=
  ∀ e ∈ es, ∀ x ∈ es, e.address = a → x.address = a → e = x

theorem PeersOk.unique {s : State} (ok : PeersOk s) {e x : PeerEntry} (he : e ∈ s.peers.entries)
    (hx : x ∈ s.peers.entries) (same : e.address = x.address) : e = x := by
  have nodup : (s.peers.entries.map PeerEntry.address).Nodup :=
    List.pairwise_map.mpr (ok.2.1.imp fun lt => BitVec.ne_of_lt lt)
  exact List.inj_on_of_nodup_map nodup he hx same

theorem findEntry_none {a : Addr} {es : List PeerEntry} : findEntry a es = none ↔ ∀ e ∈ es, e.address ≠ a := by
  simp [findEntry, List.find?_eq_none]

theorem findEntry_mem {a : Addr} {es : List PeerEntry} {e : PeerEntry} (h : findEntry a es = some e) :
    e ∈ es ∧ e.address = a :=
  ⟨List.mem_of_find?_eq_some h, by simpa using List.find?_some h⟩

theorem mem_insertEntry {x e : PeerEntry} {es : List PeerEntry} : x ∈ insertEntry e es ↔ x = e ∨ x ∈ es := by
  induction es with
  | nil => simp [insertEntry]
  | cons y ys ih =>
    unfold insertEntry
    split
    · simp
    · simp only [List.mem_cons, ih]; tauto

theorem mem_removeEntry {x : PeerEntry} {a : Addr} {es : List PeerEntry} :
    x ∈ removeEntry a es ↔ x ∈ es ∧ x.address ≠ a := by
  simp [removeEntry]

/-- A change of an entry that keeps its address. -/
def KeepsAddress (f : PeerEntry → PeerEntry) : Prop := ∀ e, (f e).address = e.address

theorem mem_changeEntry_self {a : Addr} {f : PeerEntry → PeerEntry} {es : List PeerEntry} {e : PeerEntry} (he : e ∈ es)
    (at_ : e.address = a) : f e ∈ changeEntry a f es :=
  List.mem_map.mpr ⟨e, he, if_pos at_⟩

theorem mem_changeEntry_other {a : Addr} {f : PeerEntry → PeerEntry} (keeps : KeepsAddress f) {es : List PeerEntry}
    {e : PeerEntry} (other : e.address ≠ a) : e ∈ changeEntry a f es ↔ e ∈ es := by
  refine ⟨fun h => ?_, fun h => List.mem_map.mpr ⟨e, h, if_neg other⟩⟩
  obtain ⟨x, hx, same⟩ := List.mem_map.mp h
  split at same
  · next at_ => exact absurd (by rw [← same, keeps, at_]) other
  · rw [← same]; exact hx

theorem changeEntry_same {a : Addr} {f : PeerEntry → PeerEntry} {es : List PeerEntry}
    (h : ∀ e ∈ es, e.address = a → f e = e) : changeEntry a f es = es := by
  refine (List.map_congr_left fun e he => ?_).trans (List.map_id es)
  split
  · next at_ => exact h e he at_
  · rfl

theorem OneAt.changeEntry {a : Addr} {f : PeerEntry → PeerEntry} {es : List PeerEntry}
    (one : OneAt a es) : OneAt a (changeEntry a f es) := by
  have from_ : ∀ e ∈ Machine.changeEntry a f es, e.address = a → ∃ x ∈ es, x.address = a ∧ e = f x := by
    intro e he at_
    obtain ⟨x, hx, same⟩ := List.mem_map.mp he
    split at same
    · next atx => exact ⟨x, hx, atx, same.symm⟩
    · next other => exact absurd (same ▸ at_) other
  intro e he x hx ae ax
  obtain ⟨y, hy, ay, rfl⟩ := from_ e he ae
  obtain ⟨z, hz, az, rfl⟩ := from_ x hx ax
  rw [one y hy z hz ay az]

theorem OneAt.insertEntry {a : Addr} {e : PeerEntry} {es : List PeerEntry} (absent : ∀ x ∈ es, x.address ≠ a) :
    OneAt a (insertEntry e es) := by
  intro x hx y hy ax ay
  have only : ∀ z ∈ Machine.insertEntry e es, z.address = a → z = e := fun z hz az =>
    (mem_insertEntry.mp hz).resolve_right fun h => absent z h az
  rw [only x hx ax, only y hy ay]

/-! ### The entry that gives way -/

theorem bare_iff {e : PeerEntry} : e.bare = true ↔ e.claim = none ∧ e.rain = none := by
  simp [PeerEntry.bare, Bool.and_eq_true]

theorem evictable_none {es : List PeerEntry} : evictable es = none ↔ ∀ e ∈ es, e.bare = false := by
  induction es with
  | nil => simp [evictable]
  | cons e es ih =>
    unfold evictable
    cases bare : e.bare <;> simp [bare, ih]

/-- R34 a: the entry without parts that was accepted longest ago. -/
theorem evictable_some {es : List PeerEntry} {old : PeerEntry} (h : evictable es = some old) :
    old ∈ es ∧ old.bare = true ∧ ∀ e ∈ es, e.bare = true → old.accepted ≤ e.accepted := by
  induction es generalizing old with
  | nil => cases h
  | cons e es ih =>
    unfold evictable at h
    split at h
    case isFalse other =>
      obtain ⟨mem, bare, oldest⟩ := ih h
      refine ⟨.tail _ mem, bare, fun x hx bx => ?_⟩
      rcases List.mem_cons.mp hx with rfl | hx
      · exact absurd bx other
      · exact oldest x hx bx
    case isTrue bare =>
      cases rest : evictable es with
      | none =>
        rw [rest] at h
        cases h
        refine ⟨.head _, bare, fun x hx bx => ?_⟩
        rcases List.mem_cons.mp hx with rfl | hx
        · exact le_refl _
        · rw [evictable_none.mp rest x hx] at bx; cases bx
      | some b =>
        obtain ⟨mem, bareb, oldest⟩ := ih rest
        rw [rest] at h
        simp only [olderEntry, Option.some.injEq] at h
        split at h
        case isTrue older =>
          subst h
          refine ⟨.tail _ mem, bareb, fun x hx bx => ?_⟩
          rcases List.mem_cons.mp hx with rfl | hx
          · exact older.le
          · exact oldest x hx bx
        case isFalse younger =>
          subst h
          refine ⟨.head _, bare, fun x hx bx => ?_⟩
          rcases List.mem_cons.mp hx with rfl | hx
          · exact le_refl _
          · exact (not_lt.mp younger).trans (oldest x hx bx)

/-! ### The sender's entry -/

/-- R32 to R34: what taking the entry of a bulletin's sender leaves of the entries, from ascending ones. -/
structure Entered (r : Received) (hit stamp : Nat) (s t : State) : Prop where
  one : OneAt r.sender t.peers.entries
  found : ∀ e ∈ s.peers.entries, e.address = r.sender →
    refreshEntry r stamp s e ∈ t.peers.entries ∧
      ∀ x, x.address ≠ r.sender → (x ∈ t.peers.entries ↔ x ∈ s.peers.entries)
  made : (∀ e ∈ s.peers.entries, e.address ≠ r.sender) → s.peers.entries.length < 24 →
    newEntry r hit stamp s ∈ t.peers.entries ∧
      ∀ x, x.address ≠ r.sender → (x ∈ t.peers.entries ↔ x ∈ s.peers.entries)
  full : (∀ e ∈ s.peers.entries, e.address ≠ r.sender) → ¬ s.peers.entries.length < 24 →
    (∀ e ∈ s.peers.entries, e.bare = false) →
    t.peers.entries = s.peers.entries ∧ t.port.flags.getLsbD 13 = true
  evicts : (∀ e ∈ s.peers.entries, e.address ≠ r.sender) → ¬ s.peers.entries.length < 24 →
    (∃ e ∈ s.peers.entries, e.bare = true) →
    ∃ old ∈ s.peers.entries, old.bare = true ∧
      (∀ e ∈ s.peers.entries, e.bare = true → old.accepted ≤ e.accepted) ∧
      newEntry r hit stamp s ∈ t.peers.entries ∧
      ∀ x, x.address ≠ r.sender → (x ∈ t.peers.entries ↔ x ∈ s.peers.entries ∧ x ≠ old)

/-- The entries, the event flags and the attention line are all that taking an entry may change. -/
theorem takeEntry_sets (r : Received) (hit stamp : Nat) (s : State) : takeEntry r hit stamp s = { s with
    peers := { s.peers with entries := (takeEntry r hit stamp s).peers.entries }
    port := { s.port with
      flags := (takeEntry r hit stamp s).port.flags, attention := (takeEntry r hit stamp s).port.attention } } := by
  unfold takeEntry
  dsimp only
  split
  · rfl
  · split_ifs
    · rfl
    · split <;> rfl

theorem refreshEntry_keeps (r : Received) (stamp : Nat) (s : State) : KeepsAddress (refreshEntry r stamp s) := fun _ => rfl

theorem takeEntry_enters (r : Received) (hit stamp : Nat) {s : State} (ok : PeersOk s) :
    Entered r hit stamp s (takeEntry r hit stamp s) := by
  have one : OneAt r.sender s.peers.entries := fun e he x hx ae ax => ok.unique he hx (ae.trans ax.symm)
  cases present : findEntry r.sender s.peers.entries with
  | some e =>
    obtain ⟨mem, at_⟩ := findEntry_mem present
    have enters : takeEntry r hit stamp s =
        setEntries (changeEntry r.sender (refreshEntry r stamp s) s.peers.entries) s := by
      unfold takeEntry; dsimp only; rw [present]
    rw [enters]
    exact ⟨one.changeEntry, fun x hx ax =>
        ⟨mem_changeEntry_self hx ax, fun y other => mem_changeEntry_other (refreshEntry_keeps r stamp s) other⟩,
      fun absent => absurd at_ (absent e mem), fun absent => absurd at_ (absent e mem), fun absent => absurd at_ (absent e mem)⟩
  | none =>
    have absent := findEntry_none.mp present
    have new : (newEntry r hit stamp s).address = r.sender := rfl
    by_cases room : s.peers.entries.length < 24
    · have enters : takeEntry r hit stamp s = setEntries (insertEntry (newEntry r hit stamp s) s.peers.entries) s := by
        unfold takeEntry; dsimp only; rw [present]; exact if_pos room
      rw [enters]
      refine ⟨.insertEntry absent, fun e he at_ => absurd at_ (absent e he), fun _ _ => ⟨mem_insertEntry.mpr (.inl rfl), ?_⟩,
        fun _ full => absurd room full, fun _ full => absurd room full⟩
      exact fun x other => mem_insertEntry.trans (or_iff_right fun h => other (by rw [h, new]))
    · cases gives : evictable s.peers.entries with
      | none =>
        have enters : takeEntry r hit stamp s = raise .tableFull s := by
          unfold takeEntry; dsimp only; rw [present]; dsimp only; rw [if_neg room, gives]
        have parted := evictable_none.mp gives
        rw [enters]
        exact ⟨one, fun e he at_ => absurd at_ (absent e he), fun _ low => absurd low room,
          fun _ _ _ => ⟨rfl, raise_flag_self .tableFull s⟩,
          fun _ _ ⟨e, he, bare⟩ => by rw [parted e he] at bare; cases bare⟩
      | some old =>
        obtain ⟨mem, bare, oldest⟩ := evictable_some gives
        have enters : takeEntry r hit stamp s =
            setEntries (insertEntry (newEntry r hit stamp s) (removeEntry old.address s.peers.entries)) s := by
          unfold takeEntry; dsimp only; rw [present]; dsimp only; rw [if_neg room, gives]
        have absent' : ∀ e ∈ removeEntry old.address s.peers.entries, e.address ≠ r.sender :=
          fun e he => absent e (mem_removeEntry.mp he).1
        rw [enters]
        refine ⟨.insertEntry absent', fun e he at_ => absurd at_ (absent e he), fun _ low => absurd low room,
          fun _ _ parted => ?_, fun _ _ _ => ⟨old, mem, bare, oldest, mem_insertEntry.mpr (.inl rfl), fun x other => ?_⟩⟩
        · rw [parted old mem] at bare; cases bare
        · rw [show x ∈ (setEntries (insertEntry (newEntry r hit stamp s) (removeEntry old.address s.peers.entries)) s
              ).peers.entries ↔ _ from mem_insertEntry, or_iff_right fun h => other (by rw [h, new]), mem_removeEntry]
          exact and_congr_right fun hx => not_congr ⟨fun same => ok.unique hx mem same, fun same => by rw [same]⟩

/-! ### The parts and the limit record -/

/-- R35, R37: the sender's entry after the part of a body. -/
def parted (b : Body) (u : Uses) (now : Nat) (e : PeerEntry) : PeerEntry :=
  match b with
  | .claim c =>
    if u.claim then
      { e with claim := some ⟨c.requested, c.drawn, c.fill, c.weight, c.urgency != 0, c.period, now, true⟩ }
    else e
  | .rain x =>
    if u.rain then
      { e with rain := if x.level = 0 then none else some ⟨.fromNat x.level, x.short, x.long, x.age, now⟩ }
    else e
  | _ => e

theorem parted_keeps (b : Body) (u : Uses) (now : Nat) (e : PeerEntry) :
    (parted b u now e).address = e.address ∧ (parted b u now e).firstHeard = e.firstHeard := by
  unfold parted
  split
  · split <;> exact ⟨rfl, rfl⟩
  · split <;> exact ⟨rfl, rfl⟩
  · exact ⟨rfl, rfl⟩

/-- R41, R42: the limit record after a body. -/
def recorded (b : Body) (u : Uses) (sender : Addr) (arrival : Stamped) (old : Option LimitRecord) : Option LimitRecord :=
  match b with
  | .limit l => if u.limit then some ⟨l.capacity, l.validity, sender, arrival, true⟩ else old
  | _ => old

/-- The peer table after a body. -/
def bodyPeers (b : Body) (u : Uses) (sender : Addr) (stamp : Nat) (s : State) : Peers :=
  ⟨changeEntry sender (parted b u s.elapsed) s.peers.entries, recorded b u sender ⟨s.elapsed, stamp⟩ s.peers.limit⟩

/-- The capacity of a LIMIT that is used. -/
def usedCapacity (b : Body) (u : Uses) : Option Nat :=
  match b with
  | .limit l => if u.limit then some l.capacity else none
  | _ => none

/-- What taking a body does: the peer table changes to that of w, and then the notice of the change is sent. -/
structure BodyTaken (b : Body) (u : Uses) (sender : Addr) (stamp : Nat) (s w t : State) : Prop where
  sets : w = { s with
    peers := bodyPeers b u sender stamp s
    port := { s.port with flags := w.port.flags, attention := w.port.attention } }
  flagged : limitFlagged (usedCapacity b u) s w
  flags : ∀ i, i ≠ 9 → w.port.flags.getLsbD i = s.port.flags.getLsbD i
  notices : t = w ∨ t = drainTakesShareNotice w ∨ t = formBranchAlert w
  share : (b.kind = .claim ∧ u.claim = true ∧ (∃ e ∈ s.peers.entries, e.address = sender)) ∨
    (b.kind = .limit ∧ u.limit = true) → t = drainTakesShareNotice w

/-- The entries with the part of a body taken. -/
def partTaken (b : Body) (u : Uses) (sender : Addr) (s : State) : State :=
  setEntries (changeEntry sender (parted b u s.elapsed) s.peers.entries) s

theorem partTaken_same {b : Body} {u : Uses} {sender : Addr} {s : State}
    (h : ∀ e ∈ s.peers.entries, e.address = sender → parted b u s.elapsed e = e) : partTaken b u sender s = s := by
  unfold partTaken
  rw [changeEntry_same h]
  rfl

theorem partTaken_absent {b : Body} {u : Uses} {sender : Addr} {s : State}
    (absent : findEntry sender s.peers.entries = none) : partTaken b u sender s = s :=
  partTaken_same fun e he at_ => absurd at_ (findEntry_none.mp absent e he)

/-- A body other than a LIMIT changes the entries alone. -/
theorem BodyTaken.of_part {b : Body} {u : Uses} {sender : Addr} {stamp : Nat} {s t : State} (other : b.kind ≠ .limit)
    (notices : t = partTaken b u sender s ∨ t = drainTakesShareNotice (partTaken b u sender s) ∨
      t = formBranchAlert (partTaken b u sender s))
    (share : b.kind = .claim → u.claim = true → (∃ e ∈ s.peers.entries, e.address = sender) →
      t = drainTakesShareNotice (partTaken b u sender s)) : BodyTaken b u sender stamp s (partTaken b u sender s) t := by
  have unlimited : recorded b u sender ⟨s.elapsed, stamp⟩ s.peers.limit = s.peers.limit ∧ usedCapacity b u = none := by
    cases b with
    | limit l => exact absurd rfl other
    | _ => exact ⟨rfl, rfl⟩
  obtain ⟨record, capacity⟩ := unlimited
  refine ⟨?_, ?_, fun _ _ => rfl, notices, fun h => ?_⟩
  · unfold bodyPeers; rw [record]; rfl
  · rw [capacity]; exact limitFlagged_none _
  · rcases h with ⟨kind, use, present⟩ | ⟨limit, _⟩
    · exact share kind use present
    · exact absurd limit other

theorem takeBody_claim (c : ClaimBody) (u : Uses) (sender : Addr) (stamp : Nat) (s : State) :
    BodyTaken (.claim c) u sender stamp s (partTaken (.claim c) u sender s) (takeBody (.claim c) u sender stamp s) := by
  cases present : findEntry sender s.peers.entries with
  | none =>
    have taken : takeBody (.claim c) u sender stamp s = s := by unfold takeBody; dsimp only; rw [present]
    refine .of_part (fun h => nomatch h) (.inl (by rw [taken, partTaken_absent present])) fun _ _ ⟨e, he, at_⟩ => ?_
    exact absurd at_ (findEntry_none.mp present e he)
  | some e =>
    cases use : u.claim with
    | true =>
      have same : parted (.claim c) u s.elapsed = fun e => { e with claim := some (claimPartOf c s) } := by
        funext e; unfold parted; rw [use]; rfl
      have taken : takeBody (.claim c) u sender stamp s = drainTakesShareNotice (partTaken (.claim c) u sender s) := by
        unfold takeBody partTaken; dsimp only; rw [present, same]; exact if_pos use
      exact .of_part (fun h => nomatch h) (.inr (.inl taken)) fun _ _ _ => taken
    | false =>
      have taken : takeBody (.claim c) u sender stamp s = s := by
        unfold takeBody; dsimp only; rw [present]; exact if_neg (by rw [use]; decide)
      have same : partTaken (.claim c) u sender s = s :=
        partTaken_same fun _ _ _ => by unfold parted; rw [use]; rfl
      exact .of_part (fun h => nomatch h) (.inl (taken.trans same.symm)) fun _ used _ => by cases use.symm.trans used

theorem takeBody_rain {sender : Addr} {s : State} (one : OneAt sender s.peers.entries) (x : RainBody) (u : Uses)
    (stamp : Nat) :
    BodyTaken (.rain x) u sender stamp s (partTaken (.rain x) u sender s) (takeBody (.rain x) u sender stamp s) := by
  have unclaimed : (Body.rain x).kind = .claim → u.claim = true → (∃ e ∈ s.peers.entries, e.address = sender) →
      takeBody (.rain x) u sender stamp s = drainTakesShareNotice (partTaken (.rain x) u sender s) := fun h => nomatch h
  refine .of_part (fun h => nomatch h) ?_ unclaimed
  cases present : findEntry sender s.peers.entries with
  | none =>
    have taken : takeBody (.rain x) u sender stamp s = s := by unfold takeBody; dsimp only; rw [present]
    exact .inl (by rw [taken, partTaken_absent present])
  | some e =>
    obtain ⟨mem, at_⟩ := findEntry_mem present
    cases use : u.rain with
    | false =>
      have taken : takeBody (.rain x) u sender stamp s = s := by
        unfold takeBody; dsimp only; rw [present]; exact if_neg (by rw [use]; decide)
      have same : partTaken (.rain x) u sender s = s :=
        partTaken_same fun _ _ _ => by unfold parted; rw [use]; rfl
      exact .inl (taken.trans same.symm)
    | true =>
      have part : parted (.rain x) u s.elapsed =
          fun e => { e with rain := if x.level = 0 then none else some (rainPartOf x s) } := by
        funext e; unfold parted; rw [use]; rfl
      unfold partTaken takeBody
      dsimp only
      rw [present, use, part]
      dsimp only
      rw [if_pos rfl]
      by_cases clear : x.level = 0
      · simp only [if_pos clear]
        split
        case isTrue => exact .inr (.inr rfl)
        case isFalse bare =>
          have same : ∀ y ∈ s.peers.entries, y.address = sender → { y with rain := none } = y := fun y hy ay => by
            rw [one y hy e mem ay at_, ← Option.not_isSome_iff_eq_none.mp bare]
          rw [changeEntry_same same]
          exact .inl rfl
      · simp only [if_neg clear, or_true]

theorem takeBody_limit (l : LimitBody) (u : Uses) (sender : Addr) (stamp : Nat) (s : State) :
    ∃ w, BodyTaken (.limit l) u sender stamp s w (takeBody (.limit l) u sender stamp s) := by
  have entries : changeEntry sender (parted (.limit l) u s.elapsed) s.peers.entries = s.peers.entries :=
    changeEntry_same fun _ _ _ => rfl
  have peers : bodyPeers (.limit l) u sender stamp s = { s.peers with
      limit := if u.limit then some ⟨l.capacity, l.validity, sender, ⟨s.elapsed, stamp⟩, true⟩ else s.peers.limit } := by
    unfold bodyPeers; rw [entries]; rfl
  cases use : u.limit with
  | true =>
    obtain ⟨⟨flags, attention, applied⟩, flagged, others⟩ := applyLimit_applies l sender ⟨s.elapsed, stamp⟩ s
    refine ⟨applyLimit l sender ⟨s.elapsed, stamp⟩ s, ?_, ?_, others, ?_, fun _ => ?_⟩
    · rw [peers, use, applied]; rfl
    · unfold usedCapacity; rw [use]; exact flagged
    · exact .inr (.inl (if_pos use))
    · exact if_pos use
  | false =>
    refine ⟨s, ?_, ?_, fun _ _ => rfl, .inl (if_neg (by rw [use]; decide)), fun h => ?_⟩
    · rw [peers, use]; rfl
    · unfold usedCapacity; rw [use]; exact limitFlagged_none s
    · rcases h with ⟨kind, _⟩ | ⟨_, used⟩
      · cases kind
      · cases use.symm.trans used

/-- R26 d and f: a body taken. -/
theorem takeBody_takes {sender : Addr} {s : State} (one : OneAt sender s.peers.entries) (b : Body) (u : Uses) (stamp : Nat) :
    ∃ w, BodyTaken b u sender stamp s w (takeBody b u sender stamp s) := by
  cases b with
  | claim c => exact ⟨_, takeBody_claim c u sender stamp s⟩
  | rain x => exact ⟨_, takeBody_rain one x u stamp⟩
  | limit l => exact takeBody_limit l u sender stamp s
  | presence =>
    have same : partTaken .presence u sender s = s := partTaken_same fun _ _ _ => rfl
    exact ⟨_, .of_part (fun h => nomatch h) (.inl same.symm) fun h => nomatch h⟩

end Sys2Proof.Machine
end

section
/-! SUPPORT. What a time sample leaves alone (`outsideSample`), and the order of a bulletin's part and its time sample
(`BulletinTaken`). -/

namespace Sys2Proof.Machine

/-! ### What a time sample leaves alone -/

/-- All but what a time sample may change: the Time Unit, the transmit slots and the transmitter's wait, the mark on the
bulletin being gathered, the claim timer, the Spill Counter, the event flags and the attention line. -/
def outsideSample (s : State) : State :=
  { s with
    trunk := lineState s, time := .reset, counter := .reset, free := ⟨0, 0, 0⟩
    drain := { s.drain with claimTarget := none }
    port := { s.port with flags := 0, attention := false } }

theorem outsideSample_fields {s t : State} (h : outsideSample t = outsideSample s) :
    t.elapsed = s.elapsed ∧ t.cfg = s.cfg ∧ t.peers = s.peers ∧ t.rain = s.rain ∧ t.tank = s.tank ∧ t.spill = s.spill ∧
    t.input = s.input ∧ t.drain = { s.drain with claimTarget := t.drain.claimTarget } ∧ lineState t = lineState s := by
  have same : ∀ {α : Type} (f : State → α), f (outsideSample t) = f (outsideSample s) := fun f => congrArg f h
  exact ⟨same State.elapsed, same State.cfg, same State.peers, same State.rain, same State.tank, same State.spill,
    same State.input, same fun v => { v.drain with claimTarget := t.drain.claimTarget }, same State.trunk⟩

theorem setClock_sample (c : ClockState) (s : State) : outsideSample (setClock c s) = outsideSample s := by
  unfold setClock; split <;> rfl

theorem markStepped_sample (s : State) : outsideSample (markStepped s) = outsideSample s := by
  unfold markStepped; split <;> rfl

theorem counterTakesStep_sample (s : State) : outsideSample (counterTakesStep s) = outsideSample s := by
  unfold counterTakesStep; split_ifs <;> rfl

theorem claimTimerStep_sample (s : State) : outsideSample (claimTimerStep s) = outsideSample s := by
  unfold claimTimerStep claimTimerExpires queueClaim
  split
  · rw [queueBody_sets]; rfl
  · rfl

theorem stepTime_sample (t : Nat) (c : ClockState) (s : State) : outsideSample (stepTime t c s) = outsideSample s := by
  unfold stepTime stepNotices
  rw [counterTakesStep_sample, claimTimerStep_sample, setClock_sample, markStepped_sample]
  rfl

theorem handleSample_sample (v : Int) (s : State) : outsideSample (handleSample v s) = outsideSample s := by
  unfold handleSample
  split
  · exact stepTime_sample _ _ s
  · unfold takeOutlier; split <;> rfl
  · unfold useSample
    dsimp only
    split
    · rw [setClock_sample]; rfl
    · rfl

theorem timeTakesSample_sample (x : TimeSample) (s : State) : outsideSample (timeTakesSample x s) = outsideSample s := by
  have noted : ∀ (u : State) (l : Option LastSample), outsideSample { u with time.lastSample := l } = outsideSample u :=
    fun _ _ => rfl
  unfold timeTakesSample
  dsimp only
  split
  · rfl
  · rw [noted, handleSample_sample]
    split <;> rfl

/-! ### The Time Unit after a time sample -/

theorem setClock_time (c : ClockState) (s : State) : (setClock c s).time = { s.time with clock := c } := by
  unfold setClock
  split
  · next same => rw [same]
  · rfl

theorem stepTime_time (t : Nat) (c : ClockState) (s : State) : (stepTime t c s).time =
    { s.time with t := t, e := 0, settleRun := 0, outlierRun := 0, clock := c } := by
  have counted : ∀ u : State, (counterTakesStep u).time = u.time := fun u => by
    unfold counterTakesStep; split_ifs <;> rfl
  have marked : ∀ u : State, (markStepped u).time = u.time := fun u => by unfold markStepped; split <;> rfl
  unfold stepTime stepNotices
  rw [counted, (outsideTank_fields (claimTimerStep_tank _)).2.2.1, setClock_time, marked]

/-- A sample's effect on the Time Unit depends on the Time Unit and the configuration alone. -/
theorem handleSample_time (v : Int) {s t : State} (time : t.time = s.time) (cfg : t.cfg = s.cfg) :
    (handleSample v t).time = (handleSample v s).time := by
  have outcome : sampleOutcome v t = sampleOutcome v s := by unfold sampleOutcome; rw [time, cfg]
  unfold handleSample
  rw [outcome]
  cases sampleOutcome v s with
  | step => dsimp only; rw [stepTime_time, stepTime_time, time]
  | outlier =>
    dsimp only
    unfold takeOutlier
    rw [time]
    split <;> rfl
  | used =>
    dsimp only
    unfold useSample
    rw [time, cfg]
    dsimp only
    split
    · rw [setClock_time, setClock_time]
    · rfl

theorem timeTakesSample_time (x : TimeSample) {s t : State} (time : t.time = s.time) (cfg : t.cfg = s.cfg)
    (elapsed : t.elapsed = s.elapsed) : (timeTakesSample x t).time = (timeTakesSample x s).time := by
  have ignored : sampleIgnored x t = sampleIgnored x s := by
    unfold sampleIgnored preferenceExcludes; rw [time, cfg, elapsed]
  have value : sampleValue x t = sampleValue x s := by unfold sampleValue; rw [cfg]
  have outcome : sampleOutcome (sampleValue x s) t = sampleOutcome (sampleValue x s) s := by
    unfold sampleOutcome; rw [time, cfg]
  unfold timeTakesSample
  dsimp only
  rw [ignored, value, outcome, elapsed]
  split
  · exact time
  · refine congrArg (fun y : TimeUnit => { y with
      lastSample := some ⟨x.sender, sampleValue x s, sampleOutcome (sampleValue x s) s, s.elapsed⟩ }) ?_
    split
    · exact handleSample_time _ (by rw [time]) cfg
    · exact handleSample_time _ time cfg

/-! ### A bulletin's part and its time sample -/

/-- What a time sample, taken or not, leaves. -/
structure Sampling (s t : State) : Prop where
  outside : outsideSample t = outsideSample s
  flags : ∀ i, i ≠ 7 → i ≠ 8 → t.port.flags.getLsbD i = s.port.flags.getLsbD i

theorem Sampling.refl (s : State) : Sampling s s := ⟨rfl, fun _ _ _ => rfl⟩

theorem Sampling.trans {s t u : State} (h : Sampling s t) (k : Sampling t u) : Sampling s u :=
  ⟨k.outside.trans h.outside, fun i clock disagree => (k.flags i clock disagree).trans (h.flags i clock disagree)⟩

theorem timeTakesSample_sampling (x : TimeSample) (s : State) : Sampling s (timeTakesSample x s) :=
  ⟨timeTakesSample_sample x s, fun _ clock disagree => (timeTakesSample_keeps clock disagree x s).flag⟩

theorem BodyTaken.leaves {b : Body} {u : Uses} {sender : Addr} {stamp : Nat} {s w t : State}
    (h : BodyTaken b u sender stamp s w t) : outsideControl t = outsideControl w ∧ t.time = s.time ∧ t.cfg = s.cfg ∧
      t.elapsed = s.elapsed ∧ t.peers = bodyPeers b u sender stamp s := by
  have control : outsideControl t = outsideControl w := by
    rcases h.notices with same | share | alert
    · rw [same]
    · rw [share]; exact drainTakesShareNotice_control w
    · rw [alert]; exact formBranchAlert_control w
  obtain ⟨elapsed, peers, time, _, _, _, _, port⟩ := outsideControl_fields control
  have cfg : t.cfg = w.cfg := by unfold State.cfg; rw [port]
  exact ⟨control, time.trans (by rw [h.sets]), cfg.trans (by rw [h.sets]; rfl), elapsed.trans (by rw [h.sets]),
    peers.trans (by rw [h.sets])⟩

/-- R44: the sender's entry having been taken in e, the body of a bulletin is taken in v and leaves q, the time sample coming
before v or after q, or not at all. -/
structure BulletinTaken (b : Body) (u : Uses) (x : TimeSample) (stamp : Nat) (e v w q t : State) : Prop where
  before : Sampling e v
  body : BodyTaken b u x.sender stamp v w q
  after : Sampling q t
  time : t.time = if u.time then (timeTakesSample x e).time else e.time
  clock : v.time = e.time ∨ v.time = t.time

theorem inEitherOrder_cases (f g : State → State) (s : State) :
    inEitherOrder f g s = g (f { s with free.orders := s.free.orders + 1 }) ∨
    inEitherOrder f g s = f (g { s with free.orders := s.free.orders + 1 }) := by
  unfold inEitherOrder
  dsimp only
  split
  · exact .inl rfl
  · split
    · exact .inl rfl
    · exact .inr rfl

theorem takeBulletin_taken {r : Received} {stamp hit : Nat} {stepped : Bool} {s : State}
    (accepted : filterHit s.cfg.accept r.sender = some hit)
    (one : OneAt r.sender (takeEntry r hit stamp s).peers.entries) : ∃ v w q,
      BulletinTaken (clampBody r.body) (s.cfg.accept.get hit).uses ⟨r.sender, r.clock, r.time, stamp, stepped⟩ stamp
        (takeEntry r hit stamp s) v w q (takeBulletin r stamp stepped s) := by
  have takes : takeBulletin r stamp stepped s =
      if (s.cfg.accept.get hit).uses.time
      then inEitherOrder (takeBody (clampBody r.body) (s.cfg.accept.get hit).uses r.sender stamp)
        (timeTakesSample ⟨r.sender, r.clock, r.time, stamp, stepped⟩) (takeEntry r hit stamp s)
      else takeBody (clampBody r.body) (s.cfg.accept.get hit).uses r.sender stamp (takeEntry r hit stamp s) := by
    unfold takeBulletin; rw [accepted]
  rw [takes]
  obtain ⟨u, hu⟩ : ∃ u, u = (s.cfg.accept.get hit).uses := ⟨_, rfl⟩
  obtain ⟨e, he⟩ : ∃ e, e = takeEntry r hit stamp s := ⟨_, rfl⟩
  rw [← hu, ← he]
  rw [← he] at one
  cases use : u.time with
  | false =>
    obtain ⟨w, body⟩ := takeBody_takes one (clampBody r.body) u stamp
    exact ⟨e, w, _, .refl e, body, .refl _, by rw [use]; exact body.leaves.2.1, .inl rfl⟩
  | true =>
    rw [if_pos rfl]
    obtain ⟨e', he'⟩ : ∃ e', e' = { e with free.orders := e.free.orders + 1 } := ⟨_, rfl⟩
    have ordered : Sampling e e' := by rw [he']; exact ⟨rfl, fun _ _ _ => rfl⟩
    have same : e'.time = e.time ∧ e'.cfg = e.cfg ∧ e'.elapsed = e.elapsed := by rw [he']; exact ⟨rfl, rfl, rfl⟩
    have peers : e'.peers = e.peers := by rw [he']
    obtain ⟨time, cfg, elapsed⟩ := same
    have order := inEitherOrder_cases (takeBody (clampBody r.body) u r.sender stamp)
      (timeTakesSample ⟨r.sender, r.clock, r.time, stamp, stepped⟩) e
    rw [← he'] at order
    rcases order with first | second
    · obtain ⟨w, body⟩ := takeBody_takes (s := e') (by rw [peers]; exact one) (clampBody r.body) u stamp
      obtain ⟨_, time', cfg', elapsed', _⟩ := body.leaves
      rw [first]
      refine ⟨e', w, _, ordered, body, timeTakesSample_sampling _ _, ?_, .inl time⟩
      rw [use]
      exact timeTakesSample_time _ (time'.trans time) (cfg'.trans cfg) (elapsed'.trans elapsed)
    · obtain ⟨x, hx⟩ : ∃ x : TimeSample, x = ⟨r.sender, r.clock, r.time, stamp, stepped⟩ := ⟨_, rfl⟩
      have sender : x.sender = r.sender := by rw [hx]
      rw [← hx, ← sender] at second ⊢
      have sampled := ordered.trans (timeTakesSample_sampling x e')
      have peers' := (outsideSample_fields sampled.outside).2.2.1
      obtain ⟨w, body⟩ := takeBody_takes (sender := x.sender) (s := timeTakesSample x e')
        (by rw [peers', sender]; exact one) (clampBody r.body) u stamp
      rw [second]
      refine ⟨_, w, _, sampled, body, .refl _, ?_, .inr body.leaves.2.1.symm⟩
      rw [use, body.leaves.2.1]
      exact timeTakesSample_time x time cfg elapsed

end Sys2Proof.Machine
end

section
/-! SUPPORT. The notice of a changed branch alert: its share computation, the tank's entry to ADMITTING, and the release timer
(`formBranchAlert_notified`). -/

namespace Sys2Proof.Machine

/-! ### The share computation of the two notices -/

/-- An evaluation leaves the state as it is, or carries the course on. -/
theorem tankEvaluate_strict (s : State) : tankEvaluate false s = s ∨ course s < course (tankEvaluate false s) := by
  refine tankCascade_rel (R := fun s t => t = s ∨ course s < course t) (fun _ => .inl rfl) (fun s t u h k => ?_)
    (fun _ _ _ h => .inr (tankEnters_course h)) _ _ s
  rcases h with rfl | h
  · exact k
  · rcases k with rfl | k
    · exact .inr h
    · exact .inr (h.trans k)

/-- R134: the share computation runs, whichever controller takes the notice first. -/
theorem alertNotices_run (s : State) : ShareRuns s (tankTakesAlert (drainTakesShareNotice s)) ∧
    ShareRuns s (drainTakesShareNotice (tankTakesAlert s)) := by
  refine ⟨(drainTakesShareNotice_runs s).passes (tankTakesAlert_passes _), ?_⟩
  obtain ⟨drain, tank⟩ := updateRelease_leaves s
  have released : course (updateRelease s) = course s := course_same (by rw [drain]) (by rw [tank])
  have runs := drainTakesShareNotice_runs (tankTakesAlert s)
  rcases tankEvaluate_strict (updateRelease s) with same | further
  · have taken : tankTakesAlert s = updateRelease s := same
    rw [taken] at runs ⊢
    obtain ⟨_, peers, time, _, rain, _, _, _, _, _⟩ := outsideTank_fields (updateRelease_tank s)
    obtain ⟨standing, cfg⟩ := standing_cfg_of_tank (updateRelease_tank s)
    have ran : (runShare (updateRelease s)).drain = (runShare s).drain :=
      runShare_drain peers cfg drain (by rw [rain]) standing (by rw [time])
    refine ⟨released ▸ runs.course, fun unchanged => ?_⟩
    have share := runs.share (unchanged.trans released.symm)
    unfold SameShare at share ⊢
    rw [← ran]
    exact share
  · have further : course s < course (tankTakesAlert s) := released ▸ further
    exact ⟨further.le.trans runs.course, fun unchanged => absurd runs.course (by omega)⟩

/-! ### The pump that may still draw -/

theorem pumpMayDraw_iff {s : State} :
    pumpMayDraw s = true ↔ s.drain.pump ∈ [some .starting, some .running, some .stopping] := by
  simp [pumpMayDraw, or_assoc]

theorem pumpMayDraw_of_drain {s t : State} (h : t.drain.pump = s.drain.pump) : pumpMayDraw t = pumpMayDraw s := by
  unfold pumpMayDraw; rw [h]

/-- A pump that is told to stop may draw until it has stopped. -/
theorem commandStop_draws (s : State) : pumpMayDraw (commandStop s) = pumpMayDraw s := by
  unfold pumpMayDraw
  rw [commandStop_pump]
  split
  · next driven => rcases driven with h | h <;> rw [h] <;> rfl
  · rfl

theorem followShare_draws (s : State) : pumpMayDraw (followShare s) = pumpMayDraw s := by
  unfold followShare
  split_ifs
  · exact commandStop_draws s
  all_goals rfl

theorem formClaim_draws (s : State) : pumpMayDraw (formClaim s) = pumpMayDraw s :=
  pumpMayDraw_of_drain (by rw [formClaim_drain])

theorem shareAndSetpoint_draws (s : State) : pumpMayDraw (shareAndSetpoint s) = pumpMayDraw s := by
  unfold shareAndSetpoint
  dsimp only
  split
  · exact followShare_draws (runShare s)
  · exact (formClaim_draws _).trans (followShare_draws (runShare s))

/-! ### The tank in ADMITTING -/

theorem tankCascade_admitting {s : State} (h : s.tank.state = .admitting) (n : Nat) (a b : Bool) : tankCascade n a b s = s := by
  cases n with
  | zero => rfl
  | succ n =>
    have stays : tankDecides a b s = none := by rw [tankDecides, h]
    unfold tankCascade
    rw [stays]

/-- What the Drain Controller's notice leaves of a tank in ADMITTING. -/
theorem drainTakesShareNotice_admitting {s : State} (h : s.tank.state = .admitting) :
    (drainTakesShareNotice s).tank.state = .admitting ∧
    (drainTakesShareNotice s).tank.releaseTimer = s.tank.releaseTimer ∧
    pumpMayDraw (drainTakesShareNotice s) = pumpMayDraw s ∧
    ((drainTakesShareNotice s).tank.openDeferred = s.tank.openDeferred ∨
      (drainTakesShareNotice s).tank.openDeferred = (s.tank.openDeferred && pumpMayDraw s)) := by
  obtain ⟨_, _, _, tank, _⟩ := outsideDrain_fields (shareAndSetpoint_outside s)
  have draws := shareAndSetpoint_draws s
  unfold drainTakesShareNotice afterDrain
  split
  · obtain ⟨drain, _, state, timer, deferred⟩ := releaseDeferred_leaves (shareAndSetpoint s)
    have still : tankTakesDrainNotice (shareAndSetpoint s) = releaseDeferred (shareAndSetpoint s) :=
      tankCascade_admitting (by rw [state, tank]; exact h) _ _ _
    rw [still, state, timer, deferred, tank, draws]
    exact ⟨h, rfl, (pumpMayDraw_of_drain (by rw [drain])).trans draws, .inr rfl⟩
  · rw [tank]
    exact ⟨h, rfl, draws, .inl rfl⟩

/-! ### The release timer -/

/-- R84, R85: the conditions, as `releaseFollows` reads them. -/
theorem admitCondition_iff {s : State} : admitCondition s = true ↔
    (s.sewer.status ≠ .failed ∧ s.cfg.admitLevel ≤ s.sewer.level) ∨ s.rain.branch = .warning ∨ s.rain.branch = .severe := by
  have high : 2 ≤ s.rain.branch.code ↔ s.rain.branch = .warning ∨ s.rain.branch = .severe := by
    cases s.rain.branch <;> simp [AlertLevel.code]
  simp [admitCondition, GaugeChannel.usable, high]

theorem sewerLow_iff {s : State} : sewerLow s = true ↔ admitCondition s = false ∧
    (s.sewer.status = .failed ∨ s.sewer.level + s.cfg.admitHyst ≤ s.cfg.admitLevel) := by
  simp [sewerLow, GaugeChannel.usable]

/-- R85: the release timer after a notice of the branch alert, in ADMITTING. -/
theorem tankTakesAlert_admitting {s : State} (h : s.tank.state = .admitting) :
    tankTakesAlert s = updateRelease s ∧ releaseFollows s (updateRelease s) := by
  have tank := (updateRelease_leaves s).2
  refine ⟨tankCascade_admitting (by rw [tank]; exact h) _ _ _, ?_⟩
  intro admits low admitsIff lowIff
  obtain ⟨_, _, _, _, rain, _, _, _, input, _⟩ := outsideTank_fields (updateRelease_tank s)
  have cfg := (standing_cfg_of_tank (updateRelease_tank s)).2
  have sewer : (updateRelease s).sewer = s.sewer := by unfold State.sewer; rw [input]
  rw [sewer, cfg, rain, ← admitCondition_iff] at admitsIff
  rw [sewer, cfg] at lowIff
  have isLow : sewerLow s = (!admits && low) := by
    rw [Bool.eq_iff_iff, sewerLow_iff, ← lowIff, Bool.and_eq_true, Bool.not_eq_true', Bool.eq_iff_iff.mpr admitsIff]
  have isAdmit : admitCondition s = admits := (Bool.eq_iff_iff.mpr admitsIff).symm
  unfold updateRelease
  rw [if_pos h, isLow, isAdmit, Nat.mul_comm 1000]
  cases admits with
  | true => rfl
  | false =>
    cases low with
    | false => rfl
    | true => cases timer : s.tank.releaseTimer <;> simp [timer, seconds]

/-! ### The entry to ADMITTING -/

/-- The tank outside ADMITTING, and whether the pump may draw. -/
def Closed (draws : Bool) (s : State) : Prop :=
  s.tank.state ∈ [.dry, .holding, .draining] ∧ pumpMayDraw s = draws

/-- The tank in ADMITTING, its open command deferred exactly while the pump may draw. -/
def Admitted (draws : Bool) (s : State) : Prop :=
  s.tank.state = .admitting ∧ s.tank.releaseTimer = none ∧ s.tank.openDeferred = draws ∧ pumpMayDraw s = draws

theorem tankDecides_admits {a b : Bool} {s : State} (closed : s.tank.state ∈ [.dry, .holding, .draining])
    (admits : admitCondition s = true) : tankDecides a b s = some .admitting := by
  simp only [List.mem_cons, List.not_mem_nil, or_false] at closed
  unfold tankDecides
  rcases closed with h | h | h <;> rw [h] <;> exact if_pos admits

theorem drainTakesTankState_draws {s : State} (h : s.tank.state ≠ .draining) :
    pumpMayDraw (drainTakesTankState s) = pumpMayDraw s := by
  unfold drainTakesTankState reformClaim
  rw [if_neg h, shareAndSetpoint_draws, formClaim_draws, commandStop_draws]

/-- R90: the entry to ADMITTING defers the open command while the pump may draw. -/
theorem tankEnters_admitted (s : State) : Admitted (pumpMayDraw s) (tankEnters .admitting s) := by
  obtain ⟨drain, _, _, state, timer, deferred⟩ := tankMoves_moves .admitting s
  obtain ⟨_, _, _, tank, _⟩ := outsideDrain_fields (drainTakesTankState_outside (tankMoves .admitting s))
  have draws : pumpMayDraw (drainTakesTankState (tankMoves .admitting s)) = pumpMayDraw s :=
    (drainTakesTankState_draws (by rw [state]; decide)).trans (pumpMayDraw_of_drain (by rw [drain]))
  obtain ⟨drain', _, state', timer', deferred'⟩ := releaseDeferred_leaves (drainTakesTankState (tankMoves .admitting s))
  unfold tankEnters
  refine ⟨?_, ?_, ?_, (pumpMayDraw_of_drain (by rw [drain'])).trans draws⟩
  · rw [state', tank]; exact state
  · rw [timer', tank]; exact timer
  · rw [deferred', draws, tank, deferred]; simp

theorem tankEvaluate_admits {draws : Bool} {s : State} (closed : Closed draws s) (admits : admitCondition s = true) :
    Admitted draws (tankEvaluate false s) := by
  have entered := tankEnters_admitted s
  rw [closed.2] at entered
  have ends : tankEvaluate false s = tankEnters .admitting s := by
    unfold tankEvaluate tankCascade
    rw [tankDecides_admits closed.1 admits]
    dsimp only
    split
    · exact tankCascade_admitting entered.1 _ _ _
    · rfl
  rw [ends]
  exact entered

theorem admitCondition_of_tank {s t : State} (h : outsideTank t = outsideTank s) : admitCondition t = admitCondition s := by
  obtain ⟨_, _, _, _, rain, _, _, _, input, _⟩ := outsideTank_fields h
  have sewer : t.sewer = s.sewer := by unfold State.sewer; rw [input]
  unfold admitCondition
  rw [sewer, (standing_cfg_of_tank h).2, rain]

theorem tankTakesAlert_admits {draws : Bool} {s : State} (admits : admitCondition s = true) :
    (Closed draws s → Admitted draws (tankTakesAlert s)) ∧ (Admitted draws s → Admitted draws (tankTakesAlert s)) := by
  obtain ⟨drain, tank⟩ := updateRelease_leaves s
  have draws_ : pumpMayDraw (updateRelease s) = pumpMayDraw s := pumpMayDraw_of_drain (by rw [drain])
  refine ⟨fun closed => ?_, fun admitted => ?_⟩
  · exact tankEvaluate_admits ⟨by rw [tank]; exact closed.1, draws_.trans closed.2⟩
      ((admitCondition_of_tank (updateRelease_tank s)).trans admits)
  · obtain ⟨state, timer, deferred, draw⟩ := admitted
    have high : sewerLow s = false := by unfold sewerLow; rw [admits]; rfl
    have taken : (updateRelease s).tank.releaseTimer = none := by
      unfold updateRelease; rw [if_pos state, high, admits]; rfl
    rw [(tankTakesAlert_admitting state).1]
    exact ⟨by rw [tank]; exact state, taken, by rw [tank]; exact deferred, draws_.trans draw⟩

theorem drainTakesShareNotice_admits {draws : Bool} {s : State} (admits : admitCondition s = true) :
    (Closed draws s → Closed draws (drainTakesShareNotice s) ∨ Admitted draws (drainTakesShareNotice s)) ∧
    (Admitted draws s → Admitted draws (drainTakesShareNotice s)) := by
  refine ⟨fun closed => ?_, fun ⟨state, timer, deferred, draw⟩ => ?_⟩
  · obtain ⟨_, _, _, tank, _⟩ := outsideDrain_fields (shareAndSetpoint_outside s)
    have draw := (shareAndSetpoint_draws s).trans closed.2
    unfold drainTakesShareNotice afterDrain
    split
    · obtain ⟨drain, _, state, _⟩ := releaseDeferred_leaves (shareAndSetpoint s)
      have outside := (releaseDeferred_tank (shareAndSetpoint s)).trans (shareAndSetpoint_tank s)
      exact .inr (tankEvaluate_admits ⟨by rw [state, tank]; exact closed.1, (pumpMayDraw_of_drain (by rw [drain])).trans draw⟩
        ((admitCondition_of_tank outside).trans admits))
    · exact .inl ⟨by rw [tank]; exact closed.1, draw⟩
  · obtain ⟨state', timer', draw', deferred'⟩ := drainTakesShareNotice_admitting state
    refine ⟨state', timer'.trans timer, ?_, draw'.trans draw⟩
    rcases deferred' with same | released
    · exact same.trans deferred
    · rw [released, deferred, draw, Bool.and_self]

/-- R84, R90: after both notices of a branch alert of WARNING or more, in either order. -/
theorem alertNotices_admit {draws : Bool} {s : State} (admits : admitCondition s = true) (closed : Closed draws s) :
    Admitted draws (tankTakesAlert (drainTakesShareNotice s)) ∧
    Admitted draws (drainTakesShareNotice (tankTakesAlert s)) := by
  have admits' := (admitCondition_of_tank (drainTakesShareNotice_tank s)).trans admits
  have admits'' := (admitCondition_of_tank (tankTakesAlert_tank s)).trans admits
  constructor
  · rcases (drainTakesShareNotice_admits admits).1 closed with later | now
    · exact (tankTakesAlert_admits admits').1 later
    · exact (tankTakesAlert_admits admits').2 now
  · exact (drainTakesShareNotice_admits admits'').2 ((tankTakesAlert_admits admits).1 closed)

/-- What `releaseFollows` reads. -/
theorem releaseFollows_congr {r s t u : State} (h : releaseFollows s t) (timer : r.tank.releaseTimer = s.tank.releaseTimer)
    (elapsed : r.elapsed = s.elapsed) (cfg : r.cfg = s.cfg) (timer' : u.tank.releaseTimer = t.tank.releaseTimer)
    (sewer : u.sewer = t.sewer) (cfg' : u.cfg = t.cfg) (branch : u.rain.branch = t.rain.branch) : releaseFollows r u := by
  unfold releaseFollows at h ⊢
  rw [timer, elapsed, cfg, timer', sewer, cfg', branch]
  exact h

theorem sewer_of_tank {s t : State} (h : outsideTank t = outsideTank s) :
    t.elapsed = s.elapsed ∧ t.sewer = s.sewer ∧ t.cfg = s.cfg ∧ t.rain = s.rain := by
  obtain ⟨elapsed, _, _, _, rain, _, _, _, input, _⟩ := outsideTank_fields h
  exact ⟨elapsed, by unfold State.sewer; rw [input], (standing_cfg_of_tank h).2, rain⟩

/-- R85: both notices in ADMITTING, in either order. -/
theorem alertNotices_admitting {s : State} (h : s.tank.state = .admitting) :
    ((tankTakesAlert (drainTakesShareNotice s)).tank.state = .admitting ∧
      releaseFollows s (tankTakesAlert (drainTakesShareNotice s))) ∧
    (drainTakesShareNotice (tankTakesAlert s)).tank.state = .admitting ∧
      releaseFollows s (drainTakesShareNotice (tankTakesAlert s)) := by
  have keeps : ∀ u : State, u.tank.state = .admitting → (tankTakesAlert u).tank.state = .admitting := fun u state => by
    rw [(tankTakesAlert_admitting state).1, (updateRelease_leaves u).2]; exact state
  constructor
  · obtain ⟨state, timer, _⟩ := drainTakesShareNotice_admitting h
    obtain ⟨taken, follows⟩ := tankTakesAlert_admitting state
    obtain ⟨elapsed, _, cfg, _⟩ := sewer_of_tank (drainTakesShareNotice_tank s)
    refine ⟨keeps _ state, ?_⟩
    rw [taken]
    exact releaseFollows_congr follows timer.symm elapsed.symm cfg.symm rfl rfl rfl rfl
  · have state := keeps s h
    obtain ⟨taken, follows⟩ := tankTakesAlert_admitting h
    obtain ⟨state', timer, _⟩ := drainTakesShareNotice_admitting state
    obtain ⟨_, sewer, cfg, rain⟩ := sewer_of_tank (drainTakesShareNotice_tank (tankTakesAlert s))
    refine ⟨state', ?_⟩
    rw [← taken] at follows
    exact releaseFollows_congr follows rfl rfl rfl timer sewer cfg (by rw [rain])

/-! ### The notice -/

/-- R133, R134: the state that both notices of a changed branch alert find. -/
def alerted (s : State) : State :=
  evaluateLamp (counterTakesAlert (raise .alertChange { s with rain.branch := highestAlert s }))

theorem formBranchAlert_alerts {s : State} (h : highestAlert s ≠ s.rain.branch) :
    ∃ u, u = { alerted s with free.orders := (alerted s).free.orders + 1 } ∧
      (formBranchAlert s = tankTakesAlert (drainTakesShareNotice u) ∨
        formBranchAlert s = drainTakesShareNotice (tankTakesAlert u)) := by
  have forms : formBranchAlert s = inEitherOrder drainTakesShareNotice tankTakesAlert (alerted s) := if_neg h
  rw [forms]
  exact ⟨_, rfl, inEitherOrder_cases _ _ _⟩

theorem formBranchAlert_same {s : State} (h : highestAlert s = s.rain.branch) : formBranchAlert s = s := if_pos h

/-- R134: what the notice of a changed branch alert leaves. -/
theorem formBranchAlert_notified (s : State) : alertNotified s (formBranchAlert s) := by
  intro changed
  by_cases same : highestAlert s = s.rain.branch
  · rw [formBranchAlert_same same] at changed
    exact absurd rfl changed
  obtain ⟨u, hu, order⟩ := formBranchAlert_alerts same
  have flag : u.port.flags.getLsbD 5 = true := by
    rw [hu]; exact raise_flag_self .alertChange { s with rain.branch := highestAlert s }
  have tank : u.tank = s.tank := by rw [hu]; rfl
  have drain : u.drain = s.drain := by rw [hu]; rfl
  have outside : outsideTank (formBranchAlert s) = outsideTank u := by
    rcases order with first | second
    · rw [first, tankTakesAlert_tank, drainTakesShareNotice_tank]
    · rw [second, drainTakesShareNotice_tank, tankTakesAlert_tank]
  have runs : ShareRuns u (formBranchAlert s) := by
    rcases order with first | second
    · rw [first]; exact (alertNotices_run u).1
    · rw [second]; exact (alertNotices_run u).2
  obtain ⟨_, peers, _, _, rain, _, _, _, _, port⟩ := outsideTank_fields outside
  refine ⟨by rw [port]; exact flag, ?_, fun admitting => ?_, fun high closed => ?_⟩
  · exact runs.follows peers (by rw [hu]; rfl) drain (by rw [tank]) (by rw [rain]) (standing_cfg_of_tank outside).1
      (by rw [hu]; rfl)
  · obtain ⟨first', second'⟩ := alertNotices_admitting (s := u) (by rw [tank]; exact admitting)
    have follows : (formBranchAlert s).tank.state = .admitting ∧ releaseFollows u (formBranchAlert s) := by
      rcases order with first | second
      · rw [first]; exact first'
      · rw [second]; exact second'
    exact ⟨follows.1, releaseFollows_congr follows.2 (by rw [tank]) (by rw [hu]; rfl) (by rw [hu]; rfl) rfl rfl rfl rfl⟩
  · rw [rain] at high
    have admits : admitCondition u = true := admitCondition_iff.mpr (.inr high)
    obtain ⟨first', second'⟩ := alertNotices_admit admits ⟨by rw [tank]; exact closed, rfl⟩
    have admitted : Admitted (pumpMayDraw u) (formBranchAlert s) := by
      rcases order with first | second
      · rw [first]; exact first'
      · rw [second]; exact second'
    obtain ⟨state, timer, deferred, _⟩ := admitted
    exact ⟨state, timer, by rw [deferred, pumpMayDraw_iff, drain]⟩

end Sys2Proof.Machine
end

section
/-! SUPPORT. A good bulletin of another station (O33): its entry, its part, its notice and its time sample. -/

namespace Sys2Proof.Machine

/-! ### What the parts and the records read -/

theorem fromNat_min (n : Nat) :
    AlertLevel.fromNat (min 3 n) = [AlertLevel.clear, .watch, .warning, .severe].getD (min 3 n) .severe := by
  match n with
  | 0 => rfl
  | 1 => rfl
  | 2 => rfl
  | n + 3 => rw [Nat.min_eq_left (by omega)]; rfl

theorem clampNat_low {lo hi : Nat} (h : lo ≤ hi) (n : Nat) : clampNat lo hi n = if n < lo then lo else min hi n := by
  unfold clampNat; split <;> omega

/-- R26 b, R35, R37: the refreshed entry with its part. -/
theorem parted_refreshed (r : Received) (u : Uses) (stamp : Nat) (s : State) (e : PeerEntry) :
    parted (clampBody r.body) u s.elapsed (refreshEntry r stamp s e) = { e with
      lastHeard := stamp, lastClock := r.clock, lastQuiet := r.quiet, accepted := s.elapsed
      claim := (match r.body, u.claim with
        | .claim c, true => some
          { requested := min 20000 c.requested, drawn := min 20000 c.drawn, fill := min 1000 c.fill
            weight := if c.weight = 0 then 1 else min 15 c.weight, spilling := decide (c.urgency ≠ 0)
            period := if c.period < 5 then 5 else min 60 c.period, arrival := s.elapsed, fresh := true }
        | _, _ => e.claim)
      rain := (match r.body, u.rain with
        | .rain x, true => if x.level = 0 then none else some
          ⟨[AlertLevel.clear, .watch, .warning, .severe].getD (min 3 x.level) .severe, x.short, x.long, x.age, s.elapsed⟩
        | _, _ => e.rain) } := by
  unfold parted refreshEntry
  cases r.body with
  | claim c =>
    cases u.claim with
    | true =>
      have weight : clampNat 1 15 c.weight = if c.weight = 0 then 1 else min 15 c.weight := by
        rw [clampNat_low (by omega)]; simp only [Nat.lt_one_iff]
      have urgency : (min 1 c.urgency != 0) = decide (c.urgency ≠ 0) := by
        rw [Bool.eq_iff_iff]; simp
      simp only [clampBody, clampClaim, weight, urgency, clampNat_low (by omega : 5 ≤ 60), if_true]
    | false => rfl
  | rain x =>
    cases u.rain with
    | true =>
      have level : min 3 x.level = 0 ↔ x.level = 0 := by omega
      simp only [clampBody, clampRain, level, fromNat_min, if_true]
    | false => rfl
  | limit l => rfl
  | presence => rfl

/-- R28, R41: the record of a clamped LIMIT. -/
theorem recorded_clamped (b : Body) (u : Uses) (sender : Addr) (arrival : Stamped) (old : Option LimitRecord) :
    recorded (clampBody b) u sender arrival old = match b, u.limit with
      | .limit l, true => some
        ⟨min 20000 l.capacity, if l.validity < 10 then 10 else min 3600 l.validity, sender, arrival, true⟩
      | _, _ => old := by
  unfold recorded
  cases b with
  | limit l =>
    cases u.limit with
    | true => simp only [clampBody, clampLimit, clampNat_low (by omega : 10 ≤ 3600), if_true]
    | false => rfl
  | _ => rfl

theorem usedCapacity_clamped (b : Body) (u : Uses) : usedCapacity (clampBody b) u =
    match b, u.limit with | .limit l, true => some (min 20000 l.capacity) | _, _ => none := by
  unfold usedCapacity
  cases b with
  | limit l => cases u.limit <;> rfl
  | _ => rfl

/-! ### What follows a bulletin's part -/

/-- A state that agrees with another in all that the notices read before an event. -/
structure Reads (r s : State) : Prop where
  cfg : r.cfg = s.cfg
  elapsed : r.elapsed = s.elapsed
  time : r.time.t = s.time.t
  tank : r.tank = s.tank
  branch : r.rain.branch = s.rain.branch
  drain : s.drain = { r.drain with claimTarget := s.drain.claimTarget }

theorem Reads.share {r s t : State} (k : Reads r s) (h : shareFollows s t) : shareFollows r t := by
  intro state pump v hv
  have ran : (runShare { s with
      peers := t.peers, rain.branch := t.rain.branch, trunk.standing := t.trunk.standing }).drain =
      { v.drain with claimTarget := s.drain.claimTarget } := by
    have read := runShare_drain (s := { r with
        peers := t.peers, rain.branch := t.rain.branch, trunk.standing := t.trunk.standing
        drain.claimTarget := s.drain.claimTarget })
      (t := { s with peers := t.peers, rain.branch := t.rain.branch, trunk.standing := t.trunk.standing })
      rfl k.cfg.symm k.drain rfl rfl k.time.symm
    rw [read, hv]
    rfl
  have same : t.drain.pump = s.drain.pump := by rw [k.drain]; exact pump
  obtain ⟨last, share, stamp⟩ := h (state.trans (by rw [k.tank])) same _ rfl
  rw [ran] at last share stamp
  exact ⟨last, share, stamp⟩

theorem Sampling.share {s t u : State} (k : Sampling t u) (h : shareFollows s t) : shareFollows s u := by
  obtain ⟨_, _, peers, rain, tank, _, _, drain, line⟩ := outsideSample_fields k.outside
  obtain ⟨_, _, _, _, _, standing, _⟩ := lineState_fields line
  unfold shareFollows at h ⊢
  rw [drain, peers, rain, tank, standing]
  exact h

theorem Reads.notified {r s t : State} (k : Reads r s) (h : alertNotified s t) : alertNotified r t := by
  intro changed
  obtain ⟨flag, share, admitting, admits⟩ := h (k.branch ▸ changed)
  have pump : r.drain.pump = s.drain.pump := by rw [k.drain]
  refine ⟨flag, k.share share, fun state => ?_, fun high closed => ?_⟩
  · obtain ⟨state', follows⟩ := admitting (by rw [← k.tank]; exact state)
    exact ⟨state', releaseFollows_congr follows (by rw [k.tank]) k.elapsed k.cfg rfl rfl rfl rfl⟩
  · rw [pump]
    exact admits high (by rw [← k.tank]; exact closed)

theorem Sampling.notified {s t u : State} (k : Sampling t u) (h : alertNotified s t) : alertNotified s u := by
  obtain ⟨_, cfg, _, rain, tank, _, input, _⟩ := outsideSample_fields k.outside
  intro changed
  rw [rain] at changed
  obtain ⟨flag, share, admitting, admits⟩ := h changed
  have sewer : u.sewer = t.sewer := by unfold State.sewer; rw [input]
  refine ⟨(k.flags 5 (by decide) (by decide)).trans flag, k.share share, fun state => ?_, fun high closed => ?_⟩
  · obtain ⟨state', follows⟩ := admitting state
    exact ⟨by rw [tank]; exact state',
      releaseFollows_congr follows rfl rfl rfl (by rw [tank]) sewer cfg (by rw [rain])⟩
  · rw [rain] at high
    rw [tank]
    exact admits high closed

theorem BodyTaken.reads {b : Body} {u : Uses} {sender : Addr} {stamp : Nat} {s w t : State}
    (h : BodyTaken b u sender stamp s w t) : Reads s w := by
  have sets := h.sets
  exact ⟨by rw [sets]; rfl, by rw [sets], by rw [sets], by rw [sets], by rw [sets], by rw [sets]⟩

/-- The notice of a body raises no flag but ALERT_CHANGE. -/
theorem BodyTaken.flag {b : Body} {u : Uses} {sender : Addr} {stamp : Nat} {s w t : State}
    (h : BodyTaken b u sender stamp s w t) {i : Nat} (alert : i ≠ 5) :
    t.port.flags.getLsbD i = w.port.flags.getLsbD i := by
  rcases h.notices with same | share | branch
  · rw [same]
  · rw [share]; exact (Keeps.of_tank (drainTakesShareNotice_tank w)).flag
  · rw [branch]; exact (formBranchAlert_keeps alert w).flag

/-- R134: a branch alert changed by a body is notified. -/
theorem BodyTaken.notified {b : Body} {u : Uses} {sender : Addr} {stamp : Nat} {s w t : State}
    (h : BodyTaken b u sender stamp s w t) : alertNotified s t := by
  have branch : w.rain.branch = s.rain.branch := h.reads.branch.symm
  rcases h.notices with same | share | alert
  · exact fun changed => absurd (by rw [same]; exact branch) changed
  · have rain : t.rain = w.rain := by rw [share]; exact (sewer_of_tank (drainTakesShareNotice_tank w)).2.2.2
    exact fun changed => absurd (by rw [rain]; exact branch) changed
  · rw [alert]
    exact h.reads.notified (formBranchAlert_notified w)

/-- R143: a claim part or a LIMIT taken runs the share computation. -/
theorem BodyTaken.shares {b : Body} {u : Uses} {sender : Addr} {stamp : Nat} {s w t : State}
    (h : BodyTaken b u sender stamp s w t) (notice : t = drainTakesShareNotice w) : shareFollows s t := by
  obtain ⟨_, peers, _, _, rain, _⟩ := outsideTank_fields (drainTakesShareNotice_tank w)
  have standing := (standing_cfg_of_tank (drainTakesShareNotice_tank w)).1
  rw [notice]
  exact h.reads.share ((drainTakesShareNotice_runs w).follows peers rfl rfl rfl (by rw [rain]) standing rfl)

/-! ### A good bulletin taken -/

theorem mem_changeEntry_address {a : Addr} {f : PeerEntry → PeerEntry} (keeps : KeepsAddress f) {es : List PeerEntry}
    {e : PeerEntry} (he : e ∈ changeEntry a f es) : ∃ x ∈ es, x.address = e.address := by
  obtain ⟨x, hx, same⟩ := List.mem_map.mp he
  refine ⟨x, hx, ?_⟩
  rw [← same]
  split
  · exact (keeps x).symm
  · rfl

/-- What the station is when a good bulletin is handed to the Peer Table. -/
structure Handed (s t : State) : Prop where
  elapsed : t.elapsed = s.elapsed
  cfg : t.cfg = s.cfg
  peers : t.peers = s.peers
  time : t.time = s.time
  rain : t.rain = s.rain
  spill : t.spill = s.spill
  inputs : t.input.digital = s.input.digital ∧ t.input.gauges = s.input.gauges
  flags : ∀ i, i ≠ 6 → t.port.flags.getLsbD i = s.port.flags.getLsbD i
  still : t.trunk.standing = s.trunk.standing → t.tank = s.tank ∧ t.drain = s.drain

theorem lowerRxScore_hands (s : State) : Handed s (lowerRxScore (setReceiver .discard (lineHeard s))) := by
  obtain ⟨rescored, restands, _⟩ := lowerRxScore_rescored (setReceiver .discard (lineHeard s))
  obtain ⟨elapsed, cfg, _, _, _, _, _, peers, time, rain⟩ := rescored.fields
  obtain ⟨_, _, _, spill, _, _, _, _, input, _⟩ := outsideTank_fields rescored.outside
  refine ⟨elapsed, cfg, peers, time, rain, spill, ⟨by rw [input]; rfl, by rw [input]; rfl⟩, rescored.flags, fun same => ?_⟩
  rw [restands.still same]
  exact ⟨rfl, rfl⟩

/-- The bulletin's entry, part and time sample, from the state that it found. -/
structure GoodTaken (r : Received) (hit stamp : Nat) (u : Uses) (x : TimeSample) (s l e v w q t : State) : Prop where
  handed : Handed s l
  entry : e = takeEntry r hit stamp l
  entered : Entered r hit stamp l e
  taken : BulletinTaken (clampBody r.body) u x stamp e v w q t
  sender : x.sender = r.sender
  standing : t.trunk.standing = l.trunk.standing

theorem GoodTaken.entry_fields {r : Received} {hit stamp : Nat} {u : Uses} {x : TimeSample} {s l e v w q t : State}
    (h : GoodTaken r hit stamp u x s l e v w q t) : e.elapsed = s.elapsed ∧ e.cfg = s.cfg ∧ e.time = s.time ∧
      e.rain = s.rain ∧ e.spill = s.spill ∧ e.input = l.input ∧ e.peers.limit = s.peers.limit ∧ e.tank = l.tank ∧
      e.drain = l.drain := by
  have sets := takeEntry_sets r hit stamp l
  rw [← h.entry] at sets
  obtain ⟨elapsed, cfg, peers, time, rain, spill, _⟩ := h.handed
  have cfg' : e.cfg = l.cfg := by rw [sets]; rfl
  refine ⟨?_, cfg'.trans cfg, ?_, ?_, ?_, ?_, ?_, ?_, ?_⟩
  · rw [sets]; exact elapsed
  · rw [sets]; exact time
  · rw [sets]; exact rain
  · rw [sets]; exact spill
  · rw [sets]
  · rw [sets, ← peers]
  · rw [sets]
  · rw [sets]

/-- The peer table that a good bulletin leaves. -/
theorem GoodTaken.peers {r : Received} {hit stamp : Nat} {u : Uses} {x : TimeSample} {s l e v w q t : State}
    (h : GoodTaken r hit stamp u x s l e v w q t) : t.peers =
      ⟨changeEntry r.sender (parted (clampBody r.body) u s.elapsed) e.peers.entries,
        recorded (clampBody r.body) u r.sender ⟨s.elapsed, stamp⟩ s.peers.limit⟩ := by
  obtain ⟨elapsed, _, _, _, _, _, limit, _⟩ := h.entry_fields
  obtain ⟨elapsed', _, peers', _⟩ := outsideSample_fields h.taken.before.outside
  obtain ⟨_, _, peers'', _⟩ := outsideSample_fields h.taken.after.outside
  rw [peers'', h.taken.body.leaves.2.2.2.2]
  unfold bodyPeers
  rw [elapsed', peers', elapsed, limit, h.sender]

theorem parted_keepsAddress (b : Body) (u : Uses) (now : Nat) : KeepsAddress (parted b u now) :=
  fun e => (parted_keeps b u now e).1

/-- The entries that are not the sender's. -/
theorem GoodTaken.mem_other {r : Received} {hit stamp : Nat} {u : Uses} {x : TimeSample} {s l e v w q t : State}
    (h : GoodTaken r hit stamp u x s l e v w q t) {y : PeerEntry} (other : y.address ≠ r.sender) :
    y ∈ t.peers.entries ↔ y ∈ e.peers.entries := by
  rw [h.peers]
  exact mem_changeEntry_other (parted_keepsAddress _ _ _) other

theorem GoodTaken.mem_sender {r : Received} {hit stamp : Nat} {u : Uses} {x : TimeSample} {s l e v w q t : State}
    (h : GoodTaken r hit stamp u x s l e v w q t) {y : PeerEntry} (mem : y ∈ e.peers.entries)
    (sender : y.address = r.sender) : parted (clampBody r.body) u s.elapsed y ∈ t.peers.entries := by
  rw [h.peers]
  exact mem_changeEntry_self mem sender

/-- R41: the flag of a LIMIT. -/
theorem GoodTaken.flag {r : Received} {hit stamp : Nat} {u : Uses} {x : TimeSample} {s l e v w q t : State}
    (h : GoodTaken r hit stamp u x s l e v w q t) :
    limitFlagged (usedCapacity (clampBody r.body) u) s t ∧
    t.port.flags.getLsbD 13 = e.port.flags.getLsbD 13 := by
  obtain ⟨_, _, _, _, _, _, limit, _⟩ := h.entry_fields
  obtain ⟨_, _, peers', _⟩ := outsideSample_fields h.taken.before.outside
  have entered : e.port.flags.getLsbD 9 = l.port.flags.getLsbD 9 := by
    rw [h.entry]; exact (takeEntry_keeps (by decide) r hit stamp l).flag
  have later : ∀ i, i ≠ 5 → i ≠ 7 → i ≠ 8 → t.port.flags.getLsbD i = w.port.flags.getLsbD i := fun i alert clock disagree =>
    (h.taken.after.flags i clock disagree).trans (h.taken.body.flag alert)
  have flagged := h.taken.body.flagged
  unfold limitFlagged at flagged ⊢
  rw [peers', limit, h.taken.before.flags 9 (by decide) (by decide), entered, h.handed.flags 9 (by decide)] at flagged
  rw [later 9 (by decide) (by decide) (by decide)]
  refine ⟨flagged, (later 13 (by decide) (by decide) (by decide)).trans ?_⟩
  exact (h.taken.body.flags 13 (by decide)).trans (h.taken.before.flags 13 (by decide) (by decide))

/-- R40: the Time Unit takes the sample of a bulletin whose use it is. -/
theorem GoodTaken.time {r : Received} {hit stamp : Nat} {u : Uses} {x : TimeSample} {s l e v w q t : State}
    (h : GoodTaken r hit stamp u x s l e v w q t) :
    t.time = if u.time then (timeTakesSample x s).time else s.time := by
  obtain ⟨elapsed, cfg, time, _⟩ := h.entry_fields
  rw [h.taken.time, timeTakesSample_time x time cfg elapsed, time]

/-- What a good bulletin leaves alone. -/
theorem GoodTaken.leaves {r : Received} {hit stamp : Nat} {u : Uses} {x : TimeSample} {s l e v w q t : State}
    (h : GoodTaken r hit stamp u x s l e v w q t) : t.elapsed = s.elapsed ∧ t.input.digital = s.input.digital ∧
      t.input.gauges = s.input.gauges ∧ t.spill = s.spill := by
  obtain ⟨elapsed, _, _, _, spill, input, _⟩ := h.entry_fields
  obtain ⟨elapsed', _, _, _, _, spill', input', _⟩ := outsideSample_fields h.taken.before.outside
  obtain ⟨elapsed'', _, _, _, _, spill'', input'', _⟩ := outsideSample_fields h.taken.after.outside
  obtain ⟨_, _, _, spill₃, _, _, input₃, _⟩ := outsideControl_fields h.taken.body.leaves.1
  have elapsed₃ := h.taken.body.leaves.2.2.2.1
  have sets := h.taken.body.sets
  have digital : q.input.digital = v.input.digital ∧ q.input.gauges = v.input.gauges := by
    rw [input₃, sets]; exact ⟨rfl, rfl⟩
  have spill₄ : q.spill = v.spill := by rw [spill₃, sets]
  obtain ⟨digital', gauges'⟩ := h.handed.inputs
  refine ⟨?_, ?_, ?_, ?_⟩
  · rw [elapsed'', elapsed₃, elapsed', elapsed]
  · rw [input'', digital.1, input', input]; exact digital'
  · rw [input'', digital.2, input', input]; exact gauges'
  · rw [spill'', spill₄, spill', spill]

/-- What the notices of the bulletin read is what the station held before it, where neither the standing nor T changes. -/
theorem GoodTaken.reads {r : Received} {hit stamp : Nat} {u : Uses} {x : TimeSample} {s l e v w q t : State}
    (h : GoodTaken r hit stamp u x s l e v w q t) (standing : t.trunk.standing = s.trunk.standing)
    (clock : t.time.t = s.time.t) : Reads s v := by
  obtain ⟨elapsed, cfg, time, rain, _, _, _, tank, drain⟩ := h.entry_fields
  obtain ⟨elapsed', cfg', _, rain', tank', _, _, drain', _⟩ := outsideSample_fields h.taken.before.outside
  obtain ⟨tank'', drain''⟩ := h.handed.still (h.standing.symm.trans standing)
  have timed : v.time.t = s.time.t := by
    rcases h.taken.clock with same | same
    · rw [same, time]
    · rw [same]; exact clock
  exact ⟨(cfg'.trans cfg).symm, (elapsed'.trans elapsed).symm, timed.symm, by rw [tank', tank, tank''], by rw [rain', rain],
    by rw [drain', drain, drain'']⟩

/-- R134, R143: the notices of the bulletin. -/
theorem GoodTaken.notices {r : Received} {hit stamp : Nat} {u : Uses} {x : TimeSample} {s l e v w q t : State}
    (h : GoodTaken r hit stamp u x s l e v w q t) (standing : t.trunk.standing = s.trunk.standing)
    (clock : t.time.t = s.time.t) : alertNotified s t ∧
      ((r.body.kind = .claim ∧ u.claim = true ∧ ∃ y ∈ t.peers.entries, y.address = r.sender) ∨
        (r.body.kind = .limit ∧ u.limit = true) → shareFollows s t) := by
  have reads := h.reads standing clock
  refine ⟨h.taken.after.notified (reads.notified h.taken.body.notified), fun runs => ?_⟩
  have kind : (clampBody r.body).kind = r.body.kind := by cases r.body <;> rfl
  refine h.taken.after.share (reads.share (h.taken.body.shares (h.taken.body.share ?_)))
  rw [kind]
  rcases runs with ⟨claim, use, y, hy, sender⟩ | limit
  · obtain ⟨_, _, peers, _⟩ := outsideSample_fields h.taken.before.outside
    rw [h.peers] at hy
    obtain ⟨z, hz, same⟩ := mem_changeEntry_address (parted_keepsAddress _ _ _) hy
    exact .inl ⟨claim, use, z, by rw [peers]; exact hz, by rw [same, sender, h.sender]⟩
  · exact .inr limit

/-- R26, R29: a bulletin whose sender an acceptance entry hits. -/
theorem goodBulletin_taken {g : Gathering} {s : State} {r : Received} {hit : Nat} (good : r = parseBulletin g.bytes)
    (other : r.sender ≠ s.ownAddress) (ok : PeersOk s) (accepted : filterHit s.cfg.accept r.sender = some hit) :
    ∃ l e v w q, GoodTaken r hit g.stamp (s.cfg.accept.get hit).uses ⟨r.sender, r.clock, r.time, g.stamp, g.stepped⟩
      s l e v w q (goodBulletin g (setReceiver .discard (lineHeard s))) := by
  subst good
  have handed := lowerRxScore_hands s
  have handOver : goodBulletin g (setReceiver .discard (lineHeard s)) =
      takeBulletin (parseBulletin g.bytes) g.stamp g.stepped (lowerRxScore (setReceiver .discard (lineHeard s))) :=
    goodBulletin_other other
  rw [handOver]
  generalize lowerRxScore (setReceiver .discard (lineHeard s)) = l at handed
  have ok' : PeersOk l := by
    have own : l.ownAddress = s.ownAddress := by unfold State.ownAddress; rw [handed.cfg]
    unfold PeersOk
    rw [handed.peers, own]
    exact ok
  have entered := takeEntry_enters (parseBulletin g.bytes) hit g.stamp ok'
  obtain ⟨v, w, q, taken⟩ := takeBulletin_taken (stepped := g.stepped) (by rw [handed.cfg]; exact accepted) entered.one
  rw [handed.cfg] at taken
  have standing := (lineState_fields (takeBulletin_line (parseBulletin g.bytes) g.stamp g.stepped l)).2.2.2.2.2.1
  exact ⟨l, _, v, w, q, handed, rfl, entered, taken, rfl, standing⟩

/-- R29: one that no acceptance entry hits. -/
theorem goodBulletin_unaccepted {g : Gathering} {s : State} (other : (parseBulletin g.bytes).sender ≠ s.ownAddress)
    (unaccepted : filterHit s.cfg.accept (parseBulletin g.bytes).sender = none) :
    goodBulletin g (setReceiver .discard (lineHeard s)) = lowerRxScore (setReceiver .discard (lineHeard s)) := by
  have cfg := (lowerRxScore_hands s).cfg
  have handOver : goodBulletin g (setReceiver .discard (lineHeard s)) =
      takeBulletin (parseBulletin g.bytes) g.stamp g.stepped (lowerRxScore (setReceiver .discard (lineHeard s))) :=
    goodBulletin_other other
  rw [handOver, takeBulletin, cfg, unaccepted]

/-- R32, R33: the sender's entry found, or made where there is room. -/
theorem GoodTaken.kept {r : Received} {hit stamp : Nat} {u : Uses} {x : TimeSample} {s l e v w q t : State}
    (h : GoodTaken r hit stamp u x s l e v w q t) {y : PeerEntry}
    (entry : (y ∈ s.peers.entries ∧ y.address = r.sender) ∨
      ((∀ z ∈ s.peers.entries, z.address ≠ r.sender) ∧ s.peers.entries.length < 24 ∧
        y = ⟨r.sender, hit, stamp, stamp, r.clock, r.quiet, none, none, s.elapsed⟩)) :
    parted (clampBody r.body) u s.elapsed (refreshEntry r stamp s y) ∈ t.peers.entries ∧
      ∀ z, z.address ≠ r.sender → (z ∈ t.peers.entries ↔ z ∈ s.peers.entries) := by
  have peers := h.handed.peers
  have elapsed := h.handed.elapsed
  have refreshed : refreshEntry r stamp l y = refreshEntry r stamp s y := by unfold refreshEntry; rw [elapsed]
  rcases entry with ⟨mem, sender⟩ | ⟨absent, room, new⟩
  · obtain ⟨found, others⟩ := h.entered.found y (by rw [peers]; exact mem) sender
    rw [refreshed] at found
    rw [peers] at others
    exact ⟨h.mem_sender found sender, fun z other => (h.mem_other other).trans (others z other)⟩
  · obtain ⟨made, others⟩ := h.entered.made (by rw [peers]; exact absent) (by rw [peers]; exact room)
    have same : newEntry r hit stamp l = refreshEntry r stamp s y := by
      rw [new]; unfold newEntry refreshEntry; rw [elapsed]
    rw [same] at made
    rw [peers] at others
    exact ⟨h.mem_sender made (by rw [new]; rfl), fun z other => (h.mem_other other).trans (others z other)⟩

/-- R34 b: no entry gives way. -/
theorem GoodTaken.full {r : Received} {hit stamp : Nat} {u : Uses} {x : TimeSample} {s l e v w q t : State}
    (h : GoodTaken r hit stamp u x s l e v w q t) (absent : ∀ z ∈ s.peers.entries, z.address ≠ r.sender)
    (length : s.peers.entries.length = 24) (parts : ∀ z ∈ s.peers.entries, z.claim ≠ none ∨ z.rain ≠ none) :
    t.peers.entries = s.peers.entries ∧ t.port.flags.getLsbD 13 = true := by
  have peers := h.handed.peers
  have unbare : ∀ z ∈ l.peers.entries, z.bare = false := fun z hz => by
    rw [peers] at hz
    rw [← Bool.not_eq_true, bare_iff]
    exact fun ⟨claim, rain⟩ => (parts z hz).elim (· claim) (· rain)
  obtain ⟨entries, flag⟩ := h.entered.full (by rw [peers]; exact absent) (by rw [peers]; omega) unbare
  rw [peers] at entries
  refine ⟨?_, h.flag.2.trans flag⟩
  rw [h.peers, entries]
  exact changeEntry_same fun z hz sender => absurd sender (absent z hz)

/-- R34 a: the entry without parts that was accepted longest ago gives way. -/
theorem GoodTaken.evicts {r : Received} {hit stamp : Nat} {u : Uses} {x : TimeSample} {s l e v w q t : State}
    (h : GoodTaken r hit stamp u x s l e v w q t) (absent : ∀ z ∈ s.peers.entries, z.address ≠ r.sender)
    (length : s.peers.entries.length = 24) (bare : ∃ z ∈ s.peers.entries, z.claim = none ∧ z.rain = none) :
    ∃ old ∈ s.peers.entries, old.claim = none ∧ old.rain = none ∧
      (∀ z ∈ s.peers.entries, z.claim = none → z.rain = none → old.accepted ≤ z.accepted) ∧
      (∃ z ∈ t.peers.entries, z.address = r.sender ∧ z.firstHeard = stamp) ∧
      ∀ z, z.address ≠ r.sender → (z ∈ t.peers.entries ↔ z ∈ s.peers.entries ∧ z ≠ old) := by
  have evicted := h.entered.evicts
  rw [h.handed.peers] at evicted
  obtain ⟨z, hz, parts⟩ := bare
  obtain ⟨old, mem, gives, oldest, made, others⟩ := evicted absent (by omega) ⟨z, hz, bare_iff.mpr parts⟩
  obtain ⟨claim, rain⟩ := bare_iff.mp gives
  refine ⟨old, mem, claim, rain, fun z hz claim rain => oldest z hz (bare_iff.mpr ⟨claim, rain⟩),
    ⟨_, h.mem_sender made rfl, (parted_keeps _ _ _ _).1, (parted_keeps _ _ _ _).2⟩,
    fun z other => (h.mem_other other).trans (others z other)⟩

/-- Settles O33: the bulletin is gathered whole (`gatherByte_good`); unaccepted it leaves the Peer Table alone, and otherwise
`GoodTaken` says what its entry, part, notices and time sample leave. -/
theorem goodBulletinsAreTaken : Obligations.GoodBulletinsAreTaken := by
  intro s b g bs r run rx echo gathered long length good parsed other ok
  subst gathered
  have gathers : receiveByte b s =
      goodBulletin { g with bytes := g.bytes ++ [b] } (setReceiver .discard (lineHeard s)) := by
    rw [receiveByte_frame b rx, gatherByte_good (g := { g with bytes := g.bytes ++ [b] }) _ long length good]
    exact if_neg (by rw [echo]; decide)
  have runs : exec (.byteReceived b) s =
      .next (goodBulletin { g with bytes := g.bytes ++ [b] } (setReceiver .discard (lineHeard s))) :=
    (byteReceived_runs run).trans (congrArg _ gathers)
  refine ⟨fun none => ⟨_, runs, ?_⟩, fun hit u range uses used matched before => ⟨_, runs, ?_⟩⟩
  · have handed := lowerRxScore_hands s
    rw [goodBulletin_unaccepted (by rw [← parsed]; exact other)
      (by rw [← parsed]; exact filterHit_none fun i range => not_hits (none i range))]
    exact ⟨handed.peers, handed.time, handed.rain⟩
  · have accepted : filterHit s.cfg.accept r.sender = some hit :=
      filterHit_first range (hits_iff.mpr ⟨by rw [← uses]; exact used, matched⟩) fun i lt => not_hits (before i lt)
    obtain ⟨l, e, v, w, q, h⟩ := goodBulletin_taken (g := { g with bytes := g.bytes ++ [b] }) parsed other ok accepted
    rw [← uses] at h
    generalize goodBulletin { g with bytes := g.bytes ++ [b] } (setReceiver .discard (lineHeard s)) = t at h
    obtain ⟨elapsed, digital, gauges, spill⟩ := h.leaves
    refine ⟨fun y entry => ?_, h.full, h.evicts, ?_, ?_, fun standing clock => ?_, h.time, elapsed, digital, gauges, spill⟩
    · obtain ⟨mem, others⟩ := h.kept entry
      rw [parted_refreshed] at mem
      exact ⟨mem, others⟩
    · rw [h.peers]
      exact recorded_clamped r.body u r.sender ⟨s.elapsed, g.stamp⟩ s.peers.limit
    · have flagged := h.flag.1
      rw [usedCapacity_clamped] at flagged
      exact flagged
    · obtain ⟨notified, shares⟩ := h.notices standing clock
      refine ⟨notified, fun runs => shares ?_⟩
      rcases runs with ⟨⟨c, body⟩, use, present⟩ | ⟨⟨c, body⟩, use⟩
      · exact .inl ⟨by rw [body]; rfl, use, present⟩
      · exact .inr ⟨by rw [body]; rfl, use⟩

end Sys2Proof.Machine
end

section
/-! SUPPORT. The checks of a COMMIT, and what the entries to RUN of the Spill Monitor and the Rain Unit leave alone
(`outsideEntry`). -/

namespace Sys2Proof.Machine

/-! ### The checks of a COMMIT -/

theorem monotonic_iff (ps : List Point) : monotonic ps = true ↔ ps.IsChain (fun p q => p.x < q.x ∧ p.y ≤ q.y) := by
  induction ps with
  | nil => simp [monotonic]
  | cons p rest ih =>
    cases rest with
    | nil => simp [monotonic]
    | cons q rest => rw [monotonic, Bool.and_eq_true, decide_eq_true_eq, ih, List.isChain_cons_cons]

theorem acceptInForce_eq {s : State} {a : Addr} (h : s.port.items.stationAddress = some a) :
    acceptInForce s.port.loaded s.port.items = acceptAtCommit s a := by
  unfold acceptInForce acceptAtCommit
  rw [h]
  by_cases loaded : (⟨7, 0⟩ : ItemRef) ∈ s.port.loaded
  · rw [if_pos loaded, if_pos (List.contains_iff_mem.mpr loaded)]
  · rw [if_neg loaded, if_neg fun c => loaded (List.contains_iff_mem.mp c)]
    rfl

theorem enabled_iff (t : AcceptTable) :
    t.enabled = true ↔ ¬ ∀ e ∈ [t.e0, t.e1, t.e2, t.e3], e.uses = ⟨false, false, false, false⟩ := by
  unfold AcceptTable.enabled
  rw [Bool.or_eq_true, Bool.or_eq_true, Bool.or_eq_true, any_iff, any_iff, any_iff, any_iff]
  simp only [List.mem_cons, List.not_mem_nil, or_false, forall_eq_or_imp, forall_eq]
  tauto

/-- R189: what the checks passed say, and that no item is refused. -/
theorem commitRefusal_none {s : State} {a : Addr} (address : s.port.items.stationAddress = some a)
    (h : ∀ q ∈ commitChecks s, ¬ q.1) : commitRefusal s.port.loaded s.port.items = none ∧
      s.port.items.tWatch < s.port.items.tWarn ∧ s.port.items.tWarn < s.port.items.tSevere := by
  simp only [commitChecks, List.mem_cons, List.not_mem_nil, or_false, forall_eq_or_imp, forall_eq] at h
  obtain ⟨_, stage, weir, pump, volume, warn, severe, level, accept⟩ := h
  have volume' : ¬ lastY s.port.items.stage ≤ s.port.items.emptyVolume := by
    intro low
    refine volume fun p last => ?_
    rw [lastY, last] at low
    exact low
  have enabled : (acceptAtCommit s a).enabled = true :=
    (enabled_iff _).mpr fun all => accept fun b hb => by
      rw [address] at hb; cases hb
      exact ⟨all _ (by simp), all _ (by simp), all _ (by simp), all _ (by simp)⟩
  refine ⟨?_, not_le.mp warn, not_le.mp severe⟩
  unfold commitRefusal
  rw [acceptInForce_eq address, (monotonic_iff _).mpr (not_not.mp stage), (monotonic_iff _).mpr (not_not.mp weir), enabled,
    if_neg (by rw [address]; nofun), if_neg (by decide), if_neg (by decide), if_neg pump, if_neg volume', if_neg warn,
    if_neg severe, if_neg level, if_neg (by decide)]

/-! ### The entry of the Spill Monitor -/

/-- R122: the first measurement of the Spill Monitor. -/
def spillMeasured (s : State) : State :=
  measureHead true { s with spill := { s.spill with
    state := .clear, stateInstant := some s.now, floatCond := s.asserted .spillFloat } }

/-- R111, R114a: the entry to ONSET at the present instant, the Spill Counter told. -/
def onsetEntered (s : State) : State :=
  { s with
    spill := { s.spill with
      state := .onset, onset := some s.now, stateInstant := some s.now, subsiding := none
      debounce := some (s.elapsed + seconds s.cfg.spillStartDebounce)
      remainder := 0, provisional := 0, marks := ⟨false, false, false⟩ }
    counter := { s.counter with spill := .onset } }

/-- R114a: what the other blocks make of the entry to ONSET. -/
def onsetNotified (s : State) : State := inEitherOrder drainTakesNotice evaluateAlert (evaluateLamp (onsetEntered s))

theorem counterTakesSpillState_onset {s : State} (h : s.spill.state = .onset) :
    counterTakesSpillState s = { s with counter.spill := .onset } := by
  unfold counterTakesSpillState
  rw [h]
  cases s.counter.spill <;> rfl

theorem enterOnset_notifies (s : State) : enterOnset s.now s = onsetNotified s := by
  unfold enterOnset notifySpill
  rw [counterTakesSpillState_onset rfl]
  rfl

theorem onsetNotified_spill (s : State) : (onsetNotified s).spill = (onsetEntered s).spill := by
  have notices : outsideControl (onsetNotified s) = outsideControl (evaluateLamp (onsetEntered s)) :=
    inEitherOrder_control drainTakesNotice_control evaluateAlert_control _
  exact (outsideControl_fields notices).2.2.2.1

/-- R122: the Spill Monitor stays in CLEAR, or enters ONSET with its first sample. -/
theorem spillEnters_eq (s : State) : spillEnters s =
    if combined (spillMeasured s) then
      counterTakesSample (sampleNotice 0 true (onsetNotified (spillMeasured s)))
        (integrateSample 0 true (onsetNotified (spillMeasured s)))
    else spillMeasured s := by
  have enters : spillEnters s = takeSpillSample .clear 0 (spillEvaluates (spillMeasured s).now (spillMeasured s)) := rfl
  have clear : (spillMeasured s).spill.state = .clear := rfl
  rw [enters, spillEvaluates, clear]
  cases combined (spillMeasured s) with
  | false => rfl
  | true =>
    have onset : (onsetNotified (spillMeasured s)).spill.state = .onset := by rw [onsetNotified_spill]; rfl
    dsimp only
    rw [enterOnset_notifies, takeSpillSample, onset]
    rfl

/-! ### What the entries leave alone -/

/-- R133: of the Rain Unit, the branch alert alone is formed anew. -/
theorem formBranchAlert_rain (s : State) : (formBranchAlert s).rain = { s.rain with branch := highestAlert s } := by
  by_cases same : highestAlert s = s.rain.branch
  · rw [formBranchAlert_same same, same]
  · obtain ⟨u, hu, order⟩ := formBranchAlert_alerts same
    have outside : outsideTank (formBranchAlert s) = outsideTank u := by
      rcases order with first | second
      · rw [first, tankTakesAlert_tank, drainTakesShareNotice_tank]
      · rw [second, drainTakesShareNotice_tank, tankTakesAlert_tank]
    rw [(sewer_of_tank outside).2.2.2, hu]
    rfl

/-- All but what the entries of the Tank Controller, the Drain Controller and the Spill Monitor and the notices of the alerts
may change. -/
def outsideEntry (s : State) : State :=
  { outsideControl s with
    spill := .reset
    rain := { Rain.reset with bins := s.rain.bins, minutes := s.rain.minutes, nextMinute := s.rain.nextMinute } }

theorem outsideEntry_of {s t : State} (control : outsideControl t = outsideControl s)
    (bins : t.rain.bins = s.rain.bins ∧ t.rain.minutes = s.rain.minutes ∧ t.rain.nextMinute = s.rain.nextMinute) :
    outsideEntry t = outsideEntry s := by
  unfold outsideEntry
  rw [control, bins.1, bins.2.1, bins.2.2]

theorem outsideEntry_of_tank {s t : State} (h : outsideTank t = outsideTank s) : outsideEntry t = outsideEntry s := by
  have rain := (sewer_of_tank h).2.2.2
  exact outsideEntry_of (outsideControl_of h) (by rw [rain]; exact ⟨rfl, rfl, rfl⟩)

theorem outsideEntry_fields {s t : State} (h : outsideEntry t = outsideEntry s) :
    t.elapsed = s.elapsed ∧ t.peers = s.peers ∧ t.time = s.time ∧ lineState t = lineState s ∧ t.trunk.rx = s.trunk.rx ∧
    t.cfg = s.cfg ∧ t.input.gauges = s.input.gauges ∧ t.input.digital = s.input.digital ∧
    t.input.nextSample = s.input.nextSample ∧ t.rain.bins = s.rain.bins ∧ t.rain.minutes = s.rain.minutes ∧
    t.rain.nextMinute = s.rain.nextMinute := by
  have same : ∀ {α : Type} (f : State → α), f (outsideEntry t) = f (outsideEntry s) := fun f => congrArg f h
  exact ⟨same State.elapsed, same State.peers, same State.time, same lineState, same fun u => u.trunk.rx, same State.cfg,
    same fun u => u.input.gauges, same fun u => u.input.digital, same fun u => u.input.nextSample, same fun u => u.rain.bins,
    same fun u => u.rain.minutes, same fun u => u.rain.nextMinute⟩

theorem formBranchAlert_entry (s : State) : outsideEntry (formBranchAlert s) = outsideEntry s :=
  outsideEntry_of (formBranchAlert_control s) (by rw [formBranchAlert_rain]; exact ⟨rfl, rfl, rfl⟩)

theorem evaluateAlert_entry (s : State) : outsideEntry (evaluateAlert s) = outsideEntry s := by
  unfold evaluateAlert
  dsimp only
  split
  · unfold alertRises queueRain
    rw [formBranchAlert_entry, outsideEntry_of_tank (queueBody_tank _ _)]
    rfl
  · unfold updateHold
    split_ifs <;> rfl

theorem onsetNotified_entry (s : State) : outsideEntry (onsetNotified s) = outsideEntry s := by
  have start : ∀ u : State, outsideEntry { u with free.orders := u.free.orders + 1 } = outsideEntry u := fun _ => rfl
  have entered : outsideEntry (evaluateLamp (onsetEntered s)) = outsideEntry s := rfl
  refine inEitherOrder_holds (fun t => outsideEntry t = outsideEntry s) (fun t h => ?_) (fun t h => ?_)
    ((start _).trans entered)
  · rw [evaluateAlert_entry, outsideEntry_of_tank (drainTakesNotice_tank _), h]
  · rw [outsideEntry_of_tank (drainTakesNotice_tank _), evaluateAlert_entry, h]

theorem spillEnters_entry (s : State) : outsideEntry (spillEnters s) = outsideEntry s := by
  have measured : outsideEntry (spillMeasured s) = outsideEntry s := rfl
  have counted : ∀ (n : SampleNotice) (u : State), outsideEntry (counterTakesSample n u) = outsideEntry u := fun n u => by
    unfold counterTakesSample; split_ifs <;> rfl
  have integrated : ∀ u : State, outsideEntry (integrateSample 0 true u) = outsideEntry u := fun _ => rfl
  rw [spillEnters_eq]
  split
  · rw [counted, integrated, onsetNotified_entry, measured]
  · exact measured

theorem pumpEnters_entry (s : State) : outsideEntry (pumpEnters s) = outsideEntry s := by
  unfold pumpEnters; dsimp only; split <;> rfl

theorem gateEnters_entry (s : State) : outsideEntry (gateEnters s) = outsideEntry s := by
  unfold gateEnters; split <;> rfl

theorem volumeEnters_entry (s : State) : outsideEntry (volumeEnters s) = outsideEntry s := by
  unfold volumeEnters measureVolume; split_ifs <;> rfl

theorem stateEnters_entry (s : State) : outsideEntry (stateEnters s) = outsideEntry s := by
  unfold stateEnters
  dsimp only
  rw [outsideEntry_of_tank (retarget_tank _)]
  rfl

theorem rainEnters_entry (s : State) : outsideEntry (rainEnters s) = outsideEntry s :=
  (formBranchAlert_entry _).trans (evaluateAlert_entry s)

theorem claimEnters_entry (s : State) : outsideEntry (claimEnters s) = outsideEntry s := by
  unfold claimEnters queueClaim
  rw [outsideEntry_of_tank (queueBody_tank _ _), outsideEntry_of_tank (outsideTank_of (reformClaim_outside s))]

/-- The Trunk Interface, the Time Unit and the Input Unit in RUN, before the other blocks enter. -/
def sensed (counts : GaugeCounts) (s : State) : State :=
  inputEnters counts (timeEnters (trunkEnters { s with peers := .reset }))

/-- The state that the entry of the Spill Monitor finds. -/
def placed (s : State) : State := rainStarts (tankEntersRun (pumpEnters s))

theorem blocksEnter_eq (counts : GaugeCounts) (s : State) : blocksEnter counts s =
    evaluateLamp (tankTakesDrainNotice (claimEnters (rainEnters (spillEnters (placed (sensed counts s)))))) := rfl

/-- R190 d: what the later entries leave of the earlier ones. -/
theorem blocksEnter_entry (counts : GaugeCounts) (s : State) :
    outsideEntry (blocksEnter counts s) = outsideEntry (rainStarts (sensed counts s)) := by
  have lamp : ∀ u : State, outsideEntry (evaluateLamp u) = outsideEntry u := fun _ => rfl
  have starts : ∀ {u v : State}, outsideEntry u = outsideEntry v → outsideEntry (rainStarts u) = outsideEntry (rainStarts v) :=
    fun {u v} h => by
      have e : ∀ x, outsideEntry (rainStarts x) = outsideEntry (rainStarts (outsideEntry x)) := fun _ => rfl
      rw [e u, h, ← e v]
  rw [blocksEnter_eq, lamp, outsideEntry_of_tank (tankTakesDrainNotice_tank _), claimEnters_entry, rainEnters_entry,
    spillEnters_entry]
  unfold placed tankEntersRun
  exact starts (((stateEnters_entry _).trans (volumeEnters_entry _)).trans ((gateEnters_entry _).trans (pumpEnters_entry _)))

end Sys2Proof.Machine
end

section
/-! SUPPORT. The entries to RUN of the Trunk Interface, the Time Unit and the Input Unit (`sensed`), and what a COMMIT carried
out leaves of them (`blocksEnter_sets`). -/

namespace Sys2Proof.Machine

/-! ### The Time Unit and the Input Unit -/

/-- All but the Time Unit, the Input Unit, the event flags and the attention line. -/
def outsideSensing (s : State) : State :=
  { s with time := .reset, input := .reset, port := { s.port with flags := 0, attention := false } }

theorem outsideSensing_fields {s t : State} (h : outsideSensing t = outsideSensing s) :
    t.elapsed = s.elapsed ∧ t.trunk = s.trunk ∧ t.peers = s.peers ∧ t.tank = s.tank ∧ t.spill = s.spill ∧ t.rain = s.rain ∧
    t.drain = s.drain ∧ t.counter = s.counter ∧ t.cfg = s.cfg := by
  have same : ∀ {α : Type} (f : State → α), f (outsideSensing t) = f (outsideSensing s) := fun f => congrArg f h
  exact ⟨same State.elapsed, same State.trunk, same State.peers, same State.tank, same State.spill, same State.rain,
    same State.drain, same State.counter, same State.cfg⟩

theorem setClock_sensing (c : ClockState) (s : State) : outsideSensing (setClock c s) = outsideSensing s := by
  unfold setClock; split <;> rfl

theorem setClock_input (c : ClockState) (s : State) : (setClock c s).input = s.input := by
  unfold setClock; split <;> rfl

theorem timeEnters_sensing (s : State) : outsideSensing (timeEnters s) = outsideSensing s := by
  unfold timeEnters
  dsimp only
  split_ifs
  · rw [setClock_sensing]; rfl
  · rfl
  · rw [setClock_sensing]; rfl
  · rfl

theorem timeEnters_input (s : State) : (timeEnters s).input = s.input := by
  unfold timeEnters
  dsimp only
  split_ifs
  · rw [setClock_input]
  · rfl
  · rw [setClock_input]
  · rfl

/-- R65: the clock state that an entry to RUN leaves. -/
def enteredClock (anchor : Bool) (c : ClockState) : ClockState :=
  match anchor, c with
  | true, .following => .unset
  | true, .settled => .unset
  | false, .anchored => .following
  | _, c => c

/-- R65, R56. -/
theorem timeEnters_time (s : State) : (timeEnters s).time.t = s.time.t ∧ (timeEnters s).time.e = s.time.e ∧
    (timeEnters s).time.nextAdjust = some (s.elapsed + seconds 1) ∧
    (timeEnters s).time.clock = enteredClock s.cfg.anchor s.time.clock := by
  unfold timeEnters
  dsimp only
  cases anchor : s.cfg.anchor with
  | true =>
    cases s.time.clock with
    | unset => exact ⟨rfl, rfl, rfl, rfl⟩
    | anchored => exact ⟨rfl, rfl, rfl, rfl⟩
    | following =>
      rw [if_pos rfl, if_pos (.inl rfl), setClock_time]
      exact ⟨rfl, rfl, rfl, rfl⟩
    | settled =>
      rw [if_pos rfl, if_pos (.inr rfl), setClock_time]
      exact ⟨rfl, rfl, rfl, rfl⟩
  | false =>
    cases s.time.clock with
    | unset => exact ⟨rfl, rfl, rfl, rfl⟩
    | following => exact ⟨rfl, rfl, rfl, rfl⟩
    | settled => exact ⟨rfl, rfl, rfl, rfl⟩
    | anchored =>
      rw [if_neg (by decide), if_pos rfl, setClock_time]
      exact ⟨rfl, rfl, rfl, rfl⟩

theorem convertChannel_eq (datum span : Nat) (r : BitVec 12) (x : Nat) (c : GaugeChannel) :
    convertChannel datum span r x c = converted datum span x r c := by
  unfold convertChannel converted inBand
  by_cases band : 600 ≤ r.toNat ∧ r.toNat ≤ 3800
  · rw [if_pos (decide_eq_true band), if_pos band]
    rfl
  · have status : (c.proven && decide (saturate 255 (c.run + 1) ≤ 2)) = true ↔ c.proven = true ∧ c.run + 1 ≤ 2 := by
      have small : saturate 255 (c.run + 1) ≤ 2 ↔ c.run + 1 ≤ 2 := by unfold saturate; omega
      rw [Bool.and_eq_true, decide_eq_true_eq, small]
    rw [if_neg fun h => band (of_decide_eq_true h), if_neg band]
    dsimp only
    rw [if_congr status rfl rfl]
    rfl

theorem convertGauge_input (g : Gauge) (r : BitVec 12) (s : State) : (convertGauge g r s).input = { s.input with
    gauges := s.input.gauges.set g
      (converted (s.cfg.datum.get g) (s.cfg.span.get g) s.elapsed r (s.input.gauges.get g)) } := by
  unfold convertGauge
  dsimp only
  rw [convertChannel_eq]
  split <;> rfl

theorem convertGauge_sensing (g : Gauge) (r : BitVec 12) (s : State) :
    outsideSensing (convertGauge g r s) = outsideSensing s := by
  unfold convertGauge; dsimp only; split <;> rfl

theorem convertGauge_time (g : Gauge) (r : BitVec 12) (s : State) : (convertGauge g r s).time = s.time := by
  unfold convertGauge; dsimp only; split <;> rfl

/-- The count that a sample gives for a channel. -/
def countOf (counts : GaugeCounts) : Gauge → BitVec 12
  | .sewer => counts.sewer
  | .tank => counts.tank
  | .overflow => counts.overflow

theorem inputEnters_sensing (counts : GaugeCounts) (s : State) : outsideSensing (inputEnters counts s) = outsideSensing s := by
  unfold inputEnters
  rw [convertGauge_sensing, convertGauge_sensing, convertGauge_sensing]
  rfl

theorem inputEnters_time (counts : GaugeCounts) (s : State) : (inputEnters counts s).time = s.time := by
  unfold inputEnters
  rw [convertGauge_time, convertGauge_time, convertGauge_time]

/-- R80 a, b. -/
theorem inputEnters_input (counts : GaugeCounts) (s : State) :
    (∀ i : DigitalIn, (inputEnters counts s).input.digital.get i = (s.input.digital.get i).enters) ∧
    (inputEnters counts s).input.nextSample = some (s.elapsed + seconds s.cfg.samplePeriod) ∧
    (∀ g : Gauge, (inputEnters counts s).input.gauges.get g =
      converted (s.cfg.datum.get g) (s.cfg.span.get g) s.elapsed (countOf counts g) (s.input.gauges.get g)) ∧
    (inputEnters counts s).input.gateDrive = s.input.gateDrive := by
  have fields : ∀ (g : Gauge) (r : BitVec 12) (u : State), (convertGauge g r u).cfg = u.cfg ∧
      (convertGauge g r u).elapsed = u.elapsed := fun g r u =>
    have same := outsideSensing_fields (convertGauge_sensing g r u)
    ⟨same.2.2.2.2.2.2.2.2, same.1⟩
  unfold inputEnters
  simp only [convertGauge_input, (fields _ _ _).1, (fields _ _ _).2]
  refine ⟨fun i => ?_, trivial, fun g => ?_, trivial⟩
  · cases i <;> rfl
  · cases g <;> rfl

/-! ### The Trunk Interface -/

/-- R25: the Trunk Interface as it enters RUN, before its PRESENCE is queued. -/
def listening (s : State) : State :=
  restartPresence { s with trunk := { s.trunk with rx := .discard, lineFree := false, lastActivity := s.elapsed } }

theorem trunkEnters_eq (s : State) : trunkEnters s = queueBody .presence (listening s) := rfl

theorem trunkEnters_trunk (s : State) : (trunkEnters s).trunk.rx = .discard ∧ (trunkEnters s).trunk.lineFree = false ∧
    (trunkEnters s).trunk.presence = some (s.elapsed + seconds s.cfg.presenceInterval) ∧
    (trunkEnters s).trunk.standing = s.trunk.standing ∧ (trunkEnters s).trunk.attempt = s.trunk.attempt ∧
    (trunkEnters s).trunk.slots = s.trunk.slots.set .presence (s.trunk.slots.presence.queue .presence) := by
  rw [trunkEnters_eq, queueBody_sets]
  exact ⟨rfl, rfl, rfl, rfl, rfl, rfl⟩

theorem firstEligible_of_eligible {t : Trunk} {k : Kind} (h : t.eligible k = true) : t.firstEligible.isSome = true := by
  cases k with
  | rain => rw [Trunk.firstEligible, if_pos h]; rfl
  | limit => rw [Trunk.firstEligible, if_pos h]; split_ifs <;> rfl
  | claim => rw [Trunk.firstEligible, if_pos h]; split_ifs <;> rfl
  | presence => rw [Trunk.firstEligible, if_pos h]; split_ifs <;> rfl

/-- R7: with nothing queued but the PRESENCE, the transmitter waits for the line, or keeps SEND (R24). -/
theorem trunkEnters_tx {s : State} (tx : s.trunk.tx = .idle ∨ s.trunk.tx = .send) (standing : s.trunk.standing = .normal)
    (slot : ∀ b n x, s.trunk.slots.presence ≠ .sending b n x) :
    (trunkEnters s).trunk.tx = if s.trunk.tx = .send then .send else .waitLine := by
  have queued : (listening s).trunk.tx = s.trunk.tx := rfl
  rw [trunkEnters_eq, queueBody, wakeTransmitter]
  rcases tx with idle | send
  · have eligible : ((s.trunk.slots.presence.queue .presence).isWaiting && s.trunk.standing.allows .presence) = true := by
      rw [standing]
      cases held : s.trunk.slots.presence with
      | empty => rfl
      | waiting b n => rfl
      | sending b n x => exact absurd held (slot b n x)
    rw [if_pos ⟨queued.trans idle, firstEligible_of_eligible (k := .presence) eligible⟩, if_neg (by rw [idle]; decide)]
    rfl
  · rw [if_neg fun h => absurd (send.symm.trans (queued.symm.trans h.1)) (by decide), if_pos send]
    exact queued.trans send

/-! ### The three together -/

theorem trunkEnters_fields (s : State) : (trunkEnters s).elapsed = s.elapsed ∧ (trunkEnters s).peers = s.peers ∧
    (trunkEnters s).time = s.time ∧ (trunkEnters s).input = s.input ∧ (trunkEnters s).tank = s.tank ∧
    (trunkEnters s).spill = s.spill ∧ (trunkEnters s).rain = s.rain ∧ (trunkEnters s).drain = s.drain ∧
    (trunkEnters s).counter = s.counter ∧ (trunkEnters s).cfg = s.cfg := by
  rw [trunkEnters_eq, queueBody_sets]
  exact ⟨rfl, rfl, rfl, rfl, rfl, rfl, rfl, rfl, rfl, rfl⟩

theorem sensed_fields (counts : GaugeCounts) (s : State) :
    (sensed counts s).elapsed = s.elapsed ∧ (sensed counts s).peers = .reset ∧ (sensed counts s).tank = s.tank ∧
    (sensed counts s).spill = s.spill ∧ (sensed counts s).rain = s.rain ∧ (sensed counts s).drain = s.drain ∧
    (sensed counts s).counter = s.counter ∧ (sensed counts s).cfg = s.cfg ∧
    (sensed counts s).trunk = (trunkEnters { s with peers := .reset }).trunk := by
  have same : outsideSensing (sensed counts s) = outsideSensing (trunkEnters { s with peers := .reset }) :=
    (inputEnters_sensing _ _).trans (timeEnters_sensing _)
  obtain ⟨elapsed, trunk, peers, tank, spill, rain, drain, counter, cfg⟩ := outsideSensing_fields same
  obtain ⟨elapsed', peers', _, _, tank', spill', rain', drain', counter', cfg'⟩ :=
    trunkEnters_fields { s with peers := .reset }
  exact ⟨elapsed.trans elapsed', peers.trans peers', tank.trans tank', spill.trans spill', rain.trans rain',
    drain.trans drain', counter.trans counter', cfg.trans cfg', trunk⟩

theorem sensed_time (counts : GaugeCounts) (s : State) :
    (sensed counts s).time.t = s.time.t ∧ (sensed counts s).time.e = s.time.e ∧
    (sensed counts s).time.nextAdjust = some (s.elapsed + seconds 1) ∧
    (sensed counts s).time.clock = enteredClock s.cfg.anchor s.time.clock := by
  obtain ⟨elapsed, _, time, _, _, _, _, _, _, cfg⟩ := trunkEnters_fields { s with peers := .reset }
  have entered := timeEnters_time (trunkEnters { s with peers := .reset })
  rw [elapsed, time, cfg] at entered
  unfold sensed
  rw [inputEnters_time]
  exact entered

theorem sensed_input (counts : GaugeCounts) (s : State) :
    (∀ i : DigitalIn, (sensed counts s).input.digital.get i = (s.input.digital.get i).enters) ∧
    (sensed counts s).input.nextSample = some (s.elapsed + seconds s.cfg.samplePeriod) ∧
    (∀ g : Gauge, (sensed counts s).input.gauges.get g =
      converted (s.cfg.datum.get g) (s.cfg.span.get g) s.elapsed (countOf counts g) (s.input.gauges.get g)) ∧
    (sensed counts s).input.gateDrive = s.input.gateDrive := by
  obtain ⟨elapsed, _, _, input, _, _, _, _, _, cfg⟩ := trunkEnters_fields { s with peers := .reset }
  obtain ⟨elapsed', _, _, _, _, _, _, _, cfg'⟩ :=
    outsideSensing_fields (timeEnters_sensing (trunkEnters { s with peers := .reset }))
  have entered := inputEnters_input counts (timeEnters (trunkEnters { s with peers := .reset }))
  rw [timeEnters_input, elapsed', elapsed, input, cfg', cfg] at entered
  exact entered

/-! ### What a COMMIT carried out leaves of them -/

/-- What the blocks' entry to RUN leaves, whatever the state before it. -/
structure Sets (counts : GaugeCounts) (s t : State) : Prop where
  peers : t.peers = .reset
  rx : t.trunk.rx = .discard
  lineFree : t.trunk.lineFree = false
  presence : t.trunk.presence = some (s.elapsed + seconds s.cfg.presenceInterval)
  standing : t.trunk.standing = s.trunk.standing
  attempt : t.trunk.attempt = s.trunk.attempt
  time : t.time.t = s.time.t
  estimate : t.time.e = s.time.e
  nextAdjust : t.time.nextAdjust = some (s.elapsed + seconds 1)
  clock : t.time.clock = enteredClock s.cfg.anchor s.time.clock
  digital : ∀ i : DigitalIn, t.input.digital.get i = (s.input.digital.get i).enters
  nextSample : t.input.nextSample = some (s.elapsed + seconds s.cfg.samplePeriod)
  gauges : ∀ g : Gauge, t.input.gauges.get g =
    converted (s.cfg.datum.get g) (s.cfg.span.get g) s.elapsed (countOf counts g) (s.input.gauges.get g)
  bins : t.rain.bins = [0] ∧ t.rain.minutes = 0 ∧ t.rain.nextMinute = some (s.elapsed + 60000)
  elapsed : t.elapsed = s.elapsed
  cfg : t.cfg = s.cfg
  lamp : t.input.lamp = lampCondition t

theorem rainStarts_fields (s : State) : (rainStarts s).elapsed = s.elapsed ∧ (rainStarts s).peers = s.peers ∧
    (rainStarts s).time = s.time ∧ (rainStarts s).trunk = s.trunk ∧ (rainStarts s).cfg = s.cfg ∧
    (rainStarts s).input = s.input := ⟨rfl, rfl, rfl, rfl, rfl, rfl⟩

theorem evaluateLamp_lamp (s : State) : (evaluateLamp s).input.lamp = lampCondition (evaluateLamp s) := rfl

theorem blocksEnter_sets (counts : GaugeCounts) (s : State) : Sets counts s (blocksEnter counts s) := by
  obtain ⟨elapsed, peers, time, line, rx, cfg, gauges, digital, nextSample, bins, minutes, nextMinute⟩ :=
    outsideEntry_fields (blocksEnter_entry counts s)
  obtain ⟨elapsed₀, peers₀, time₀, trunk₀, cfg₀, input₀⟩ := rainStarts_fields (sensed counts s)
  obtain ⟨elapsed', peers', _, _, _, _, _, cfg', trunk⟩ := sensed_fields counts s
  obtain ⟨t, e, nextAdjust, clock⟩ := sensed_time counts s
  obtain ⟨contacts, sample, channels, _⟩ := sensed_input counts s
  obtain ⟨attempt, lineFree, _, _, _, standing, _, presence⟩ := lineState_fields line
  obtain ⟨rx', lineFree', presence', standing', attempt', _⟩ := trunkEnters_trunk { s with peers := .reset }
  have listened : (rainStarts (sensed counts s)).trunk = (trunkEnters { s with peers := .reset }).trunk := trunk₀.trans trunk
  rw [listened] at attempt lineFree standing presence rx
  rw [input₀] at gauges digital nextSample
  rw [time₀] at time
  refine ⟨peers.trans (peers₀.trans peers'), rx.trans rx', lineFree.trans lineFree', presence.trans presence',
    standing.trans standing', attempt.trans attempt', ?_, ?_, ?_, ?_, fun i => ?_, nextSample.trans sample, fun g => ?_,
    ⟨bins, minutes, ?_⟩, elapsed.trans (elapsed₀.trans elapsed'), cfg.trans (cfg₀.trans cfg'), ?_⟩
  · rw [time]; exact t
  · rw [time]; exact e
  · rw [time]; exact nextAdjust
  · rw [time]; exact clock
  · rw [digital]; exact contacts i
  · rw [gauges]; exact channels g
  · rw [nextMinute, ← elapsed']; rfl
  · rw [blocksEnter_eq]; exact evaluateLamp_lamp _

end Sys2Proof.Machine
end

section
/-! SUPPORT. The entries to RUN of the pump, the gate and the tank, from a CONFIG at rest (`placed`). -/

namespace Sys2Proof.Machine

/-! ### The pump -/

/-- R163 a to c. -/
theorem pumpEnters_eq (s : State) : pumpEnters s = { s with
    drain := { s.drain with
      setpoint := 0, claimTarget := nextClaimInstant s s.time.t
      pump := some (if s.asserted .pumpRunning then .stopping else .stopped)
      pumpTimer := if s.asserted .pumpRunning then some (s.elapsed + seconds s.cfg.pumpStopTimeout) else s.drain.pumpTimer
      restTimer := if s.asserted .pumpRunning then s.drain.restTimer else some (s.elapsed + seconds s.cfg.pumpRest)
      restElapsed := s.asserted .pumpRunning && s.drain.restElapsed }
    input.pumpRate := 0 * 1000 / s.cfg.pumpMax } := by
  unfold pumpEnters
  dsimp only
  cases s.asserted .pumpRunning <;> rfl

/-! ### The gate -/

/-- R88, R94: the gate state that the two limits and the first target give. -/
def gateAtEntry : Bool → Bool → GateDir → GateState
  | true, true, _ => .fault
  | true, false, .toClose => .closing
  | true, false, .toOpen => .opened
  | false, true, .toOpen => .opening
  | false, true, .toClose => .closed
  | false, false, .toOpen => .opening
  | false, false, .toClose => .closing

/-- The direction of a gate that travels. -/
def travelDir : GateState → Option GateDir
  | .opening => some .toOpen
  | .closing => some .toClose
  | _ => none

theorem gateEnters_eq (s : State) : gateEnters s = { s with
    tank := { s.tank with gate := some (gateFromLimits s), gateDir := none, gateTimer := none, retries := 0 }
    input.gateDrive := (gateEnters s).input.gateDrive
    counter := { s.counter with event := (gateEnters s).counter.event }
    port := { s.port with flags := (gateEnters s).port.flags, attention := (gateEnters s).port.attention } } := by
  unfold gateEnters
  cases limits : gateFromLimits s <;> rfl

theorem gateEnters_drive {s : State} (h : s.input.gateDrive = .off) : (gateEnters s).input.gateDrive = .off := by
  unfold gateEnters
  cases gateFromLimits s with
  | fault => rfl
  | _ => exact h

/-- R88, R100: both limits asserted are a FAULT, which raises its event. -/
theorem gateEnters_fault {s : State} (h : gateFromLimits s = .fault) : (gateEnters s).port.flags.getLsbD 10 = true := by
  have faults : gateEnters s = gateFaults s := by unfold gateEnters; rw [h]
  rw [faults]
  exact raise_flag_self .gateFault _

/-- The gate as it stands between its entry and its first target. -/
structure GateDerived (s : State) : Prop where
  gate : s.tank.gate = some (gateFromLimits s)
  target : s.tank.target = none
  dir : s.tank.gateDir = none
  timer : s.tank.gateTimer = none
  retries : s.tank.retries = 0
  drive : s.input.gateDrive = .off

/-- The gate as its first target d moves it. -/
structure GateTargeted (d : GateDir) (s t : State) : Prop where
  target : t.tank.target = some d
  gate : t.tank.gate = some (gateAtEntry (s.asserted .gateOpenLimit) (s.asserted .gateClosedLimit) d)
  dir : t.tank.gateDir = travelDir (gateAtEntry (s.asserted .gateOpenLimit) (s.asserted .gateClosedLimit) d)
  timer : t.tank.gateTimer = if t.tank.gateDir = none then none else some (s.elapsed + seconds s.cfg.gateTravel)
  retries : t.tank.retries = 0
  drive : t.input.gateDrive = driveOf t.tank.gate

theorem beginTravel_free {s : State} {d : GateDir} (h : s.asserted d.limit = false) : beginTravel d 0 s =
    commandGate d.drive { s with tank := { s.tank with
      gate := some d.moving, gateDir := some d, retries := 0
      gateTimer := some (s.elapsed + seconds s.cfg.gateTravel) } } := by
  rw [beginTravel, h]; rfl

/-- The other direction. -/
def GateDir.reverse : GateDir → GateDir
  | .toOpen => .toClose
  | .toClose => .toOpen

theorem gateActsOn_stays {s : State} {d : GateDir} (h : s.tank.gate = some .fault ∨ s.tank.gate = some d.atLimit) :
    gateActsOn d s = s := by
  cases d <;> rcases h with h | h <;> simp [gateActsOn, h, GateDir.atLimit]

theorem gateActsOn_travels {s : State} {d : GateDir}
    (h : s.tank.gate = some .stopped ∨ s.tank.gate = some d.reverse.atLimit) : gateActsOn d s = beginTravel d 0 s := by
  cases d <;> rcases h with h | h <;> simp [gateActsOn, h, GateDir.atLimit, GateDir.reverse]

/-- R94: the target set. -/
def targeted (d : GateDir) (s : State) : State := { s with tank.target := some d }

/-- R88, R94: the first target moves the gate toward the limit at which it does not stand. -/
theorem gateActsOn_targets {s : State} (h : GateDerived s) (d : GateDir) :
    GateTargeted d s (gateActsOn d (targeted d s)) := by
  obtain ⟨gate, _, dir, timer, retries, drive⟩ := h
  have stays : ∀ {u : State}, u.tank = { s.tank with target := some d } → u.input = s.input →
      travelDir (gateFromLimits s) = none → driveOf (some (gateFromLimits s)) = .off →
      gateAtEntry (s.asserted .gateOpenLimit) (s.asserted .gateClosedLimit) d = gateFromLimits s → GateTargeted d s u :=
    fun {u} tank input rest off same => by
      refine ⟨by rw [tank], by rw [tank, same]; exact gate, by rw [tank, same, rest]; exact dir, ?_,
        by rw [tank]; exact retries, by rw [input, tank]; exact drive.trans (off.symm.trans (by rw [← gate]))⟩
      rw [tank]
      exact timer.trans (if_pos dir).symm
  have travels : ∀ {u : State}, s.asserted d.limit = false → u = beginTravel d 0 (targeted d s) →
      gateAtEntry (s.asserted .gateOpenLimit) (s.asserted .gateClosedLimit) d = d.moving → GateTargeted d s u :=
    fun {u} free moves same => by
      rw [beginTravel_free (s := targeted d s) free] at moves
      rw [moves]
      refine ⟨rfl, by rw [same]; rfl, ?_, rfl, rfl, ?_⟩
      · rw [same]; cases d <;> rfl
      · cases d <;> rfl
  cases opened : s.asserted .gateOpenLimit with
  | true =>
    cases closed : s.asserted .gateClosedLimit with
    | true =>
      have limits : gateFromLimits s = .fault := by rw [gateFromLimits, opened, closed]
      rw [limits] at gate stays
      rw [opened, closed] at stays
      rw [gateActsOn_stays (s := targeted d s) (.inl gate)]
      exact stays rfl rfl rfl rfl rfl
    | false =>
      have limits : gateFromLimits s = .opened := by rw [gateFromLimits, opened, closed]
      rw [limits] at gate stays
      rw [opened, closed] at stays travels
      cases d with
      | toOpen => rw [gateActsOn_stays (s := targeted .toOpen s) (d := .toOpen) (.inr gate)]; exact stays rfl rfl rfl rfl rfl
      | toClose => exact travels closed (gateActsOn_travels (.inr gate)) rfl
  | false =>
    cases closed : s.asserted .gateClosedLimit with
    | true =>
      have limits : gateFromLimits s = .closed := by rw [gateFromLimits, opened, closed]
      rw [limits] at gate stays
      rw [opened, closed] at stays travels
      cases d with
      | toOpen => exact travels opened (gateActsOn_travels (.inr gate)) rfl
      | toClose => rw [gateActsOn_stays (s := targeted .toClose s) (d := .toClose) (.inr gate)]; exact stays rfl rfl rfl rfl rfl
    | false =>
      have limits : gateFromLimits s = .stopped := by rw [gateFromLimits, opened, closed]
      rw [limits] at gate
      rw [opened, closed] at travels
      cases d with
      | toOpen => exact travels opened (gateActsOn_travels (.inl gate)) rfl
      | toClose => exact travels closed (gateActsOn_travels (.inl gate)) rfl

/-- R94: from no target, the target derived moves the gate. -/
theorem retarget_targets {s : State} {d : GateDir} (h : GateDerived s) (derived : derivedTarget s = some d) :
    GateTargeted d s (retarget s) := by
  have acts : retarget s = gateActsOn d (targeted d s) := by
    unfold retarget
    rw [derived, h.target]
    rfl
  rw [acts]
  exact gateActsOn_targets h d

/-! ### The tank -/

/-- R82: the volume, the fill and whether the tank is assumed full, at the first sample. -/
structure Measured (s t : State) : Prop where
  usable : s.tankGauge.usable = true → t.tank.volume = interpolate s.cfg.stage s.tankGauge.level ∧
    t.tank.fill = t.tank.volume * 1000 / lastY s.cfg.stage ∧ t.tank.assumedFull = false
  failed : s.tankGauge.usable = false → t.tank.volume = lastY s.cfg.stage ∧ t.tank.fill = 1000 ∧ t.tank.assumedFull = true

theorem volumeEnters_eq (s : State) : volumeEnters s = { s with tank := { s.tank with
    volume := (volumeEnters s).tank.volume, fill := (volumeEnters s).tank.fill
    assumedFull := (volumeEnters s).tank.assumedFull } } := by
  unfold volumeEnters measureVolume
  split_ifs <;> rfl

theorem volumeEnters_measured (s : State) : Measured s (volumeEnters s) := by
  unfold volumeEnters measureVolume
  refine ⟨fun usable => ?_, fun failed => ?_⟩
  · rw [if_pos usable, if_pos usable]; exact ⟨rfl, rfl, rfl⟩
  · rw [if_neg (by rw [failed]; decide)]; exact ⟨rfl, rfl, rfl⟩

/-- R84: whether the SEWER level calls for admission. -/
def sewerAdmits (s : State) : Bool := s.sewer.usable && decide (s.cfg.admitLevel ≤ s.sewer.level)

/-- R88: DRY or HOLDING by the volume, or ADMITTING. -/
def stateAtEntry (s : State) : TankState :=
  if sewerAdmits s then .admitting else if s.tank.volume ≤ s.cfg.emptyVolume then .dry else .holding

/-- R88: the tank that `stateEnters` evaluates. -/
def undecided (s : State) : State :=
  { s with tank := { s.tank with
    state := if s.tank.volume ≤ s.cfg.emptyVolume then .dry else .holding, releaseTimer := none, openDeferred := false } }

theorem admitCondition_low {s : State} (h : s.rain.branch.code ≤ 1) : admitCondition s = sewerAdmits s := by
  unfold admitCondition sewerAdmits
  rw [decide_eq_false (by omega : ¬ 2 ≤ s.rain.branch.code), Bool.or_false]

theorem tankDecides_undecided {s : State} (branch : s.rain.branch.code ≤ 1)
    (rests : s.drain.pump ≠ some .stopped ∨ s.drain.restElapsed = false) :
    (tankDecides true false (undecided s)).getD (undecided s).tank.state = stateAtEntry s := by
  have admits : admitCondition (undecided s) = sewerAdmits s := admitCondition_low branch
  have permission : drainPermission (undecided s) = false := by
    refine decide_eq_false ?_
    rintro ⟨_, _, _, _, pump, elapsed, _⟩
    rcases rests with other | running
    · exact other pump
    · rw [show s.drain.restElapsed = true from elapsed] at running
      exact absurd running (by decide)
  have full : (undecided s).tank.volume = s.tank.volume ∧ (undecided s).cfg = s.cfg := ⟨rfl, rfl⟩
  have state : (undecided s).tank.state = if s.tank.volume ≤ s.cfg.emptyVolume then .dry else .holding := rfl
  unfold tankDecides stateAtEntry
  rw [admits, permission, full.1, full.2, state]
  by_cases empty : s.tank.volume ≤ s.cfg.emptyVolume
  · have above : ¬ s.cfg.emptyVolume + lastY s.cfg.stage / 100 < s.tank.volume := by omega
    rw [if_pos empty]
    dsimp only
    rw [decide_eq_false above]
    cases sewerAdmits s <;> rfl
  · rw [if_neg empty]
    dsimp only
    rw [if_neg empty]
    cases sewerAdmits s <;> rfl

/-- R88: the tank with its first state, before its target. -/
def decided (s : State) : State :=
  { s with tank := { s.tank with
    state := stateAtEntry s, releaseTimer := none
    openDeferred := decide (stateAtEntry s = .admitting) && pumpMayDraw s } }

theorem stateEnters_eq {s : State} (branch : s.rain.branch.code ≤ 1)
    (rests : s.drain.pump ≠ some .stopped ∨ s.drain.restElapsed = false) : stateEnters s = retarget (decided s) := by
  have enters : stateEnters s = retarget { undecided s with tank := { (undecided s).tank with
      state := (tankDecides true false (undecided s)).getD (undecided s).tank.state
      openDeferred := decide ((tankDecides true false (undecided s)).getD (undecided s).tank.state = .admitting) &&
        pumpMayDraw (undecided s) } } := rfl
  rw [enters, tankDecides_undecided branch rests]
  rfl

/-! ### The pump, the gate and the tank together -/

/-- The pump, the gate and the volume entered. -/
def derived (s : State) : State := volumeEnters (gateEnters (pumpEnters s))

/-- All but the Tank Controller, the Drain Controller, the drives, the event flags with the attention line, and the open
event. -/
def outsidePlaced (s : State) : State :=
  { s with
    tank := .reset, drain := .reset, input := { s.input with gateDrive := .off, pumpRate := 0 }
    counter := { s.counter with event := none }, port := { s.port with flags := 0, attention := false } }

theorem outsidePlaced_fields {s t : State} (h : outsidePlaced t = outsidePlaced s) :
    t.elapsed = s.elapsed ∧ t.cfg = s.cfg ∧ t.trunk = s.trunk ∧ t.peers = s.peers ∧ t.time = s.time ∧ t.spill = s.spill ∧
    t.rain = s.rain ∧ t.counter.spill = s.counter.spill ∧ t.input.gauges = s.input.gauges ∧
    t.input.digital = s.input.digital := by
  have same : ∀ {α : Type} (f : State → α), f (outsidePlaced t) = f (outsidePlaced s) := fun f => congrArg f h
  exact ⟨same State.elapsed, same State.cfg, same State.trunk, same State.peers, same State.time, same State.spill,
    same State.rain, same fun u => u.counter.spill, same fun u => u.input.gauges, same fun u => u.input.digital⟩

theorem outsideGate_placed {s t : State} (h : outsideGate t = outsideGate s) : outsidePlaced t = outsidePlaced s := by
  have e : ∀ x, outsidePlaced x = outsidePlaced (outsideGate x) := fun _ => rfl
  rw [e t, h, ← e s]

theorem derived_placed (s : State) : outsidePlaced (derived s) = outsidePlaced s := by
  unfold derived
  rw [volumeEnters_eq, gateEnters_eq, pumpEnters_eq]
  rfl

theorem derived_drain (s : State) : (derived s).drain = (pumpEnters s).drain := by
  unfold derived
  rw [volumeEnters_eq, gateEnters_eq]

theorem asserted_of_digital {s t : State} (h : t.input.digital = s.input.digital) (i : DigitalIn) :
    t.asserted i = s.asserted i := by
  unfold State.asserted; rw [h]

theorem gateFromLimits_of_digital {s t : State} (h : t.input.digital = s.input.digital) :
    gateFromLimits t = gateFromLimits s := by
  unfold gateFromLimits; rw [asserted_of_digital h, asserted_of_digital h]

theorem derived_tank (s : State) : (derived s).tank = { s.tank with
    gate := some (gateFromLimits s), gateDir := none, gateTimer := none, retries := 0
    volume := (derived s).tank.volume, fill := (derived s).tank.fill, assumedFull := (derived s).tank.assumedFull } := by
  have limits : gateFromLimits (pumpEnters s) = gateFromLimits s := gateFromLimits_of_digital (by rw [pumpEnters_eq])
  have tank : (pumpEnters s).tank = s.tank := by rw [pumpEnters_eq]
  unfold derived
  rw [volumeEnters_eq, gateEnters_eq, limits, tank]

theorem derived_measured (s : State) : Measured s (derived s) := by
  obtain ⟨usable, failed⟩ := volumeEnters_measured (gateEnters (pumpEnters s))
  have before : outsidePlaced (gateEnters (pumpEnters s)) = outsidePlaced s := by
    rw [gateEnters_eq, pumpEnters_eq]; rfl
  obtain ⟨_, cfg, _, _, _, _, _, _, gauges, _⟩ := outsidePlaced_fields before
  have gauge : (gateEnters (pumpEnters s)).tankGauge = s.tankGauge := by unfold State.tankGauge; rw [gauges]
  rw [cfg, gauge] at usable failed
  exact ⟨usable, failed⟩

theorem placed_eq {s : State} (branch : s.rain.branch.code ≤ 1) : placed s = rainStarts (retarget (decided (derived s))) := by
  have rests : (derived s).drain.pump ≠ some .stopped ∨ (derived s).drain.restElapsed = false := by
    rw [derived_drain, pumpEnters_eq]
    cases s.asserted .pumpRunning with
    | true => exact .inl fun stopped => absurd (Option.some.inj stopped) (by decide)
    | false => exact .inr rfl
  have low : (derived s).rain.branch.code ≤ 1 := by
    rw [(outsidePlaced_fields (derived_placed s)).2.2.2.2.2.2.1]
    exact branch
  rw [← stateEnters_eq low rests]
  rfl

theorem sewerAdmits_congr {s t : State} (sewer : t.sewer = s.sewer) (cfg : t.cfg = s.cfg) :
    sewerAdmits t = sewerAdmits s := by
  unfold sewerAdmits; rw [sewer, cfg]

theorem stateAtEntry_congr {s t : State} (sewer : t.sewer = s.sewer) (cfg : t.cfg = s.cfg)
    (volume : t.tank.volume = s.tank.volume) : stateAtEntry t = stateAtEntry s := by
  unfold stateAtEntry; rw [sewerAdmits_congr sewer cfg, cfg, volume]

/-- A state from which the blocks enter: no target, the drive off, and no alert. -/
structure Ready (s : State) : Prop where
  target : s.tank.target = none
  drive : s.input.gateDrive = .off
  own : s.rain.own = .clear
  branch : s.rain.branch = .clear

/-- R94: the first target. -/
def targetAtEntry (s : State) : GateDir :=
  match s.tank.mode with
  | .forceOpen => .toOpen
  | .forceClosed => .toClose
  | .auto => if s.tank.state = .admitting ∧ s.tank.openDeferred = false then .toOpen else .toClose

/-- What the entries of the pump, the gate, the tank and the bins leave. -/
structure Places (s t : State) : Prop where
  outside : outsidePlaced { t with rain := s.rain } = outsidePlaced s
  rain : t.rain.own = .clear ∧ t.rain.branch = .clear ∧ t.rain.short = 0
  drain : t.drain = (pumpEnters s).drain
  measured : Measured s t
  state : t.tank.state = stateAtEntry t
  deferred : t.tank.openDeferred = (decide (stateAtEntry t = .admitting) && s.asserted .pumpRunning)
  release : t.tank.releaseTimer = none
  mode : t.tank.mode = s.tank.mode
  gate : GateTargeted (targetAtEntry t) s t
  fault : gateFromLimits s = .fault → t.port.flags.getLsbD 10 = true

theorem derived_gate {s : State} (ready : Ready s) : GateDerived (decided (derived s)) := by
  have limits : gateFromLimits (decided (derived s)) = gateFromLimits s :=
    gateFromLimits_of_digital (outsidePlaced_fields (derived_placed s)).2.2.2.2.2.2.2.2.2
  have tank : ∀ {α : Type} (f : Tank → α), f (derived s).tank = f _ := fun f => congrArg f (derived_tank s)
  have drive : (derived s).input.gateDrive = .off := by
    have off : (pumpEnters s).input.gateDrive = .off := by rw [pumpEnters_eq]; exact ready.drive
    unfold derived
    rw [volumeEnters_eq]
    exact gateEnters_drive off
  refine ⟨?_, ?_, tank Tank.gateDir, tank Tank.gateTimer, tank Tank.retries, drive⟩
  · rw [limits]; exact tank Tank.gate
  · exact (tank Tank.target).trans ready.target

theorem derivedTarget_eq {s : State} (on : s.tank.state ≠ .off) : derivedTarget s = some (targetAtEntry s) := by
  unfold derivedTarget targetAtEntry gateDemand
  cases state : s.tank.state with
  | off => exact absurd state on
  | admitting =>
    cases s.tank.mode with
    | auto => cases s.tank.openDeferred <;> rfl
    | forceOpen => rfl
    | forceClosed => rfl
  | dry => cases s.tank.mode <;> rfl
  | holding => cases s.tank.mode <;> rfl
  | draining => cases s.tank.mode <;> rfl

theorem stateAtEntry_on (s : State) : stateAtEntry s ≠ .off := by
  unfold stateAtEntry; split_ifs <;> decide

theorem asserted_pump_draws (s : State) : pumpMayDraw (pumpEnters s) = s.asserted .pumpRunning := by
  unfold pumpMayDraw
  rw [pumpEnters_eq]
  cases s.asserted .pumpRunning <;> rfl

theorem GateTargeted.congr {d : GateDir} {s s' t t' : State} (h : GateTargeted d s t) (tank : t'.tank = t.tank)
    (drive : t'.input.gateDrive = t.input.gateDrive) (digital : s.input.digital = s'.input.digital)
    (elapsed : s.elapsed = s'.elapsed) (cfg : s.cfg = s'.cfg) : GateTargeted d s' t' := by
  obtain ⟨target, gate, dir, timer, retries, off⟩ := h
  rw [asserted_of_digital digital, asserted_of_digital digital] at gate dir
  rw [elapsed, cfg] at timer
  exact ⟨by rw [tank]; exact target, by rw [tank]; exact gate, by rw [tank]; exact dir, by rw [tank]; exact timer,
    by rw [tank]; exact retries, by rw [drive, tank]; exact off⟩

/-- The same before the bins are started. -/
structure Stands (s t : State) : Prop where
  outside : outsidePlaced t = outsidePlaced s
  drain : t.drain = (pumpEnters s).drain
  measured : Measured s t
  state : t.tank.state = stateAtEntry t
  deferred : t.tank.openDeferred = (decide (stateAtEntry t = .admitting) && s.asserted .pumpRunning)
  release : t.tank.releaseTimer = none
  mode : t.tank.mode = s.tank.mode
  gate : GateTargeted (targetAtEntry t) s t
  fault : gateFromLimits s = .fault → t.port.flags.getLsbD 10 = true

theorem derived_fault {s : State} (h : gateFromLimits s = .fault) : (derived s).port.flags.getLsbD 10 = true := by
  have limits : gateFromLimits (pumpEnters s) = .fault :=
    (gateFromLimits_of_digital (by rw [pumpEnters_eq])).trans h
  unfold derived
  rw [volumeEnters_eq]
  exact gateEnters_fault limits

theorem retarget_stands {s : State} (ready : Ready s) : Stands s (retarget (decided (derived s))) := by
  have before := derived_placed s
  obtain ⟨elapsed, cfg, _, _, _, _, _, _, _, digital⟩ := outsidePlaced_fields before
  obtain ⟨usable, failed⟩ := derived_measured s
  have draws : pumpMayDraw (derived s) = s.asserted .pumpRunning :=
    (pumpMayDraw_of_drain (by rw [derived_drain])).trans (asserted_pump_draws s)
  obtain ⟨_, drain, port, _, _, state, release, deferred, volume, fill, mode, full⟩ :=
    outsideGate_fields (retarget_gate (decided (derived s)))
  have gates := outsideGate_placed (retarget_gate (decided (derived s)))
  obtain ⟨_, cfg', _, _, _, _, _, _, gauges, _⟩ := outsidePlaced_fields gates
  have sewer : (retarget (decided (derived s))).sewer = (derived s).sewer := by unfold State.sewer; rw [gauges]; rfl
  have entry : stateAtEntry (retarget (decided (derived s))) = stateAtEntry (derived s) :=
    stateAtEntry_congr sewer cfg' volume
  have entered : (decided (derived s)).tank.state = stateAtEntry (derived s) := rfl
  have opens : (decided (derived s)).tank.openDeferred =
      (decide (stateAtEntry (derived s) = .admitting) && pumpMayDraw (derived s)) := rfl
  have target : targetAtEntry (retarget (decided (derived s))) = targetAtEntry (decided (derived s)) := by
    unfold targetAtEntry; rw [mode, state, deferred]
  have wants := derivedTarget_eq (s := decided (derived s)) (by rw [entered]; exact stateAtEntry_on _)
  refine ⟨gates.trans before, drain.trans (derived_drain s), ⟨fun u => ?_, fun f => ?_⟩, ?_, ?_, release, ?_, ?_, fun f => ?_⟩
  · rw [volume, fill, full]; exact usable u
  · rw [volume, fill, full]; exact failed f
  · rw [entry, state, entered]
  · rw [entry, deferred, opens, draws]
  · have kept : (derived s).tank.mode = s.tank.mode := by rw [derived_tank]
    exact mode.trans kept
  · rw [target]
    exact (retarget_targets (derived_gate ready) wants).congr rfl rfl digital elapsed cfg
  · rw [port]; exact derived_fault f

theorem Stands.starts {s t : State} (h : Stands s t) (ready : Ready s) : Places s (rainStarts t) := by
  have rain := (outsidePlaced_fields h.outside).2.2.2.2.2.2.1
  have same : ∀ u : State, outsidePlaced { rainStarts u with rain := s.rain } = { outsidePlaced u with rain := s.rain } :=
    fun _ => rfl
  refine ⟨?_, ⟨?_, ?_, rfl⟩, h.drain, ⟨h.measured.usable, h.measured.failed⟩, h.state, h.deferred, h.release, h.mode,
    h.gate.congr rfl rfl rfl rfl rfl, h.fault⟩
  · rw [same, h.outside]; rfl
  · exact (congrArg Rain.own rain).trans ready.own
  · exact (congrArg Rain.branch rain).trans ready.branch

/-- R88, R163: the pump, the gate and the tank as they enter RUN. -/
theorem placed_places {s : State} (ready : Ready s) : Places s (placed s) := by
  rw [placed_eq (by rw [ready.branch]; decide)]
  exact (retarget_stands ready).starts ready

end Sys2Proof.Machine
end

section
/-! SUPPORT. The notices among the blocks while they enter RUN: with the tank and the pump as they have entered, no notice moves
them (`Calm`, `Notified`). -/

namespace Sys2Proof.Machine

/-! ### The part at rest in its first state of RUN -/

/-- No peer, no rain, and a tank and a pump that no notice moves. -/
structure Still (s : State) : Prop where
  alone : s.peers.entries = []
  short : s.rain.short = 0
  thresholds : 0 < s.cfg.tWarn ∧ 0 < s.cfg.tSevere
  settled : s.tank.state = .admitting ∧ sewerAdmits s = true ∨ s.tank.state = .dry ∧ sewerAdmits s = false ∨
    s.tank.state = .holding ∧ sewerAdmits s = false ∧ s.cfg.emptyVolume < s.tank.volume
  release : s.tank.releaseTimer = none
  deferred : s.tank.openDeferred = true → pumpMayDraw s = true
  rests : s.drain.pump ≠ some .stopped ∨ s.drain.restElapsed = false

/-- The same with neither alert above WATCH. -/
structure Calm (s : State) : Prop extends Still s where
  own : s.rain.own.code ≤ 1
  branch : s.rain.branch.code ≤ 1

/-- All but what the notices of the entries may change: the queued RAIN and CLAIM, the transmitter's wait, the own claim and
the share, the alerts, the lamp, the Spill Monitor and the Spill Counter, the event flags with the attention line, and the
free values' counters. -/
def outsideNotices (s : State) : State :=
  { s with
    trunk := { s.trunk with
      slots := { s.trunk.slots with rain := .empty, claim := s.trunk.slots.claim.queue .presence }
      tx := .idle, txUntil := none }
    drain := { s.drain with claim := Drain.reset.claim, last := .reset, share := 0, shareStamp := none }
    spill := .reset, rain := { Rain.reset with short := s.rain.short }, counter := .reset
    input := { s.input with lamp := false }, free := ⟨0, 0, 0⟩
    port := { s.port with flags := 0, attention := false } }

theorem agree_of_notices {α : Type} {s t : State} (same : outsideNotices t = outsideNotices s) (f : State → α) :
    f (outsideNotices t) = f (outsideNotices s) := congrArg f same

theorem outsideNotices_fields {s t : State} (same : outsideNotices t = outsideNotices s) :
    t.cfg = s.cfg ∧ t.peers = s.peers ∧ t.trunk.standing = s.trunk.standing ∧ t.trunk.attempt = s.trunk.attempt ∧
    t.trunk.slots.presence = s.trunk.slots.presence ∧ t.trunk.slots.limit = s.trunk.slots.limit ∧ t.tank = s.tank ∧
    t.input = { s.input with lamp := t.input.lamp } ∧ t.elapsed = s.elapsed ∧ t.time = s.time ∧
    t.drain = { s.drain with
      claim := t.drain.claim, last := t.drain.last, share := t.drain.share, shareStamp := t.drain.shareStamp } := by
  have e := fun {α : Type} => agree_of_notices (α := α) same
  exact ⟨e State.cfg, e State.peers, e fun u => u.trunk.standing, e fun u => u.trunk.attempt, e fun u => u.trunk.slots.presence,
    e fun u => u.trunk.slots.limit, e State.tank, e fun u => { u.input with lamp := t.input.lamp }, e State.elapsed,
    e State.time, e fun u => { u.drain with
      claim := t.drain.claim, last := t.drain.last, share := t.drain.share, shareStamp := t.drain.shareStamp }⟩

theorem Still.of_same {s t : State} (h : Still s) (same : outsideNotices t = outsideNotices s) : Still t := by
  have e := fun {α : Type} => agree_of_notices (α := α) same
  have cfg : t.cfg = s.cfg := e State.cfg
  have tank : t.tank = s.tank := e State.tank
  have admits : sewerAdmits t = sewerAdmits s := e sewerAdmits
  have draws : pumpMayDraw t = pumpMayDraw s := e pumpMayDraw
  have pump : t.drain.pump = s.drain.pump := e fun u => u.drain.pump
  have elapsed : t.drain.restElapsed = s.drain.restElapsed := e fun u => u.drain.restElapsed
  refine ⟨?_, ?_, ?_, ?_, ?_, ?_, ?_⟩
  · exact (e fun u => u.peers.entries).trans h.alone
  · exact (e fun u => u.rain.short).trans h.short
  · rw [cfg]; exact h.thresholds
  · rw [tank, admits, cfg]; exact h.settled
  · rw [tank]; exact h.release
  · rw [tank, draws]; exact h.deferred
  · rw [pump, elapsed]; exact h.rests

/-- What a notice among the entries leaves. -/
structure Notified (s t : State) : Prop where
  same : outsideNotices t = outsideNotices s
  spill : t.spill = s.spill
  counter : t.counter.spill = s.counter.spill
  tx : s.trunk.tx ≠ .idle → t.trunk.tx = s.trunk.tx
  calm : Calm t

theorem Notified.refl {s : State} (h : Calm s) : Notified s s := ⟨rfl, rfl, rfl, fun _ => rfl, h⟩

theorem Notified.trans {s t u : State} (h : Notified s t) (k : Calm t → Notified t u) : Notified s u :=
  have k := k h.calm
  ⟨k.same.trans h.same, k.spill.trans h.spill, k.counter.trans h.counter,
    fun awake => (k.tx (by rw [h.tx awake]; exact awake)).trans (h.tx awake), k.calm⟩

/-- A notice that leaves the alerts alone. -/
theorem Calm.keeps {s t : State} (h : Calm s) (same : outsideNotices t = outsideNotices s) (spill : t.spill = s.spill)
    (counter : t.counter.spill = s.counter.spill) (own : t.rain.own = s.rain.own) (branch : t.rain.branch = s.rain.branch)
    (tx : s.trunk.tx ≠ .idle → t.trunk.tx = s.trunk.tx) : Notified s t :=
  ⟨same, spill, counter, tx, h.toStill.of_same same, by rw [own]; exact h.own, by rw [branch]; exact h.branch⟩

/-! ### What moves nothing -/

theorem Calm.admits {s : State} (h : Calm s) : admitCondition s = sewerAdmits s := admitCondition_low h.branch

theorem Calm.decides {s : State} (h : Calm s) : tankDecides false false s = none := by
  unfold tankDecides
  rw [h.admits]
  rcases h.settled with ⟨state, _⟩ | ⟨state, sewer⟩ | ⟨state, sewer, volume⟩
  · rw [state]
  · rw [state, sewer]; rfl
  · have permission : drainPermission s = false := by
      refine decide_eq_false ?_
      rintro ⟨_, _, _, _, pump, elapsed, _⟩
      rcases h.rests with other | running
      · exact other pump
      · rw [elapsed] at running; exact absurd running (by decide)
    rw [state, sewer, permission]
    dsimp only
    rw [if_neg (by decide), if_neg (not_le.mpr volume), if_neg (by decide)]

theorem Calm.evaluates {s : State} (h : Calm s) : tankEvaluate false s = s := by
  unfold tankEvaluate tankCascade
  rw [h.decides]

theorem Calm.releases {s : State} (h : Calm s) : releaseDeferred s = s :=
  if_neg fun ⟨deferred, may⟩ => may (h.deferred deferred)

theorem Calm.drainNotice {s : State} (h : Calm s) : tankTakesDrainNotice s = s := by
  unfold tankTakesDrainNotice; rw [h.releases, h.evaluates]

theorem Calm.alertNotice {s : State} (h : Calm s) : tankTakesAlert s = s := by
  have unchanged : updateRelease s = s := by
    have timer : { s with tank.releaseTimer := none } = s := by rw [← h.release]
    unfold updateRelease sewerLow
    rw [h.admits, timer]
    rcases h.settled with ⟨state, sewer⟩ | ⟨state, _⟩ | ⟨state, _⟩
    · rw [if_pos state, sewer]; rfl
    · rw [if_neg (by rw [state]; decide)]
    · rw [if_neg (by rw [state]; decide)]
  unfold tankTakesAlert
  rw [unchanged, h.evaluates]

theorem Calm.not_draining {s : State} (h : Calm s) : s.tank.state ≠ .draining := by
  rcases h.settled with ⟨state, _⟩ | ⟨state, _⟩ | ⟨state, _⟩ <;> rw [state] <;> decide

/-- A bulletin queued changes its slot, and may wake the transmitter. -/
theorem Calm.queues {s : State} (h : Calm s) {b : Body}
    (slot : outsideNotices { s with trunk.slots := s.trunk.slots.set b.kind ((s.trunk.slots.get b.kind).queue b) } =
      outsideNotices s) : Notified s (queueBody b s) := by
  have sets := queueBody_sets b s
  refine h.keeps (Eq.trans ?_ slot) ?_ ?_ ?_ ?_ fun awake => ?_
  · rw [sets]; rfl
  · rw [sets]
  · rw [sets]
  · rw [sets]
  · rw [sets]
  · have stays : queueBody b s =
        { s with trunk.slots := s.trunk.slots.set b.kind ((s.trunk.slots.get b.kind).queue b) } :=
      if_neg fun idle => awake idle.1
    rw [stays]

/-! ### The Drain Controller -/

theorem Calm.claims {s : State} (h : Calm s) : Notified s (queueClaim s) := by
  have queued : ∀ v : Slot, outsideNotices { s with trunk.slots := { s.trunk.slots with claim := v } } =
    { outsideNotices s with trunk.slots := { (outsideNotices s).trunk.slots with claim := v.queue .presence } } := fun _ => rfl
  exact h.queues ((queued _).trans (by rw [slot_queue_queue]; rfl))

theorem Calm.forms {s : State} (h : Calm s) : Notified s (formClaim s) := by
  have formed : Notified s { s with drain.claim := claimNow s } := h.keeps rfl rfl rfl rfl rfl fun _ => rfl
  unfold formClaim
  dsimp only
  split
  · exact formed.trans Calm.claims
  · exact formed

theorem Calm.shares {s : State} (h : Calm s) : Notified s (runShare s) := h.keeps rfl rfl rfl rfl rfl fun _ => rfl

theorem Calm.shareAndSetpoint {s : State} (h : Calm s) : shareAndSetpoint s = runShare s := by
  have follows : followShare (runShare s) = runShare s := if_neg fun k => h.not_draining k.1
  unfold Machine.shareAndSetpoint
  dsimp only
  rw [follows, if_pos ⟨rfl, rfl⟩]

theorem Calm.afterDrain {s t : State} (h : Calm t) : afterDrain s t = t := by
  unfold Machine.afterDrain
  rw [h.drainNotice, ite_self]

theorem Calm.shareNotice {s : State} (h : Calm s) : Notified s (drainTakesShareNotice s) := by
  unfold drainTakesShareNotice
  rw [h.shareAndSetpoint, h.shares.calm.afterDrain]
  exact h.shares

theorem Calm.reforms {s : State} (h : Calm s) : reformClaim s = runShare (formClaim s) := h.forms.calm.shareAndSetpoint

theorem Calm.claimNotice {s : State} (h : Calm s) : Notified s (drainTakesNotice s) := by
  have shared : Notified s (runShare (formClaim s)) := h.forms.trans Calm.shares
  unfold drainTakesNotice
  rw [h.reforms, shared.calm.afterDrain]
  exact shared

/-! ### The Rain Unit -/

theorem Notified.either {f g : State → State} {s : State} (h : Calm s) (hf : ∀ {u}, Calm u → Notified u (f u))
    (hg : ∀ {u}, Calm u → Notified u (g u)) : Notified s (inEitherOrder f g s) :=
  inEitherOrder_holds (Notified s) (fun _ k => (k.trans hf).trans hg) (fun _ k => (k.trans hg).trans hf)
    (h.keeps rfl rfl rfl rfl rfl fun _ => rfl)

theorem Calm.formsAlert {s : State} (h : Calm s) : Notified s (formBranchAlert s) := by
  have highest : highestAlert s = s.rain.own := by unfold highestAlert; rw [h.alone]; rfl
  by_cases same : highestAlert s = s.rain.branch
  · rw [formBranchAlert_same same]; exact .refl h
  · have forms : formBranchAlert s = inEitherOrder drainTakesShareNotice tankTakesAlert (alerted s) := if_neg same
    have alert : Notified s (alerted s) :=
      ⟨rfl, rfl, rfl, fun _ => rfl, h.toStill.of_same rfl, h.own, (congrArg AlertLevel.code highest).trans_le h.own⟩
    rw [forms]
    exact alert.trans fun k => .either k Calm.shareNotice fun k' => by rw [k'.alertNotice]; exact .refl k'

theorem Calm.queuesRain {s : State} (h : Calm s) : Notified s (queueRain s) := by
  have timed : Notified s { s with
      rain.rainRepeat := if s.rain.own = .clear then none else some (s.elapsed + minutes s.cfg.rainRepeat) } :=
    h.keeps rfl rfl rfl rfl rfl fun _ => rfl
  exact timed.trans fun k => k.queues rfl

theorem Calm.evaluatesAlert {s : State} (h : Calm s) : Notified s (evaluateAlert s) := by
  have conditions : Notified s (evaluateConditions s) := h.keeps rfl rfl rfl rfl rfl fun _ => rfl
  have low : (evaluateConditions s).rain.targetLevel.code ≤ 1 := by
    have warning : (evaluateConditions s).rain.condWarning = false :=
      decide_eq_false (by rw [h.short]; exact not_le.mpr h.thresholds.1)
    have severe : (evaluateConditions s).rain.condSevere = false :=
      decide_eq_false (by rw [h.short]; exact not_le.mpr h.thresholds.2)
    unfold Rain.targetLevel
    rw [warning, severe]
    cases (evaluateConditions s).rain.condWatch <;> decide
  unfold evaluateAlert
  dsimp only
  split
  · refine conditions.trans fun k => ?_
    have risen : Notified (evaluateConditions s) { evaluateConditions s with
        rain.own := (evaluateConditions s).rain.targetLevel
        rain.lastRise := some (evaluateConditions s).elapsed, rain.hold := none } :=
      ⟨rfl, rfl, rfl, fun _ => rfl, k.toStill.of_same rfl, low, k.branch⟩
    unfold alertRises
    exact (risen.trans Calm.queuesRain).trans Calm.formsAlert
  · refine conditions.trans fun k => ?_
    unfold updateHold
    split_ifs
    all_goals exact k.keeps rfl rfl rfl rfl rfl fun _ => rfl

/-! ### The Spill Monitor -/

/-- R122: the Spill Monitor as it enters RUN. -/
structure SpillEntered (s t : State) : Prop where
  same : outsideNotices t = outsideNotices s
  calm : Calm t
  tx : s.trunk.tx ≠ .idle → t.trunk.tx = s.trunk.tx
  float : t.spill.floatCond = s.asserted .spillFloat
  level : t.spill.levelCond = (spillMeasured s).spill.levelCond
  levelInstant : t.spill.levelInstant = some s.now
  stateInstant : t.spill.stateInstant = some s.now
  counter : t.counter.spill = t.spill.state
  state : t.spill.state = if t.spill.levelCond || s.asserted .spillFloat then .onset else .clear
  onset : t.spill.state = .onset → t.spill.onset = some s.now ∧ t.spill.provisional = 0 ∧
    t.spill.debounce = some (s.elapsed + seconds s.cfg.spillStartDebounce)

theorem counterTakesSample_provisional {n : SampleNotice} (h : n.provisional = true) (s : State) :
    outsideNotices (counterTakesSample n s) = outsideNotices s ∧ (counterTakesSample n s).spill = s.spill ∧
    (counterTakesSample n s).counter.spill = s.counter.spill ∧ (counterTakesSample n s).rain = s.rain ∧
    (counterTakesSample n s).trunk = s.trunk := by
  unfold counterTakesSample
  rw [if_pos h]
  split_ifs <;> exact ⟨rfl, rfl, rfl, rfl, rfl⟩

/-- R115: a sample without a span adds nothing. -/
theorem integrateSample_now (s : State) : (integrateSample 0 true s).spill = { s.spill with
    remainder := s.spill.remainder % 1000, provisional := s.spill.provisional + s.spill.remainder / 1000
    marks := (integrateSample 0 true s).spill.marks } := by
  have span : sampleSpan 0 s = 0 := Nat.zero_min _
  unfold integrateSample
  dsimp only
  rw [span, Nat.mul_zero, Nat.add_zero]
  rfl

theorem Calm.entersSpill {s : State} (h : Calm s) (counter : s.counter.spill = .clear) : SpillEntered s (spillEnters s) := by
  have measured : Calm (spillMeasured s) := ⟨h.toStill.of_same rfl, h.own, h.branch⟩
  rw [spillEnters_eq]
  cases cond : combined (spillMeasured s) with
  | false =>
    have clear : (spillMeasured s).spill.state = .clear := rfl
    refine ⟨rfl, measured, fun _ => rfl, rfl, rfl, rfl, rfl, counter, ?_,
      fun onset => absurd (clear.symm.trans onset) (by decide)⟩
    exact clear.trans (if_neg (by rw [← Bool.not_eq_true] at cond; exact cond)).symm
  | true =>
    have told : Calm (evaluateLamp (onsetEntered (spillMeasured s))) :=
      ⟨measured.toStill.of_same rfl, measured.own, measured.branch⟩
    have notices : Notified (evaluateLamp (onsetEntered (spillMeasured s))) (onsetNotified (spillMeasured s)) :=
      .either told Calm.claimNotice Calm.evaluatesAlert
    obtain ⟨same, spill, count, rain, trunk⟩ := counterTakesSample_provisional
      (n := sampleNotice 0 true (onsetNotified (spillMeasured s))) rfl
      (integrateSample 0 true (onsetNotified (spillMeasured s)))
    rw [integrateSample_now, onsetNotified_spill] at spill
    have integrated : ∀ u : State, outsideNotices (integrateSample 0 true u) = outsideNotices u ∧
        (integrateSample 0 true u).counter.spill = u.counter.spill ∧ (integrateSample 0 true u).rain = u.rain ∧
        (integrateSample 0 true u).trunk = u.trunk := fun _ => ⟨rfl, rfl, rfl, rfl⟩
    obtain ⟨same', count', rain', trunk'⟩ := integrated (onsetNotified (spillMeasured s))
    have all := same.trans (same'.trans notices.same)
    have alerts := rain.trans rain'
    have levels : (spillMeasured s).spill.levelCond || s.asserted .spillFloat := cond
    rw [if_pos rfl]
    refine ⟨all, ⟨told.toStill.of_same all, by rw [alerts]; exact notices.calm.own, by rw [alerts]; exact notices.calm.branch⟩,
      fun awake => ?_, ?_, ?_, ?_, ?_, ?_, ?_, fun _ => ?_⟩
    · rw [trunk, trunk']; exact notices.tx awake
    · rw [spill]; rfl
    · rw [spill]; rfl
    · rw [spill]; rfl
    · rw [spill]; rfl
    · rw [count, count', notices.counter, spill]; rfl
    · rw [spill]; exact (if_pos levels).symm
    · rw [spill]; exact ⟨rfl, (by decide : 0 + 0 / 1000 = 0), rfl⟩

end Sys2Proof.Machine
end

section
/-! SUPPORT. The entries of the Spill Monitor, the Rain Unit and the Drain Controller from a CONFIG at rest, and COMMIT
(`commitEntersRun`). -/

namespace Sys2Proof.Machine

/-! ### The state that the entry of the Spill Monitor finds -/

/-- A CONFIG at rest, the items committed. -/
structure Committed (s : State) : Prop extends Ready s where
  counter : s.counter.spill = .clear
  thresholds : 0 < s.cfg.tWarn ∧ 0 < s.cfg.tSevere
  standing : s.trunk.standing = .normal

theorem sensed_ready {s : State} (h : Ready s) (counts : GaugeCounts) : Ready (sensed counts s) := by
  obtain ⟨_, _, tank, _, rain, _⟩ := sensed_fields counts s
  exact ⟨by rw [tank]; exact h.target, (sensed_input counts s).2.2.2.trans h.drive, by rw [rain]; exact h.own,
    by rw [rain]; exact h.branch⟩

theorem stateAtEntry_settled {s : State} (h : s.tank.state = stateAtEntry s) :
    s.tank.state = .admitting ∧ sewerAdmits s = true ∨ s.tank.state = .dry ∧ sewerAdmits s = false ∨
    s.tank.state = .holding ∧ sewerAdmits s = false ∧ s.cfg.emptyVolume < s.tank.volume := by
  unfold stateAtEntry at h
  cases sewer : sewerAdmits s with
  | true =>
    rw [sewer] at h
    exact .inl ⟨h, rfl⟩
  | false =>
    rw [sewer, if_neg (by decide)] at h
    by_cases empty : s.tank.volume ≤ s.cfg.emptyVolume
    · rw [if_pos empty] at h; exact .inr (.inl ⟨h, rfl⟩)
    · rw [if_neg empty] at h; exact .inr (.inr ⟨h, rfl, not_le.mp empty⟩)

theorem Places.calm {s t : State} (h : Places s t) (peers : s.peers.entries = [])
    (thresholds : 0 < s.cfg.tWarn ∧ 0 < s.cfg.tSevere) : Calm t := by
  obtain ⟨_, cfg, _, samePeers, _⟩ := outsidePlaced_fields h.outside
  obtain ⟨own, branch, short⟩ := h.rain
  have draws : pumpMayDraw t = s.asserted .pumpRunning :=
    (pumpMayDraw_of_drain (by rw [h.drain])).trans (asserted_pump_draws s)
  refine ⟨⟨?_, short, ?_, stateAtEntry_settled h.state, h.release, fun deferred => ?_, ?_⟩, ?_, ?_⟩
  · rw [show t.peers = s.peers from samePeers]; exact peers
  · rw [show t.cfg = s.cfg from cfg]; exact thresholds
  · rw [h.deferred, Bool.and_eq_true] at deferred
    exact draws.trans deferred.2
  · rw [h.drain, pumpEnters_eq]
    cases s.asserted .pumpRunning with
    | true => exact .inl fun stopped => absurd (Option.some.inj stopped) (by decide)
    | false => exact .inr rfl
  · rw [own]; decide
  · rw [branch]; decide

/-! ### The own claim and the share -/

/-- What the entries of the Rain Unit and the Drain Controller leave beside what the notices do. -/
structure ClaimEntered (s t : State) : Prop where
  claim : t.drain.claim = claimNow t
  last : t.drain.last.k0 = t.cfg.fallbackCapacity ∧ t.drain.last.source = .fallback
  share : t.drain.share = t.drain.last.own
  slot : t.trunk.slots.claim = s.trunk.slots.claim.queue (.claim (claimBody t))

theorem claimNow_of_same {s t : State} (same : outsideNotices t = outsideNotices s) (spill : t.spill = s.spill) :
    claimNow t = claimNow s := by
  have e := fun {α : Type} => agree_of_notices (α := α) same
  have requested : requestedRate t = requestedRate s := e requestedRate
  have drawn : drawnRate t = drawnRate s := e drawnRate
  have tank : t.tank = s.tank := e State.tank
  have cfg : t.cfg = s.cfg := e State.cfg
  unfold claimNow
  rw [requested, drawn, tank, spill, cfg]

theorem queue_of_same {s t : State} (same : outsideNotices t = outsideNotices s) (b : Body) :
    t.trunk.slots.claim.queue b = s.trunk.slots.claim.queue b := by
  have slot : t.trunk.slots.claim.queue .presence = s.trunk.slots.claim.queue .presence :=
    agree_of_notices same fun u => u.trunk.slots.claim
  rw [← slot_queue_queue .presence b, slot, slot_queue_queue]

theorem Calm.entersClaim {s : State} (h : Calm s) (limit : s.peers.limit = none) (standing : s.trunk.standing = .normal) :
    Notified s (claimEnters s) ∧ ClaimEntered s (claimEnters s) := by
  have shared : Notified s (runShare (formClaim s)) := h.forms.trans Calm.shares
  have queued : Notified (runShare (formClaim s)) (claimEnters s) := by
    unfold claimEnters
    rw [h.reforms]
    exact shared.calm.claims
  have all : Notified s (claimEnters s) := shared.trans fun _ => queued
  have enters : claimEnters s = queueClaim (runShare (formClaim s)) := by unfold claimEnters; rw [h.reforms]
  have drain : (claimEnters s).drain = (runShare (formClaim s)).drain := by rw [enters]; exact queueBody_drain _ _
  obtain ⟨_, peers, stands, _⟩ := outsideNotices_fields h.forms.same
  have limit' : (formClaim s).peers.limit = none := by rw [peers]; exact limit
  have shared' : Notified (formClaim s) (runShare (formClaim s)) := h.forms.calm.shares
  have standing' : (formClaim s).trunk.standing = .normal := stands.trans standing
  have base : baseCapacity (formClaim s) = ((formClaim s).cfg.fallbackCapacity, .fallback) := by
    unfold baseCapacity; rw [limit']
  have cfg : (claimEnters s).cfg = (formClaim s).cfg :=
    (outsideNotices_fields (queued.same.trans shared'.same)).1
  have body : claimBody (claimEnters s) = claimBody (runShare (formClaim s)) := by
    unfold claimBody; rw [drain, cfg]; rfl
  refine ⟨all, ⟨?_, ⟨?_, ?_⟩, ?_, ?_⟩⟩
  · have formed : (runShare (formClaim s)).drain.claim = (formClaim s).drain.claim := rfl
    rw [claimNow_of_same all.same all.spill, drain, formed, formClaim_drain]
  · rw [drain, cfg]; exact congrArg Prod.fst base
  · rw [drain]; exact congrArg Prod.snd base
  · rw [drain]
    exact if_neg (by rw [standing']; decide)
  · have queues : (claimEnters s).trunk.slots.claim =
        (runShare (formClaim s)).trunk.slots.claim.queue (.claim (claimBody (runShare (formClaim s)))) := by
      rw [enters, queueClaim, queueBody_sets]; rfl
    rw [queues, body, queue_of_same shared.same]

/-! ### The last four entries -/

theorem SpillEntered.notified {s t u : State} (h : SpillEntered s t) (k : Notified t u) : SpillEntered s u := by
  obtain ⟨same, _, tx, float, level, levelInstant, stateInstant, counter, state, onset⟩ := h
  rw [← k.spill] at float level levelInstant stateInstant counter state onset
  exact ⟨k.same.trans same, k.calm, fun awake => (k.tx (by rw [tx awake]; exact awake)).trans (tx awake), float, level,
    levelInstant, stateInstant, k.counter.trans counter, state, onset⟩

theorem Calm.entersRain {s : State} (h : Calm s) : Notified s (rainEnters s) := h.evaluatesAlert.trans Calm.formsAlert

/-- R190 d: what the entries after the tank's leave. -/
theorem Calm.enters {s : State} (h : Calm s) (counter : s.counter.spill = .clear) (limit : s.peers.limit = none)
    (standing : s.trunk.standing = .normal) :
    SpillEntered s (evaluateLamp (tankTakesDrainNotice (claimEnters (rainEnters (spillEnters s))))) ∧
    ClaimEntered s (evaluateLamp (tankTakesDrainNotice (claimEnters (rainEnters (spillEnters s))))) := by
  have spill := h.entersSpill counter
  have rain := spill.calm.entersRain
  have before := rain.same.trans spill.same
  obtain ⟨_, peers, stands, _⟩ := outsideNotices_fields before
  rw [← peers] at limit
  obtain ⟨claims, claim, last, share, slot⟩ := rain.calm.entersClaim limit (stands.trans standing)
  have lamp : ∀ {u : State}, Calm u → Notified u (evaluateLamp u) := fun k => k.keeps rfl rfl rfl rfl rfl fun _ => rfl
  have lit : ∀ u : State, claimNow (evaluateLamp u) = claimNow u ∧ (evaluateLamp u).drain = u.drain ∧
      (evaluateLamp u).cfg = u.cfg ∧ (evaluateLamp u).trunk = u.trunk ∧ claimBody (evaluateLamp u) = claimBody u :=
    fun _ => ⟨rfl, rfl, rfl, rfl, rfl⟩
  rw [claims.calm.drainNotice]
  obtain ⟨claim', drain', cfg', trunk', body'⟩ := lit (claimEnters (rainEnters (spillEnters s)))
  refine ⟨((spill.notified rain).notified claims).notified (lamp claims.calm), ⟨?_, ?_, ?_, ?_⟩⟩
  · rw [claim', drain']; exact claim
  · rw [drain', cfg']; exact last
  · rw [drain']; exact share
  · rw [trunk', body', slot, queue_of_same before]

end Sys2Proof.Machine
end

section
/-! SUPPORT. COMMIT from a CONFIG whose items pass every check (`commitEntersRun`). -/

namespace Sys2Proof.Machine

theorem seconds_eq (n : Nat) : seconds n = 1000 * n := Nat.mul_comm n 1000

/-! ### The items in force -/

/-- R190 a: the items committed, in RUN. -/
def committing (s : State) : State :=
  { s with port := { s.port with
    run := .run, committed := itemsToCommit s.port.loaded s.port.items, lastRefusal := none } }

/-- What a COMMIT that passes its checks answers and does. -/
theorem reqCommit_enters {s : State} (counts : GaugeCounts) (config : s.inRun = false) (noTest : s.port.loopTest = none)
    (passes : commitRefusal s.port.loaded s.port.items = none) :
    reqCommit counts s = ⟨.done, [], blocksEnter counts (committing s)⟩ := by
  unfold reqCommit inConfigOnly
  rw [config, if_neg (by decide)]
  dsimp only
  rw [noTest, passes]
  rfl

theorem rest_committed {s : State} (rest : AtRest s) (watch : s.port.items.tWatch < s.port.items.tWarn)
    (warn : s.port.items.tWarn < s.port.items.tSevere) : Committed (committing s) := by
  obtain ⟨trunk, _, _, _, input, tank, _, rain, _, counter⟩ := rest
  obtain ⟨_, _, _, standing, _⟩ := trunk
  obtain ⟨_, _, _, _, _, _, drive, _⟩ := input
  obtain ⟨_, _, own, _, _, branch⟩ := rain
  have thresholds : 0 < s.port.items.tWarn ∧ 0 < s.port.items.tSevere := by omega
  exact ⟨⟨tank.2.1, drive, own, branch⟩, counter.1, thresholds, standing⟩

/-! ### The entries from a CONFIG at rest -/

/-- What a COMMIT from a CONFIG at rest leaves of the blocks, told of the state u that the pump's entry finds and of the state
q that the Spill Monitor's entry finds. -/
structure RestEntered (s u q t : State) : Prop where
  places : Places u q
  spill : SpillEntered q t
  claim : ClaimEntered q t
  flags : ∀ i, q.port.flags.getLsbD i = true → t.port.flags.getLsbD i = true
  drain : u.drain = s.drain
  mode : u.tank.mode = s.tank.mode
  time : u.time.t = s.time.t
  trunk : u.trunk = (trunkEnters { s with peers := .reset }).trunk
  contacts : ∀ i : DigitalIn, u.asserted i = (s.input.digital.get i).raw

theorem enters_asserted {s t : State} {i : DigitalIn} (h : t.input.digital.get i = (s.input.digital.get i).enters) :
    t.asserted i = (s.input.digital.get i).raw := by
  unfold State.asserted
  rw [h]
  cases raw : (s.input.digital.get i).raw <;> simp [DigitalInput.enters, raw]

theorem blocksEnter_rest (counts : GaugeCounts) {s : State} (h : Committed s) :
    RestEntered s (sensed counts s) (placed (sensed counts s)) (blocksEnter counts s) := by
  obtain ⟨_, peers, tank, _, _, drain, count, cfg, trunk⟩ := sensed_fields counts s
  have places := placed_places (sensed_ready h.toReady counts)
  obtain ⟨_, _, sameTrunk, samePeers, _, _, _, counter, _⟩ := outsidePlaced_fields places.outside
  have standing : (sensed counts s).trunk.standing = .normal := by
    rw [trunk]; exact (trunkEnters_trunk { s with peers := .reset }).2.2.2.1.trans h.standing
  have calm := places.calm (by rw [peers]; rfl) (by rw [cfg]; exact h.thresholds)
  obtain ⟨spill, claim⟩ := calm.enters (counter.trans (by rw [count]; exact h.counter))
    ((congrArg Peers.limit samePeers).trans (by rw [peers]; rfl)) ((congrArg Trunk.standing sameTrunk).trans standing)
  have flags : Evolves (placed (sensed counts s)) (blocksEnter counts s) :=
    (spillEnters_evolves _).trans ((rainEnters_evolves _).trans ((claimEnters_evolves _).trans
      ((Evolves.of_tank (tankTakesDrainNotice_tank _)).trans (evaluateLamp_evolves _))))
  exact ⟨places, spill, claim, flags.flags, drain, by rw [tank], (sensed_time counts s).1, trunk,
    fun i => enters_asserted ((sensed_input counts s).1 i)⟩

/-- The values that `RestEntered` ties to the state s of the CONFIG. -/
structure RestValues (s t : State) : Prop where
  pump : t.drain.pump = some (if s.input.digital.pumpRunning.raw then .stopping else .stopped)
  setpoint : t.drain.setpoint = 0
  pumpTimer : t.drain.pumpTimer = if s.input.digital.pumpRunning.raw then
    some (s.elapsed + seconds s.cfg.pumpStopTimeout) else s.drain.pumpTimer
  restTimer : t.drain.restTimer = if s.input.digital.pumpRunning.raw then s.drain.restTimer else
    some (s.elapsed + seconds s.cfg.pumpRest)
  restElapsed : t.drain.restElapsed = (s.input.digital.pumpRunning.raw && s.drain.restElapsed)
  claimTarget : t.drain.claimTarget = nextClaimInstant t s.time.t
  lastNonzero : t.drain.lastNonzero = s.drain.lastNonzero
  mode : t.drain.mode = s.drain.mode

theorem nextClaimInstant_congr {s t : State} (cfg : t.cfg = s.cfg) (x : Nat) : nextClaimInstant t x = nextClaimInstant s x := by
  unfold nextClaimInstant State.ownAddress
  rw [cfg]

theorem RestEntered.values {s u q t : State} (h : RestEntered s u q t) (cfg : u.cfg = s.cfg) (elapsed : u.elapsed = s.elapsed) :
    RestValues s t := by
  obtain ⟨cfg', _, _, _, _, _, _, _, _, _, drain⟩ := outsideNotices_fields h.spill.same
  obtain ⟨_, cfg'', _⟩ := outsidePlaced_fields h.places.outside
  have pumping : u.asserted .pumpRunning = s.input.digital.pumpRunning.raw := h.contacts .pumpRunning
  have target : nextClaimInstant t s.time.t = nextClaimInstant u u.time.t := by
    rw [h.time]
    exact nextClaimInstant_congr (cfg'.trans cfg'') _
  have entered := h.places.drain
  rw [pumpEnters_eq, pumping, h.drain, cfg, elapsed, ← target] at entered
  constructor
  all_goals rw [drain, entered]

/-- R139: the own claim as it enters RUN. -/
theorem RestEntered.ownClaim {s u q t : State} (h : RestEntered s u q t) (v : RestValues s t) (cfg : t.cfg = s.cfg) :
    t.drain.claim = { fill := t.tank.fill, spilling := false, weight := s.cfg.priorityWeight
                      requested := if t.tank.state = .holding ∧ s.drain.mode = .auto ∧
                        t.input.gauges.tank.status ≠ .failed then s.cfg.pumpMax else 0
                      drawn := if s.input.digital.pumpRunning.raw then s.drain.lastNonzero.getD s.cfg.pumpMax else 0 } := by
  have asks : (t.tank.state = .holding ∨ t.tank.state = .draining) ∧ t.drain.mode = .auto ∧ t.drain.pump ≠ some .fault ∧
      t.tankGauge.status ≠ .failed ↔
      t.tank.state = .holding ∧ s.drain.mode = .auto ∧ t.input.gauges.tank.status ≠ .failed := by
    have sound : t.drain.pump ≠ some .fault := by
      rw [v.pump]
      intro fault
      split at fault <;> exact absurd (Option.some.inj fault) (by decide)
    have still := h.spill.calm.not_draining
    rw [v.mode]
    unfold State.tankGauge
    tauto
  have draws : drawnRate t = if s.input.digital.pumpRunning.raw then s.drain.lastNonzero.getD s.cfg.pumpMax else 0 := by
    unfold drawnRate lastRate
    rw [v.pump, v.lastNonzero, cfg]
    cases s.input.digital.pumpRunning.raw <;> rfl
  have dry : t.spill.state.inSpill = false := by
    rw [h.spill.state]
    split <;> rfl
  rw [h.claim.claim]
  unfold claimNow requestedRate
  rw [draws, dry, cfg, if_congr asks rfl rfl]

/-- R88: the tank's state, its open command deferred while the pump runs, and its target. -/
structure TankDecided (admits pumping : Bool) (m : GateMode) (t : State) : Prop where
  state : t.tank.state = if admits then .admitting else if t.tank.volume ≤ t.cfg.emptyVolume then .dry else .holding
  deferred : t.tank.openDeferred = (admits && pumping)
  target : t.tank.target = match m with
    | .forceOpen => some .toOpen
    | .forceClosed => some .toClose
    | .auto => if admits = true ∧ pumping = false then some .toOpen else some .toClose
  mode : t.tank.mode = m
  release : t.tank.releaseTimer = none

theorem usable_iff {g : GaugeChannel} : g.usable = true ↔ g.status ≠ .failed := by simp [GaugeChannel.usable]

theorem sewerAdmits_iff {s : State} :
    sewerAdmits s = true ↔ s.input.gauges.sewer.status ≠ .failed ∧ s.cfg.admitLevel ≤ s.input.gauges.sewer.level := by
  rw [sewerAdmits, Bool.and_eq_true, usable_iff]
  exact and_congr_right fun _ => decide_eq_true_iff

theorem RestEntered.decided {s u q t : State} (h : RestEntered s u q t) :
    TankDecided (sewerAdmits t) s.input.digital.pumpRunning.raw s.tank.mode t := by
  obtain ⟨cfg, _, _, _, _, _, tank, input, _⟩ := outsideNotices_fields h.spill.same
  have pumping : u.asserted .pumpRunning = s.input.digital.pumpRunning.raw := h.contacts .pumpRunning
  have sewer : t.sewer = q.sewer := by unfold State.sewer; rw [input]
  have entry : stateAtEntry t = stateAtEntry q := stateAtEntry_congr sewer cfg (by rw [tank])
  have state : t.tank.state = stateAtEntry t := by rw [tank, entry]; exact h.places.state
  have deferred : t.tank.openDeferred = (decide (stateAtEntry t = .admitting) && s.input.digital.pumpRunning.raw) := by
    rw [tank, entry, ← pumping]; exact h.places.deferred
  have admitting : decide (stateAtEntry t = .admitting) = sewerAdmits t := by
    unfold stateAtEntry
    cases sewerAdmits t with
    | true => rfl
    | false => rw [if_neg (by decide)]; split <;> rfl
  have mode : t.tank.mode = s.tank.mode := by rw [tank]; exact h.places.mode.trans h.mode
  rw [admitting] at deferred
  refine ⟨state, deferred, ?_, mode, by rw [tank]; exact h.places.release⟩
  have opens : (t.tank.state = .admitting ∧ t.tank.openDeferred = false) ↔
      sewerAdmits t = true ∧ s.input.digital.pumpRunning.raw = false := by
    rw [deferred, state, ← admitting, decide_eq_true_eq]
    constructor
    · rintro ⟨a, b⟩; rw [decide_eq_true a] at b; exact ⟨a, b⟩
    · rintro ⟨a, b⟩; rw [decide_eq_true a]; exact ⟨a, b⟩
  have target : t.tank.target = some (targetAtEntry t) := by
    unfold targetAtEntry
    rw [tank]
    exact h.places.gate.target
  rw [target]
  unfold targetAtEntry
  rw [mode, if_congr opens rfl rfl]
  cases s.tank.mode with
  | auto => exact apply_ite some _ _ _
  | forceOpen => rfl
  | forceClosed => rfl

/-- R88, R94: the gate in the terms of its two limits. -/
structure GateEntered (opened closed : Bool) (x : Nat) (t : State) : Prop where
  gate : t.tank.gate = match opened, closed, t.tank.target with
    | true, true, _ => some .fault
    | true, false, some .toClose => some .closing
    | true, false, _ => some .opened
    | false, true, some .toOpen => some .opening
    | false, true, _ => some .closed
    | false, false, some .toOpen => some .opening
    | false, false, _ => some .closing
  dir : t.tank.gateDir = match t.tank.gate with
    | some .opening => some .toOpen
    | some .closing => some .toClose
    | _ => none
  timer : t.tank.gateTimer = if t.tank.gateDir = none then none else some x
  retries : t.tank.retries = 0
  drive : t.input.gateDrive = driveOf t.tank.gate
  fault : t.tank.gate = some .fault → opened = true ∧ closed = true

theorem gateAtEntry_fault {opened closed : Bool} {d : GateDir} :
    gateAtEntry opened closed d = .fault → opened = true ∧ closed = true := by
  cases opened <;> cases closed <;> cases d <;> decide

theorem GateTargeted.entered {d : GateDir} {s t : State} (h : GateTargeted d s t) :
    GateEntered (s.asserted .gateOpenLimit) (s.asserted .gateClosedLimit) (s.elapsed + seconds s.cfg.gateTravel) t := by
  obtain ⟨target, gate, dir, timer, retries, drive⟩ := h
  refine ⟨?_, ?_, timer, retries, drive, fun fault => ?_⟩
  · rw [gate, target]
    cases s.asserted .gateOpenLimit <;> cases s.asserted .gateClosedLimit <;> cases d <;> rfl
  · rw [dir, gate]
    cases gateAtEntry (s.asserted .gateOpenLimit) (s.asserted .gateClosedLimit) d <;> rfl
  · rw [gate] at fault
    exact gateAtEntry_fault (Option.some.inj fault)

theorem RestEntered.gate {s u q t : State} (h : RestEntered s u q t) (cfg : u.cfg = s.cfg) (elapsed : u.elapsed = s.elapsed) :
    GateEntered s.input.digital.gateOpenLimit.raw s.input.digital.gateClosedLimit.raw
      (s.elapsed + seconds s.cfg.gateTravel) t ∧ (t.tank.gate = some .fault → t.port.flags.getLsbD 10 = true) := by
  obtain ⟨_, _, _, _, _, _, tank, input, _⟩ := outsideNotices_fields h.spill.same
  have entered := (h.places.gate.congr tank (by rw [input]) rfl rfl rfl).entered
  have opened : u.asserted .gateOpenLimit = s.input.digital.gateOpenLimit.raw := h.contacts .gateOpenLimit
  have closed : u.asserted .gateClosedLimit = s.input.digital.gateClosedLimit.raw := h.contacts .gateClosedLimit
  refine ⟨by rw [← opened, ← closed, ← cfg, ← elapsed]; exact entered, fun fault => h.flags 10 (h.places.fault ?_)⟩
  obtain ⟨both, limits⟩ := entered.fault fault
  rw [gateFromLimits, both, limits]

/-- R82: the volume as the TANK channel stands. -/
theorem RestEntered.measured {s u q t : State} (h : RestEntered s u q t) : Measured t t := by
  obtain ⟨cfg, _, _, _, _, _, tank, input, _⟩ := outsideNotices_fields h.spill.same
  obtain ⟨_, cfg', _, _, _, _, _, _, gauges, _⟩ := outsidePlaced_fields h.places.outside
  have gauge : t.tankGauge = u.tankGauge := by
    unfold State.tankGauge
    rw [input]
    exact congrArg PerGauge.tank gauges
  have same : t.cfg = u.cfg := cfg.trans cfg'
  obtain ⟨usable, failed⟩ := h.places.measured
  rw [← gauge, ← same, ← tank] at usable failed
  exact ⟨usable, failed⟩

/-- R122: the Spill Monitor in the terms of the CONFIG. -/
structure SpillAtEntry (f : Bool) (now : Stamped) (t : State) : Prop where
  float : t.spill.floatCond = f
  levelInstant : t.spill.levelInstant = some now
  stateInstant : t.spill.stateInstant = some now
  counter : t.counter.spill = t.spill.state
  state : t.spill.state = if t.spill.levelCond || f then .onset else .clear
  level : t.spill.levelCond = true ↔ t.input.gauges.overflow.status ≠ .failed ∧
    t.cfg.crest + t.cfg.spillDeadband ≤ t.input.gauges.overflow.level
  onset : t.spill.state = .onset → t.spill.onset = some now ∧ t.spill.provisional = 0 ∧
    t.spill.debounce = some (now.instant + seconds t.cfg.spillStartDebounce)

theorem spillMeasured_level (s : State) : (spillMeasured s).spill.levelCond = true ↔
    s.overflow.status ≠ .failed ∧ s.cfg.crest + s.cfg.spillDeadband ≤ s.overflow.level := by
  have level : (spillMeasured s).spill.levelCond =
      (s.overflow.usable && decide ((s.cfg.spillDeadband : Int) ≤ (s.overflow.level : Int) - s.cfg.crest)) := rfl
  rw [level, Bool.and_eq_true, usable_iff, decide_eq_true_iff]
  refine and_congr_right fun _ => ?_
  omega

theorem RestEntered.monitor {s u q t : State} (h : RestEntered s u q t) (elapsed : u.elapsed = s.elapsed) :
    SpillAtEntry s.input.digital.spillFloat.raw s.now t := by
  obtain ⟨cfg, _, _, _, _, _, _, input, _⟩ := outsideNotices_fields h.spill.same
  obtain ⟨elapsed', _, _, _, time, _, _, _, _, digital⟩ := outsidePlaced_fields h.places.outside
  have float : q.asserted .spillFloat = s.input.digital.spillFloat.raw :=
    (asserted_of_digital digital .spillFloat).trans (h.contacts .spillFloat)
  have now : q.now = s.now := by
    have instant : q.elapsed = s.elapsed := elapsed'.trans elapsed
    have stamp : q.time.t = s.time.t := (congrArg TimeUnit.t time).trans h.time
    unfold State.now
    rw [instant, stamp]
  have level := spillMeasured_level q
  have overflow : q.overflow = t.input.gauges.overflow := by unfold State.overflow; rw [input]
  obtain ⟨_, _, _, floats, levels, levelInstant, stateInstant, counter, state, onset⟩ := h.spill
  rw [← levels, overflow, ← cfg] at level
  rw [float] at floats state
  rw [now] at levelInstant stateInstant onset
  rw [show q.elapsed = s.now.instant from elapsed'.trans elapsed, ← cfg] at onset
  exact ⟨floats, levelInstant, stateInstant, counter, state, level, onset⟩

/-- R25, R163 f: with empty slots a PRESENCE and a CLAIM are queued, and the transmitter waits for the line unless it is in
SEND. -/
theorem RestEntered.queued {s u q t : State} (h : RestEntered s u q t)
    (empty : s.trunk.slots = ⟨.empty, .empty, .empty, .empty⟩) (waits : s.trunk.tx = .idle ∨ s.trunk.tx = .send)
    (standing : s.trunk.standing = .normal) :
    t.trunk.slots.presence = .waiting .presence 0 ∧ t.trunk.slots.limit = .empty ∧
    t.trunk.slots.claim = .waiting (.claim (claimBody t)) 0 ∧
    t.trunk.tx = if s.trunk.tx = .send then .send else .waitLine := by
  obtain ⟨_, _, _, _, presence, limit, _⟩ := outsideNotices_fields h.spill.same
  obtain ⟨_, _, trunk, _⟩ := outsidePlaced_fields h.places.outside
  have entered : q.trunk = (trunkEnters { s with peers := .reset }).trunk := Eq.trans trunk h.trunk
  obtain ⟨_, _, _, _, _, slots⟩ := trunkEnters_trunk { s with peers := .reset }
  have filled : q.trunk.slots = ⟨.empty, .empty, .empty, .waiting .presence 0⟩ := by
    rw [entered, slots, empty]; rfl
  have tx : q.trunk.tx = if s.trunk.tx = .send then .send else .waitLine := by
    rw [entered]
    refine trunkEnters_tx (s := { s with peers := .reset }) waits standing fun b n x held => ?_
    rw [show s.trunk.slots.presence = .empty by rw [empty]] at held
    exact absurd held (by simp)
  refine ⟨by rw [presence, filled], by rw [limit, filled], by rw [h.claim.slot, filled]; rfl, ?_⟩
  rw [← tx]
  refine h.spill.tx ?_
  rw [tx]
  split <;> decide

/-! ### COMMIT -/

/-- R76, in the terms of the spill state. -/
theorem lampCondition_eq (s : State) : lampCondition s =
    decide (2 ≤ s.rain.branch.code ∨ s.spill.state = .spilling ∨ s.spill.state = .subsiding) := by
  unfold lampCondition
  rw [Bool.eq_iff_iff, Bool.or_eq_true, decide_eq_true_eq, decide_eq_true_eq]
  refine or_congr_right ?_
  cases s.spill.state <;> decide

/-- Settles O19: the blocks enter RUN one after another, each from what the entries before it leave; what the later ones leave
alone (`Sets`) holds whatever the state, and from a CONFIG at rest no notice moves the tank, the gate or the pump (`Calm`). -/
theorem commitEntersRun : Obligations.CommitEntersRun := by
  intro s counts a config noTest checks address
  obtain ⟨passes, watch, warn⟩ := commitRefusal_none address checks
  have done : exec (.commit counts) s = .next (answer 2 (reqCommit counts s)) := rfl
  rw [reqCommit_enters counts config noTest passes, answer_holding] at done
  have cfg : (committing s).cfg = { s.port.items with
      accept := acceptAtCommit s a, silentAllowance := min s.port.items.silentAllowance s.port.items.pumpMax } := by
    rw [← acceptInForce_eq address]; rfl
  have sets := blocksEnter_sets counts (committing s)
  obtain ⟨_, _, port⟩ := outsideBlocks_fields (blocksEnter_blocks counts (committing s))
  have rested : ConfigAtRest s → RestEntered (committing s) (sensed counts (committing s))
      (placed (sensed counts (committing s))) (blocksEnter counts (committing s)) :=
    fun rest => blocksEnter_rest counts (rest_committed (rest config) watch warn)
  refine ⟨_, done, ?_⟩
  generalize blocksEnter counts (committing s) = t at *
  dsimp only [holding]
  refine ⟨rfl, ?_, ?_, sets.cfg.trans cfg, ?_, ?_, ?_, ?_, sets.rx, sets.lineFree, ?_, sets.time, sets.estimate, ?_, ?_,
    sets.digital, ?_, ?_, ?_, ?_, ?_, ?_, ?_, fun rest => ⟨?_, fun empty => ?_⟩⟩
  · rw [port]; rfl
  · rw [port]; rfl
  · rw [port]; rfl
  · rw [port]; rfl
  · rw [sets.peers]; rfl
  · rw [sets.peers]; rfl
  · rw [sets.presence, seconds_eq]; rfl
  · exact sets.nextAdjust
  · exact sets.clock
  · rw [sets.nextSample, seconds_eq]; rfl
  · exact (sets.lamp.trans (lampCondition_eq t)).trans (decide_eq_decide.mpr Iff.rfl)
  · exact sets.bins.1
  · exact sets.bins.2.1
  · exact sets.bins.2.2
  · exact sets.elapsed
  · exact sets.gauges
  · rintro _ _ _ _ admits rfl rfl rfl rfl calls
    have h := rested rest
    obtain ⟨elapsed', _, _, _, _, _, _, cfg', _⟩ := sensed_fields counts (committing s)
    have v := h.values cfg' elapsed'
    have claim := h.ownClaim v sets.cfg
    have admitting : sewerAdmits t = admits := by
      rw [Bool.eq_iff_iff, sewerAdmits_iff, sets.cfg]; exact calls.symm
    have tank := h.decided
    rw [admitting] at tank
    obtain ⟨gate, fault⟩ := h.gate cfg' elapsed'
    obtain ⟨usable, failed⟩ := h.measured
    have spill := h.monitor elapsed'
    obtain ⟨_, _, _, _, _, _, _, _, drain, _⟩ := rest config
    obtain ⟨_, _, _, _, pumpTimer, restTimer, _⟩ := drain
    rw [sets.cfg] at usable failed
    refine ⟨fun good => usable (usable_iff.mpr good), fun bad => failed ?_, ?_, tank.deferred, tank.release, tank.mode,
      tank.target, ?_, fault, gate.retries, ?_, ?_, gate.drive, spill.float, spill.levelInstant, spill.stateInstant,
      spill.counter, spill.state, ?_, ?_, v.pump.trans (apply_ite some _ _ _), v.setpoint, ?_, ?_, v.restElapsed, v.claimTarget,
      ?_, ?_, h.claim.last.2, h.claim.share⟩
    · exact Bool.eq_false_iff.mpr fun good => usable_iff.mp good bad
    · rw [tank.state, sets.cfg]; rfl
    · exact gate.gate
    · exact gate.dir
    · rw [gate.timer, seconds_eq]; rfl
    · rw [spill.level, sets.cfg]; rfl
    · intro onset
      rw [← seconds_eq]
      have entered := spill.onset onset
      rw [sets.cfg] at entered
      exact entered
    · rw [v.pumpTimer, ← seconds_eq, ← pumpTimer]; rfl
    · rw [v.restTimer, ← seconds_eq, ← restTimer]; rfl
    · rw [claim]; rfl
    · rw [h.claim.last.1, sets.cfg]; rfl
  · have h := rested rest
    obtain ⟨line, _⟩ := rest config
    obtain ⟨_, waits, _, standing, _⟩ := line
    obtain ⟨presence, limit, claim, tx⟩ := h.queued empty waits standing
    exact ⟨presence, limit, claim, sets.standing.trans standing, tx, sets.attempt⟩

end Sys2Proof.Machine
end

section
/-! SUPPORT. Trunk time: the tick, the slew and the settle check (O5), a step of trunk time (`TimeStepped`; O6), the three
outcomes of a time sample (O34), the lapses of R51 and R39 (O7), and the Time Unit, the Input Unit and the Spill Monitor after a
full reset (O3). -/

namespace Sys2Proof.Machine

/-! ### A full reset -/

/-- Settles O3: a full reset is the reset state with the contacts and the queue kept, so each value is read off, and the tick
that follows is that of a clock at 0. -/
theorem fullResetTimeInputSpill : Obligations.FullResetTimeInputSpill := by
  intro s
  have gauges : ∀ g : Gauge, (resetPart s).input.gauges.get g =
      { level := 0, status := .failed, run := 0, proven := false, raw := 0, previous := none } := by
    intro g; cases g <;> rfl
  have inputs : ∀ i : DigitalIn, ((resetPart s).input.digital.get i).recognised = none ∧
      ((resetPart s).input.digital.get i).candidate = none ∧
      ((resetPart s).input.digital.get i).rising = ⟨false, false, 0⟩ ∧
      ((resetPart s).input.digital.get i).falling = ⟨false, false, 0⟩ ∧
      (resetPart s).port.items.capture.get i = ⟨.continuous, .continuous⟩ ∧
      (resetPart s).port.items.filter.get i = 100 := by
    intro i; cases i <;> exact ⟨rfl, rfl, rfl, rfl, rfl, rfl⟩
  have ticks : completes .trunkTimeTick (resetPart s) fun u => u.time.t = 1 := ⟨_, rfl, rfl⟩
  exact ⟨resetPart s, rfl, rfl, rfl, rfl, rfl, rfl, rfl, rfl, rfl, gauges, inputs, rfl, rfl, rfl, rfl, rfl, rfl, rfl, rfl, rfl,
    rfl, rfl, rfl, rfl, rfl, rfl, rfl, rfl, rfl, rfl, rfl, rfl, ticks⟩

/-! ### The lapses of R51 and R39 -/

theorem forgettable_iff {s : State} {e : PeerEntry} : forgettable s e = true ↔
    e.claim = none ∧ e.rain = none ∧ e.accepted + 1000 * s.cfg.forgetTime ≤ s.elapsed := by
  simp [forgettable, PeerEntry.bare, seconds_eq, and_assoc]

/-- R39: the entries that are left. -/
theorem mem_forgetEntry (a : Addr) (s : State) (e : PeerEntry) : e ∈ (forgetEntry a s).peers.entries ↔
    e ∈ s.peers.entries ∧ ¬ (e.address = a ∧ e.claim = none ∧ e.rain = none ∧
      e.accepted + 1000 * s.cfg.forgetTime ≤ s.elapsed) := by
  rw [← forgettable_iff]
  exact List.mem_filter.trans (and_congr_right fun _ => by simp [imp_iff_not_or])

/-- Settles O7: the lapse is due at 60 s, and forgetting filters the entries. -/
theorem preferenceLapsesAndEntriesAreForgotten : Obligations.PreferenceLapsesAndEntriesAreForgotten := by
  refine ⟨fun s p preference due => ⟨_, rfl, ?_⟩, fun s a => ⟨forgetEntry a s, rfl, ?_⟩⟩
  · rw [if_pos (by rw [preference]; exact due_some due)]
  · exact ⟨mem_forgetEntry a s, List.filter_sublist, rfl⟩

/-! ### The slew and the settle check -/

/-- R56: an adjust touches trunk time, the estimate and the mark of a withheld increment. -/
theorem slew_sets (s : State) : slew s = { s with time := { s.time with
    t := (slew s).time.t, e := (slew s).time.e, withheld := (slew s).time.withheld } } := by
  unfold slew; split_ifs <;> rfl

/-- R56: the estimate taken 16 nearer to 0, an increment added or withheld for it. -/
theorem slew_spec (s : State) :
    (16 ≤ s.time.e → (slew s).time.t = advanceT s.time.t 1 ∧ (slew s).time.e = s.time.e - 16 ∧
      (slew s).time.withheld = s.time.withheld) ∧
    (s.time.e ≤ -16 → (slew s).time.t = s.time.t ∧ (slew s).time.e = s.time.e + 16 ∧ (slew s).time.withheld = true) ∧
    (-16 < s.time.e ∧ s.time.e < 16 → slew s = s) := by
  unfold slew
  refine ⟨fun ahead => ?_, fun behind => ?_, fun ⟨low, high⟩ => ?_⟩
  · rw [if_pos ahead]; exact ⟨rfl, rfl, rfl⟩
  · rw [if_neg (by omega), if_pos behind]; exact ⟨rfl, rfl, rfl⟩
  · rw [if_neg (by omega), if_neg (by omega)]

/-- R57: the settle check touches the clock state, the settle run and CLOCK_CHANGE. -/
theorem settleCheck_sets (s : State) : settleCheck s = { s with
    port := (settleCheck s).port
    time := { s.time with clock := (settleCheck s).time.clock, settleRun := (settleCheck s).time.settleRun } } := by
  unfold settleCheck setClock
  split_ifs <;> rfl

/-- R57: the settle run in FOLLOWING, and its tenth rise. -/
theorem settleCheck_spec (s : State) :
    (s.time.clock = .following → s.time.e.natAbs < 32 → s.time.settleRun + 1 = 10 →
      (settleCheck s).time.clock = .settled ∧ (settleCheck s).time.settleRun = 0 ∧
      (settleCheck s).port = s.port.withEvents (s.port.flags ||| BitVec.twoPow 15 7) s.port.mask) ∧
    (s.time.clock = .following → s.time.e.natAbs < 32 → s.time.settleRun + 1 ≠ 10 →
      (settleCheck s).time.clock = .following ∧ (settleCheck s).time.settleRun = s.time.settleRun + 1 ∧
      (settleCheck s).port = s.port) ∧
    (s.time.clock = .following → 32 ≤ s.time.e.natAbs →
      (settleCheck s).time.clock = .following ∧ (settleCheck s).time.settleRun = 0 ∧ (settleCheck s).port = s.port) ∧
    (s.time.clock ≠ .following → settleCheck s = s) := by
  unfold settleCheck
  refine ⟨fun follows small tenth => ?_, fun follows small run => ?_, fun follows large => ?_, fun other => if_neg other⟩
  · rw [if_pos follows, if_pos small, if_pos tenth, setClock, if_neg (by rw [follows]; decide)]
    exact ⟨rfl, rfl, rfl⟩
  · rw [if_pos follows, if_pos small, if_neg run]
    exact ⟨follows, rfl, rfl⟩
  · rw [if_pos follows, if_neg (by omega)]
    exact ⟨follows, rfl, rfl⟩

/-- R56: a due adjust has moved the instant of the next one by a second. -/
def adjusting (x : Nat) (s : State) : State := { s with time.nextAdjust := some (x + 1000) }

theorem makeAdjust_eq {s : State} {x : Nat} (h : s.time.nextAdjust = some x) :
    makeAdjust s = settleCheck (slew (adjusting x s)) := by
  unfold makeAdjust adjusting; rw [h]; rfl

/-- Settles O5: the slew (`slew_spec`) sets T and E, and the settle check (`settleCheck_spec`) the clock and its run by the E
that the slew leaves. -/
theorem timeTicksSlewsAndSettles : Obligations.TimeTicksSlewsAndSettles := by
  refine ⟨fun s => ⟨_, rfl, rfl⟩, fun s x next due => ⟨makeAdjust s, ?_, ?_⟩⟩
  · exact congrArg Host.Outcome.next (by rw [next]; exact if_pos due)
  · have slews := slew_sets (adjusting x s)
    obtain ⟨ahead, behind, near⟩ := slew_spec (adjusting x s)
    rw [makeAdjust_eq next]
    obtain ⟨u, hu⟩ : ∃ u, u = slew (adjusting x s) := ⟨_, rfl⟩
    rw [← hu] at slews ahead behind near ⊢
    have clock : u.time.clock = s.time.clock := by rw [slews]; rfl
    have run : u.time.settleRun = s.time.settleRun := by rw [slews]; rfl
    have port : u.port = s.port := by rw [slews]; rfl
    have settles := settleCheck_sets u
    obtain ⟨tenth, rises, clears, other⟩ := settleCheck_spec u
    rw [clock, run, port] at tenth rises
    rw [clock, port] at clears
    rw [clock] at other
    obtain ⟨t, ht⟩ : ∃ t, t = settleCheck u := ⟨_, rfl⟩
    rw [← ht] at settles tenth rises clears other ⊢
    have time : t.time.t = u.time.t := by rw [settles]
    have estimate : t.time.e = u.time.e := by rw [settles]
    have withheld : t.time.withheld = u.time.withheld := by rw [settles]
    dsimp only
    rw [time, estimate, withheld]
    refine ⟨ahead, behind, fun small => ?_, fun ⟨f, e, r⟩ => tenth f e r, fun ⟨f, e, r⟩ => rises f e r,
      fun ⟨f, e⟩ => clears f e, fun still => ?_, ?_⟩
    · rw [near small]; exact ⟨rfl, rfl, rfl⟩
    · rw [other still]; exact ⟨clock, run, port⟩
    · rw [settles, slews]; rfl

/-! ### A step of trunk time -/

/-- R173 a, R171: a step notice marks the open event TIME_SET, or the provisional summary. -/
theorem counterTakesStep_sets (s : State) :
    counterTakesStep s = { s with counter := (counterTakesStep s).counter } ∧
    (counterTakesStep s).counter.event = s.counter.event.map (fun ev => { ev with flags.timeSet := true }) ∧
    (counterTakesStep s).counter.log = s.counter.log ∧ (counterTakesStep s).counter.totals = s.counter.totals := by
  unfold counterTakesStep
  split
  · exact ⟨rfl, rfl, rfl, rfl⟩
  · next closed =>
    have none : s.counter.event = none := Option.not_isSome_iff_eq_none.mp closed
    have marked : s.counter.event = s.counter.event.map (fun ev => { ev with flags.timeSet := true }) := by
      rw [none]; rfl
    split <;> exact ⟨rfl, marked, rfl, rfl⟩

/-- R50 d: the mark on a bulletin being gathered, and nothing else. -/
theorem markStepped_sets (s : State) :
    markStepped s = { s with trunk := { s.trunk with rx := (markStepped s).trunk.rx } } ∧
    ∀ g, s.trunk.rx = .frame g → (markStepped s).trunk.rx = .frame { g with stepped := true } := by
  unfold markStepped
  split
  case h_1 g rx => exact ⟨rfl, fun _ h => by cases rx.symm.trans h; rfl⟩
  case h_2 other => exact ⟨rfl, fun g h => absurd h (other g)⟩

/-- R49: CLOCK_CHANGE is raised by a change of the clock state. -/
theorem setClock_flags (c : ClockState) (s : State) : (setClock c s).port.flags =
    if c = s.time.clock then s.port.flags else s.port.flags ||| BitVec.twoPow 15 7 := by
  unfold setClock; split <;> rfl

/-- R53, R59, R60, R142, R173 a: what a step of trunk time to n with clock state c leaves. -/
structure TimeStepped (n : Nat) (c : ClockState) (s t : State) : Prop where
  outside : outsideSample t = outsideSample s
  time : t.time = { s.time with t := n, e := 0, settleRun := 0, outlierRun := 0, clock := c }
  flags : t.port.flags = if c = s.time.clock then s.port.flags else s.port.flags ||| BitVec.twoPow 15 7
  target : t.drain.claimTarget = nextClaimInstant s n
  passed : ∀ x, s.drain.claimTarget = some x → x ≤ n →
    t.trunk.slots.claim = s.trunk.slots.claim.queue (.claim (claimBody s))
  ahead : ¬ (∃ x, s.drain.claimTarget = some x ∧ x ≤ n) → t.trunk.slots.claim = s.trunk.slots.claim
  event : t.counter.event = s.counter.event.map (fun ev => { ev with flags.timeSet := true })
  log : t.counter.log = s.counter.log
  totals : t.counter.totals = s.counter.totals
  rx : ∀ g, s.trunk.rx = .frame g → t.trunk.rx = .frame { g with stepped := true }

theorem claimTimerDue_iff {s : State} : claimTimerDue s = true ↔ ∃ x, s.drain.claimTarget = some x ∧ x ≤ s.time.t := by
  unfold claimTimerDue
  cases s.drain.claimTarget <;> simp

/-- R53, R59: T stepped to n, the estimate and both runs 0. -/
def retimed (n : Nat) (s : State) : State :=
  { s with time := { s.time with t := n, e := 0, settleRun := 0, outlierRun := 0 } }

/-- The state with its clock stepped, before the step notices. -/
def clockStepped (n : Nat) (c : ClockState) (s : State) : State := setClock c (markStepped (retimed n s))

theorem clockStepped_sets (n : Nat) (c : ClockState) (s : State) :
    (clockStepped n c s).drain = s.drain ∧ (clockStepped n c s).cfg = s.cfg ∧ (clockStepped n c s).counter = s.counter ∧
    (clockStepped n c s).trunk.slots = s.trunk.slots ∧ (clockStepped n c s).time.t = n ∧
    (clockStepped n c s).port.flags =
      (if c = s.time.clock then s.port.flags else s.port.flags ||| BitVec.twoPow 15 7) ∧
    ∀ g, s.trunk.rx = .frame g → (clockStepped n c s).trunk.rx = .frame { g with stepped := true } := by
  obtain ⟨marked, rx⟩ := markStepped_sets (retimed n s)
  have control : ∀ u, (setClock c u).drain = u.drain ∧ (setClock c u).cfg = u.cfg := fun u => by
    unfold setClock; split <;> exact ⟨rfl, rfl⟩
  unfold clockStepped
  generalize markStepped (retimed n s) = u at marked rx ⊢
  obtain ⟨drain, cfg⟩ := control u
  obtain ⟨trunk, _, counter, time⟩ := setClock_leaves c u
  rw [drain, cfg, counter, trunk, time, setClock_flags]
  refine ⟨?_, ?_, ?_, ?_, ?_, ?_, rx⟩
  all_goals
    rw [marked]
    rfl

theorem stepTime_stepped (n : Nat) (c : ClockState) (s : State) : TimeStepped n c s (stepTime n c s) := by
  obtain ⟨drain, cfg, counter, slots, t, flags, rx⟩ := clockStepped_sets n c s
  obtain ⟨target, trunk, claim, _⟩ := claimTimerStep_spec (clockStepped n c s)
  obtain ⟨_, _, _, _, _, counted, _, _, _, port⟩ := outsideTank_fields (claimTimerStep_tank (clockStepped n c s))
  obtain ⟨stepped, event, log, totals⟩ := counterTakesStep_sets (claimTimerStep (clockStepped n c s))
  have outside := stepTime_sample n c s
  have time := stepTime_time n c s
  have done : stepTime n c s = counterTakesStep (claimTimerStep (clockStepped n c s)) := rfl
  have body : claimBody (clockStepped n c s) = claimBody s := by unfold claimBody; rw [drain, cfg]
  have due : claimTimerDue (clockStepped n c s) = true ↔ ∃ x, s.drain.claimTarget = some x ∧ x ≤ n := by
    rw [claimTimerDue_iff, drain, t]
  rw [counted, counter] at event log totals
  rw [done] at outside time ⊢
  refine ⟨outside, time, ?_, ?_, fun x old passed => ?_, fun ahead => ?_, event, log, totals, fun g gathered => ?_⟩
  · rw [stepped]; exact (congrArg Port.flags port).trans flags
  · rw [stepped]; exact (congrArg Drain.claimTarget target).trans (by rw [t]; exact nextClaimInstant_congr cfg n)
  · rw [stepped]; exact claim.trans (by rw [if_pos (due.mpr ⟨x, old, passed⟩), slots, body])
  · rw [stepped]; exact claim.trans (by rw [if_neg (due.not.mpr ahead), slots])
  · rw [stepped]; exact (congrArg Trunk.rx trunk).trans (rx g gathered)

/-- Settles O6: in RUN, SET_TIME is a step of trunk time (`TimeStepped`) with its answer. -/
theorem setTimeStepsTrunkTime : Obligations.SetTimeStepsTrunkTime := by
  intro s ms run
  have taken : reqSetTime ms.toNat s =
      doneWith (stepTime (min maxTime ms.toNat) (if s.cfg.anchor then .anchored else .settled) s) := if_pos run
  have done : exec (.setTime ms) s = .next (answer 14 (reqSetTime ms.toNat s)) := rfl
  rw [taken] at done
  have stepped := stepTime_stepped (min maxTime ms.toNat) (if s.cfg.anchor then .anchored else .settled) s
  obtain ⟨elapsed, _, peers, rain, tank, spill, input, drain, line⟩ := outsideSample_fields stepped.outside
  refine ⟨_, done, stepped.time, ?_, rfl, ?_, ?_, ?_, stepped.event, stepped.rx, elapsed, peers, input, tank, spill, rain,
    drain, (lineState_fields line).2.2.2.2.2.1, stepped.log, stepped.totals⟩
  all_goals unfold answer doneWith; dsimp only; rw [stepped.time]
  · exact stepped.flags
  · exact stepped.target
  · exact stepped.passed
  · exact stepped.ahead

/-! ### A time sample -/

theorem sampleIgnored_iff {x : TimeSample} {s : State} : sampleIgnored x s = true ↔
    x.clock = .unset ∨ x.clock = .following ∨ s.time.clock = .anchored ∨ s.cfg.anchor = true ∨ x.stepped = true ∨
      (x.clock = .settled ∧ ∃ p, s.time.anchorPref = some p ∧ s.elapsed ≤ p + 60000) := by
  have minute : seconds 60 = 60000 := rfl
  unfold sampleIgnored preferenceExcludes
  cases s.time.anchorPref <;> simp [minute, or_assoc]

/-- R51: an ANCHORED sender's sample starts the anchor preference. -/
def preferred (x : TimeSample) (s : State) : State :=
  if x.clock = .anchored then { s with time.anchorPref := some s.elapsed } else s

theorem preferred_sets (x : TimeSample) (s : State) : preferred x s = { s with
    time.anchorPref := if x.clock = .anchored then some s.elapsed else s.time.anchorPref } := by
  unfold preferred; split <;> rfl

/-- R51, R52: a sample that is not ignored is handled by its value, and recorded. -/
theorem timeTakesSample_taken {x : TimeSample} {s : State} (h : sampleIgnored x s = false) : timeTakesSample x s =
    { handleSample (sampleValue x s) (preferred x s) with
      time.lastSample := some ⟨x.sender, sampleValue x s, sampleOutcome (sampleValue x s) s, s.elapsed⟩ } := by
  unfold timeTakesSample
  rw [h]
  rfl

theorem handleSample_unset {s : State} (v : Int) (h : s.time.clock = .unset) :
    handleSample v s = stepTime (steppedT s.time.t v) .following s := by
  unfold handleSample sampleOutcome; rw [if_pos h]

theorem handleSample_outlier {s : State} {v : Int} (set : s.time.clock ≠ .unset) (h : s.cfg.stepLimit < v.natAbs) :
    handleSample v s = takeOutlier s := by
  unfold handleSample sampleOutcome; rw [if_neg set, if_pos h]

theorem handleSample_used {s : State} {v : Int} (set : s.time.clock ≠ .unset) (h : v.natAbs ≤ s.cfg.stepLimit) :
    handleSample v s = useSample v s := by
  unfold handleSample sampleOutcome; rw [if_neg set, if_neg (by omega)]

/-- R54: an outlier counts in its run, and the eighth raises CLOCK_DISAGREE. -/
theorem takeOutlier_spec (s : State) :
    (takeOutlier s).time =
      { s.time with outlierRun := if s.time.outlierRun + 1 = 8 then 0 else s.time.outlierRun + 1 } ∧
    (s.time.outlierRun + 1 = 8 → (takeOutlier s).port.flags = s.port.flags ||| BitVec.twoPow 15 8) := by
  unfold takeOutlier
  split
  · exact ⟨rfl, fun _ => rfl⟩
  · next run => exact ⟨rfl, fun eighth => absurd eighth run⟩

/-- R55, R58: a used sample moves the estimate and ends the outlier run; SETTLED falls to FOLLOWING at 160. -/
theorem useSample_time (v : Int) (s : State) : (useSample v s).time = { s.time with
    e := updatedEstimate s.cfg.clockDepth s.cfg.stepLimit s.time.e v, outlierRun := 0
    settleRun := if s.time.clock = .settled ∧
        160 ≤ (updatedEstimate s.cfg.clockDepth s.cfg.stepLimit s.time.e v).natAbs then 0 else s.time.settleRun
    clock := if s.time.clock = .settled ∧
        160 ≤ (updatedEstimate s.cfg.clockDepth s.cfg.stepLimit s.time.e v).natAbs then .following else s.time.clock } := by
  unfold useSample
  dsimp only
  split
  · rw [setClock_time]
  · rfl

/-- R51: a sample's handling leaves the anchor preference. -/
theorem handleSample_anchorPref (v : Int) (s : State) : (handleSample v s).time.anchorPref = s.time.anchorPref := by
  unfold handleSample
  split
  · rw [stepTime_time]
  · rw [(takeOutlier_spec s).1]
  · rw [useSample_time]

/-- R53: T stepped, held within its bounds. -/
theorem steppedT_eq (t : Nat) (v : Int) : (steppedT t v : Int) = max 0 (min (2 ^ 48 - 1) (t + v)) := by
  unfold steppedT maxTime; omega

/-- R55: the estimate of a used sample, its bound and its divisor as numbers. -/
theorem updatedEstimate_eq (depth limit : Nat) (e v : Int) : updatedEstimate depth limit e v =
    max (-(16 * (limit : Int))) (min (16 * (limit : Int)) (e + Int.tdiv (16 * v - e) (2 ^ depth))) := by
  unfold updatedEstimate clampInt; push_cast; rfl

/-- R50, R51: a sample of a sender with a fixed clock is taken, but for one across a step or within the anchor preference. -/
theorem sampleIgnored_false {x : TimeSample} {s : State} (anchored : s.time.clock ≠ .anchored)
    (anchor : s.cfg.anchor = false) (stepped : x.stepped = false) (sender : x.clock = .anchored ∨
      (x.clock = .settled ∧ ∀ p, s.time.anchorPref = some p → p + 60000 < s.elapsed)) : sampleIgnored x s = false := by
  refine Bool.eq_false_iff.mpr fun ignored => ?_
  rcases sampleIgnored_iff.mp ignored with h | h | h | h | h | ⟨settled, p, preference, young⟩
  · rcases sender with own | ⟨own, _⟩ <;> cases own.symm.trans h
  · rcases sender with own | ⟨own, _⟩ <;> cases own.symm.trans h
  · exact anchored h
  · cases anchor.symm.trans h
  · cases stepped.symm.trans h
  · rcases sender with own | ⟨_, old⟩
    · cases own.symm.trans settled
    · have := old p preference
      omega

/-- Settles O34: a sample that is not ignored goes by the own clock state and its value: a step, an outlier, or a used
sample. -/
theorem timeSamplesSetTheClock : Obligations.TimeSamplesSetTheClock := by
  intro s x v value
  refine ⟨fun ignored => ?_, fun anchored anchor stepped sender => ?_⟩
  · have within : (x.clock = .settled ∧ ∃ p, s.time.anchorPref = some p ∧ s.elapsed < p + 60000) →
        x.clock = .settled ∧ ∃ p, s.time.anchorPref = some p ∧ s.elapsed ≤ p + 60000 :=
      fun ⟨settled, p, preference, young⟩ => ⟨settled, p, preference, young.le⟩
    exact if_pos (sampleIgnored_iff.mpr (ignored.imp_right (.imp_right (.imp_right (.imp_right (.imp_right within))))))
  · have handled := timeTakesSample_taken (sampleIgnored_false anchored anchor stepped sender)
    rw [show sampleValue x s = v from value.symm] at handled
    have sets := preferred_sets x s
    obtain ⟨u, hu⟩ : ∃ u, u = preferred x s := ⟨_, rfl⟩
    rw [← hu] at handled sets
    have time : u.time = { s.time with
        anchorPref := if x.clock = .anchored then some s.elapsed else s.time.anchorPref } := by rw [sets]
    have cfg : u.cfg = s.cfg := by rw [sets]; rfl
    have port : u.port = s.port := by rw [sets]
    have preference := handleSample_anchorPref v u
    rw [handled]
    dsimp only
    refine ⟨rfl, preference.trans (by rw [time]), fun unset => ?_, fun set beyond => ?_, fun set within => ?_⟩
    · rw [handleSample_unset v (by rw [time]; exact unset)]
      have step := stepTime_stepped (steppedT u.time.t v) .following u
      have target := step.target.trans (nextClaimInstant_congr cfg _)
      rw [step.time, step.flags, target, time, unset, port]
      exact ⟨steppedT_eq _ v, rfl, rfl, rfl, rfl, rfl, rfl⟩
    · rw [handleSample_outlier (by rw [time]; exact set) (by rw [cfg]; exact beyond)]
      obtain ⟨outlier, eighth⟩ := takeOutlier_spec u
      rw [time, port] at eighth
      rw [outlier, time]
      exact ⟨rfl, rfl, rfl, rfl, eighth⟩
    · rw [handleSample_used (by rw [time]; exact set) (by rw [cfg]; exact within)]
      have used := useSample_time v u
      rw [time, cfg] at used
      simp only [used, updatedEstimate_eq, and_self]

end Sys2Proof.Machine
end

section
/-! SUPPORT. Trunk time and the estimate in bounds (O55): the operations of the other blocks leave the Time Unit, and the Time
Unit's own keep T within 0..2^48 - 1 and E within ±16 × STEP_LIMIT. -/

namespace Sys2Proof.Machine

/-! ### The invariant -/

/-- R48, R55: the bounds alone, in either run state. -/
def TimeBound (s : State) : Prop := s.time.t ≤ maxTime ∧ s.time.e.natAbs ≤ 16 * s.cfg.stepLimit

theorem cfg_of_blocks {s t : State} (h : outsideBlocks t = outsideBlocks s) : t.cfg = s.cfg := by
  obtain ⟨_, _, port⟩ := outsideBlocks_fields h
  unfold State.cfg
  rw [port]

theorem time_of_control {s t : State} (h : outsideControl t = outsideControl s) : t.time = s.time :=
  (outsideControl_fields h).2.2.1

theorem time_of_tank {s t : State} (h : outsideTank t = outsideTank s) : t.time = s.time :=
  time_of_control (outsideControl_of h)

theorem TimeOk.bound {s : State} (h : TimeOk s) : TimeBound s := ⟨h.1, h.2.1⟩

theorem TimeBound.of_run {s : State} (h : TimeBound s) (run : s.inRun = true) : TimeOk s :=
  ⟨h.1, h.2, fun config => by cases run.symm.trans config⟩

theorem TimeOk.of_zero {s : State} (t : s.time.t ≤ maxTime) (e : s.time.e = 0) : TimeOk s :=
  ⟨t, by rw [e]; exact Nat.zero_le _, fun _ => e⟩

theorem TimeBound.of_same {s t : State} (h : TimeBound s) (time : t.time = s.time) (cfg : t.cfg = s.cfg) : TimeBound t := by
  unfold TimeBound
  rw [time, cfg]
  exact h

theorem TimeOk.of_time {s t : State} (h : TimeOk s) (time : t.time = s.time)
    (blocks : outsideBlocks t = outsideBlocks s) : TimeOk t := by
  unfold TimeOk
  rw [time, cfg_of_blocks blocks, inRun_of_blocks blocks]
  exact h

theorem TimeOk.of_control {s t : State} (h : TimeOk s) (control : outsideControl t = outsideControl s) : TimeOk t :=
  h.of_time (time_of_control control) (outsideBlocks_of control)

theorem TimeOk.of_tank {s t : State} (h : TimeOk s) (tank : outsideTank t = outsideTank s) : TimeOk t :=
  h.of_control (outsideControl_of tank)

/-! ### The Time Unit -/

/-- R48: a tick. -/
theorem advanceTime_timeOk {s : State} (h : TimeOk s) : TimeOk (advanceTime s) := by
  refine ⟨?_, h.2⟩
  unfold advanceTime advanceT
  dsimp only
  split
  · exact h.1
  · exact Nat.min_le_left ..

/-- R56: a slew keeps T in bounds and takes E no further from 0. -/
theorem slew_bounds {s : State} (h : s.time.t ≤ maxTime) :
    (slew s).time.t ≤ maxTime ∧ (slew s).time.e.natAbs ≤ s.time.e.natAbs := by
  obtain ⟨ahead, behind, near⟩ := slew_spec s
  have cases : 16 ≤ s.time.e ∨ s.time.e ≤ -16 ∨ -16 < s.time.e ∧ s.time.e < 16 := by omega
  rcases cases with high | low | small
  · obtain ⟨t, e, _⟩ := ahead high
    rw [t, e]
    exact ⟨Nat.min_le_left .., by omega⟩
  · obtain ⟨t, e, _⟩ := behind low
    rw [t, e]
    exact ⟨h, by omega⟩
  · rw [near small]
    exact ⟨h, le_rfl⟩

/-- R56, R57: an adjust. -/
theorem makeAdjust_timeOk {s : State} (h : TimeOk s) : TimeOk (makeAdjust s) := by
  have blocks := makeAdjust_blocks s
  obtain ⟨u, hu⟩ : ∃ u, u = slew { s with time.nextAdjust := s.time.nextAdjust.map (· + seconds 1) } := ⟨_, rfl⟩
  obtain ⟨t, e⟩ : u.time.t ≤ maxTime ∧ u.time.e.natAbs ≤ s.time.e.natAbs := by rw [hu]; exact slew_bounds h.1
  have settled : makeAdjust s = settleCheck u := by rw [hu]; rfl
  have time : (makeAdjust s).time.t = u.time.t ∧ (makeAdjust s).time.e = u.time.e := by
    rw [settled, settleCheck_sets]; exact ⟨rfl, rfl⟩
  unfold TimeOk
  rw [time.1, time.2, cfg_of_blocks blocks, inRun_of_blocks blocks]
  refine ⟨t, e.trans h.2.1, fun config => ?_⟩
  have zero := h.2.2 config
  omega

/-- R55: a used sample's estimate is held within its bounds. -/
theorem updatedEstimate_bound (depth limit : Nat) (e v : Int) : (updatedEstimate depth limit e v).natAbs ≤ 16 * limit := by
  unfold updatedEstimate clampInt; omega

/-- R53 to R55: a sample's handling keeps the bounds. -/
theorem handleSample_bound (v : Int) {s : State} (h : TimeBound s) : TimeBound (handleSample v s) := by
  unfold TimeBound
  rw [cfg_of_blocks (handleSample_blocks v s)]
  unfold handleSample
  split
  · rw [stepTime_time]; exact ⟨Nat.min_le_left .., Nat.zero_le _⟩
  · rw [(takeOutlier_spec s).1]; exact h
  · rw [useSample_time]; exact ⟨h.1, updatedEstimate_bound ..⟩

theorem timeTakesSample_bound (x : TimeSample) {s : State} (h : TimeBound s) : TimeBound (timeTakesSample x s) := by
  cases ignored : sampleIgnored x s with
  | true => rw [timeTakesSample, if_pos ignored]; exact h
  | false =>
    have started : TimeBound (preferred x s) := by rw [preferred_sets]; exact h
    rw [timeTakesSample_taken ignored]
    exact handleSample_bound _ started

/-! ### The Spill Monitor and the Input Unit -/

@[simp] theorem notifySpill_time (s : State) : (notifySpill s).time = s.time := time_of_control (notifySpill_control s)

@[simp] theorem spillEvaluates_time (c : Stamped) (s : State) : (spillEvaluates c s).time = s.time := by
  unfold spillEvaluates enterOnset lapseSpell enterSubsiding resumeSpilling
  split <;> simp

@[simp] theorem confirmSpill_time (s : State) : (confirmSpill s).time = s.time := by
  unfold confirmSpill; simp

@[simp] theorem endSpill_time (s : State) : (endSpill s).time = s.time := by
  unfold endSpill; simp

@[simp] theorem spillTakesEdge_time (r : Bool) (e : Stamped) (s : State) : (spillTakesEdge r e s).time = s.time := by
  unfold spillTakesEdge; simp

@[simp] theorem counterTakesSample_time (n : SampleNotice) (s : State) : (counterTakesSample n s).time = s.time :=
  time_of_control (counterTakesSample_control n s)

@[simp] theorem takeSpillSample_time (a : SpillState) (d : Nat) (s : State) : (takeSpillSample a d s).time = s.time := by
  unfold takeSpillSample; dsimp only; split_ifs <;> simp

@[simp] theorem spillTakesSample_time (d : Nat) (s : State) : (spillTakesSample d s).time = s.time := by
  unfold spillTakesSample; simp

theorem inEitherOrder_time {f g : State → State} (hf : ∀ t, (f t).time = t.time) (hg : ∀ t, (g t).time = t.time)
    (s : State) : (inEitherOrder f g s).time = s.time :=
  inEitherOrder_holds (fun t => t.time = s.time) (fun t h => by rw [hg, hf, h]) (fun t h => by rw [hf, hg, h]) rfl

@[simp] theorem takeSample_time (c : GaugeCounts) (s : State) : (takeSample c s).time = s.time := by
  have tank : ∀ t, (sampleTank c t).time = t.time := fun t => by
    unfold sampleTank; rw [time_of_tank (tankTakesSample_tank _ _), convertGauge_time, convertGauge_time]
  have overflow : ∀ t, (sampleOverflow c t).time = t.time := fun t => by
    unfold sampleOverflow; rw [spillTakesSample_time, convertGauge_time]
  unfold takeSample
  rw [inEitherOrder_time tank overflow]

@[simp] theorem takeEdge_time (i : DigitalIn) (e : Candidate) (s : State) : (takeEdge i e s).time = s.time := by
  have hand : ∀ t, (handEdge i e t).time = t.time := fun t => by
    cases i with
    | rainTip => exact time_of_control (rainTakesEdge_control _ _ _)
    | gateOpenLimit => exact time_of_control (tankTakesEdge_control _ _ _)
    | gateClosedLimit => exact time_of_control (tankTakesEdge_control _ _ _)
    | spillFloat => exact spillTakesEdge_time _ _ _
    | pumpRunning => exact time_of_control (drainTakesEdge_control _ _)
  unfold takeEdge
  rw [hand]
  rfl

/-! ### The Peer Table -/

@[simp] theorem drainTakesShareNotice_time (s : State) : (drainTakesShareNotice s).time = s.time :=
  time_of_tank (drainTakesShareNotice_tank s)

@[simp] theorem formBranchAlert_time (s : State) : (formBranchAlert s).time = s.time :=
  time_of_control (formBranchAlert_control s)

@[simp] theorem forgetEntry_time (a : Addr) (s : State) : (forgetEntry a s).time = s.time := rfl

@[simp] theorem takeEntry_time (r : Received) (h n : Nat) (s : State) : (takeEntry r h n s).time = s.time := by
  rw [takeEntry_sets]

@[simp] theorem applyLimit_time (l : LimitBody) (a : Addr) (x : Stamped) (s : State) :
    (applyLimit l a x s).time = s.time := by
  obtain ⟨⟨_, _, applied⟩, _⟩ := applyLimit_applies l a x s
  rw [applied]
  rfl

@[simp] theorem takeBody_time (b : Body) (u : Uses) (a : Addr) (n : Nat) (s : State) :
    (takeBody b u a n s).time = s.time := by
  unfold takeBody; dsimp only; split
  · split_ifs <;> simp
  · split_ifs <;> simp
  · split_ifs <;> simp
  · rfl

/-- R26, R44: a bulletin's part leaves the Time Unit, and its time sample keeps the bounds, in either order. -/
theorem takeBulletin_bound (r : Received) (stamp : Nat) (stepped : Bool) {s : State} (h : TimeBound s) :
    TimeBound (takeBulletin r stamp stepped s) := by
  unfold takeBulletin
  split
  · exact h
  · next hit _ =>
    have part : ∀ u, TimeBound u →
        TimeBound (takeBody (clampBody r.body) (s.cfg.accept.get hit).uses r.sender stamp u) := fun u ok =>
      ok.of_same (takeBody_time ..) (cfg_of_blocks (takeBody_blocks ..))
    have sample : ∀ u, TimeBound u →
        TimeBound (timeTakesSample ⟨r.sender, r.clock, r.time, stamp, stepped⟩ u) := fun _ => timeTakesSample_bound _
    have entered : TimeBound (takeEntry r hit stamp s) := h.of_same (takeEntry_time ..) (cfg_of_blocks (takeEntry_blocks ..))
    dsimp only
    split
    · exact inEitherOrder_holds TimeBound (fun u ok => sample _ (part u ok)) (fun u ok => part _ (sample u ok)) entered
    · exact part _ entered

/-! ### The Trunk Interface -/

@[simp] theorem transmitterTakesStanding_time (s : State) : (transmitterTakesStanding s).time = s.time := by
  rw [transmitterTakesStanding_sets]

@[simp] theorem setStanding_time (x : Standing) (s : State) : (setStanding x s).time = s.time := by
  unfold setStanding; split
  · rfl
  · simp

@[simp] theorem standFromScores_time (s : State) : (standFromScores s).time = s.time := by
  unfold standFromScores; dsimp only; rw [setStanding_time]; split <;> rfl

@[simp] theorem recomputeStanding_time (s : State) : (recomputeStanding s).time = s.time := by
  unfold recomputeStanding; split
  · rfl
  · exact standFromScores_time s

@[simp] theorem raiseTxScore_time (n : Nat) (s : State) : (raiseTxScore n s).time = s.time := by
  unfold raiseTxScore; simp

@[simp] theorem lowerTxScore_time (s : State) : (lowerTxScore s).time = s.time := by
  unfold lowerTxScore; simp

@[simp] theorem lowerRxScore_time (s : State) : (lowerRxScore s).time = s.time := by
  unfold lowerRxScore; simp

@[simp] theorem holdElapses_time (s : State) : (holdElapses s).time = s.time := by
  unfold holdElapses; simp

@[simp] theorem badBulletin_time (s : State) : (badBulletin s).time = s.time :=
  (outsideTank_fields (badBulletin_rescored s).1.outside).2.2.1

@[simp] theorem transmitterRests_time (s : State) : (transmitterRests s).time = s.time := by
  unfold transmitterRests; split
  · rw [enterWaitLine_sets]
  · rfl

@[simp] theorem beginAttempt_time (s : State) : (beginAttempt s).time = s.time := by
  unfold beginAttempt; split <;> rfl

@[simp] theorem enterBackoff_time (n : Nat) (s : State) : (enterBackoff n s).time = s.time := by
  unfold enterBackoff; split <;> rfl

@[simp] theorem failAttempt_time (k : Kind) (n : Nat) (s : State) : (failAttempt k n s).time = s.time := by
  unfold failAttempt; dsimp only; split_ifs <;> simp

@[simp] theorem applyOwnLimit_time (a : Attempt) (s : State) : (applyOwnLimit a s).time = s.time := by
  unfold applyOwnLimit; split <;> simp

@[simp] theorem cleanSend_time (a : Attempt) (s : State) : (cleanSend a s).time = s.time := by
  unfold cleanSend; simp

@[simp] theorem endDisregarded_time (s : State) : (endDisregarded s).time = s.time := by
  unfold endDisregarded; dsimp only; split
  · exact transmitterRests_time _
  · rfl

@[simp] theorem attemptEnds_time (a : Attempt) (s : State) : (attemptEnds a s).time = s.time := by
  unfold attemptEnds; split_ifs <;> simp

@[simp] theorem attemptCollides_time (a : Attempt) (n : Nat) (s : State) : (attemptCollides a n s).time = s.time := by
  unfold attemptCollides; split <;> simp

@[simp] theorem addressClash_time (s : State) : (addressClash s).time = s.time := by
  unfold addressClash; dsimp only; split
  · rfl
  · simp

@[simp] theorem lineActivity_time (s : State) : (lineActivity s).time = s.time := by
  unfold lineActivity; dsimp only; split <;> rfl

@[simp] theorem receiverCollides_time (s : State) : (receiverCollides s).time = s.time := by
  unfold receiverCollides; split <;> rfl

@[simp] theorem takeCollision_time (n : Nat) (s : State) : (takeCollision n s).time = s.time := by
  have heard : (if s.inRun then receiverCollides (lineActivity s) else s).time = s.time := by
    split <;> simp
  unfold takeCollision; dsimp only; split
  · exact heard
  · exact (attemptCollides_time _ _ _).trans heard

@[simp] theorem takeLineFree_time (s : State) : (takeLineFree s).time = s.time := by
  have freed : (receiverTakesFree { s with trunk.lineFree := true }).time = s.time := by
    unfold receiverTakesFree; split
    · rfl
    · split
      · rfl
      · exact badBulletin_time _
    · rfl
  unfold takeLineFree; dsimp only; split <;> exact freed

theorem silenceRequest_time (s : State) : (silenceRequest s).2.time = s.time := by
  unfold silenceRequest; split
  · rfl
  · rfl
  · exact setStanding_time _ _

theorem rejoinRequest_time (s : State) : (rejoinRequest s).2.time = s.time := by
  unfold rejoinRequest; split
  · exact standFromScores_time s
  · exact holdElapses_time s
  · rfl
  · rfl

theorem badBulletin_bound {s : State} (h : TimeBound s) : TimeBound (badBulletin s) :=
  h.of_same (badBulletin_time s) (cfg_of_blocks (badBulletin_blocks s))

/-- R17, R18: a good bulletin lowers the receive fault score before the rest. -/
theorem goodBulletin_bound (g : Gathering) {s : State} (h : TimeBound s) : TimeBound (goodBulletin g s) := by
  have lowered : TimeBound (lowerRxScore s) := h.of_same (lowerRxScore_time s) (cfg_of_blocks (lowerRxScore_blocks s))
  unfold goodBulletin; dsimp only; split
  · exact lowered.of_same (addressClash_time _) (cfg_of_blocks (addressClash_blocks _))
  · exact takeBulletin_bound _ _ _ lowered

theorem gatherByte_bound (g : Gathering) {s : State} (h : TimeBound s) : TimeBound (gatherByte g s) := by
  have discards : TimeBound (setReceiver .discard s) := h
  unfold gatherByte; dsimp only; split_ifs
  · exact h
  · exact badBulletin_bound discards
  · split
    · exact h
    · exact h
    · exact goodBulletin_bound g discards
    · exact badBulletin_bound discards
  · exact h

theorem receiveByte_bound (b : Byte) {s : State} (h : TimeBound s) : TimeBound (receiveByte b s) := by
  have heard : TimeBound (lineActivity s) := h.of_same (lineActivity_time s) (cfg_of_blocks (lineActivity_blocks s))
  unfold receiveByte; dsimp only; split
  · exact gatherByte_bound _ heard
  · exact gatherByte_bound _ heard
  · exact heard

/-! ### Entry to RUN, restart and the requests -/

/-- R65: the entry to RUN leaves T and the estimate, which is 0 in CONFIG. -/
theorem enterRun_timeOk (counts : GaugeCounts) {s : State} (config : s.inRun = false) (h : TimeOk s) :
    TimeOk (enterRun counts s) := by
  have entered : enterRun counts s = blocksEnter counts (committing s) := rfl
  have sets := blocksEnter_sets counts (committing s)
  rw [entered]
  exact .of_zero (sets.time.trans_le h.1) (sets.estimate.trans (h.2.2 config))

/-- R64: a restart leaves T and makes the estimate 0. -/
theorem restartPart_time (s : State) : (restartPart s).time.t = s.time.t ∧ (restartPart s).time.e = 0 := by
  have counter : (counterRestarts s).time = s.time := time_of_control (counterRestarts_control s)
  have trunk : ∀ u, (trunkRestarts u).time = u.time := fun u => by unfold trunkRestarts; dsimp only; split <;> rfl
  have time : ∀ u, (timeRestarts u).time.t = u.time.t ∧ (timeRestarts u).time.e = 0 := fun u => by
    unfold timeRestarts; dsimp only; split
    · rw [setClock_time]; exact ⟨rfl, rfl⟩
    · exact ⟨rfl, rfl⟩
  have rain : ∀ u, (rainRestarts u).time = u.time := fun u => time_of_control (rainRestarts_rests u).2.1
  have others : ∀ u, (portRestarts (drainRestarts u)).time = u.time := fun _ => rfl
  have first : ∀ u, (spillRestarts (tankRestarts (inputRestarts u))).time = u.time := fun _ => rfl
  unfold restartPart
  rw [others, rain, first]
  obtain ⟨t, e⟩ := time { trunkRestarts (counterRestarts s) with peers := .reset }
  exact ⟨t.trans (by rw [trunk, counter]), e⟩

theorem inRunOnly_timeOk {f : State → Answer} (h : ∀ s, s.inRun = true → TimeOk s → TimeOk (f s).state) {s : State}
    (ok : TimeOk s) : TimeOk (inRunOnly f s).state := by
  unfold inRunOnly; split
  · next run => exact h s run ok
  · exact ok

theorem inConfigOnly_timeOk {f : State → Answer} (h : ∀ s, s.inRun = false → TimeOk s → TimeOk (f s).state) {s : State}
    (ok : TimeOk s) : TimeOk (inConfigOnly f s).state := by
  unfold inConfigOnly; split
  · exact ok
  · next config => exact h s (Bool.eq_false_iff.mpr config) ok

theorem reqCommit_timeOk (counts : GaugeCounts) {s : State} (ok : TimeOk s) : TimeOk (reqCommit counts s).state := by
  refine inConfigOnly_timeOk (fun s config h => ?_) ok
  dsimp only
  split
  · exact h
  · split
    · exact h
    · exact enterRun_timeOk counts config h

/-- R59: SET_TIME holds T at its bound and makes the estimate 0. -/
theorem reqSetTime_timeOk (n : Nat) {s : State} (ok : TimeOk s) : TimeOk (reqSetTime n s).state := by
  refine inRunOnly_timeOk (fun s _ _ => ?_) ok
  have time := stepTime_time (min maxTime n) (if s.cfg.anchor then .anchored else .settled) s
  exact .of_zero ((congrArg TimeUnit.t time).trans_le (Nat.min_le_left ..)) (congrArg TimeUnit.e time)

theorem setGateMode_timeOk (m : GateMode) {s : State} (ok : TimeOk s) : TimeOk (setGateMode m s) := by
  have moded : TimeOk { s with tank.mode := m } := ok
  unfold setGateMode; dsimp only; split
  · exact moded.of_tank (by rw [afterGate_tank, retarget_tank])
  · exact moded

theorem setDrainMode_timeOk (m : DrainMode) {s : State} (ok : TimeOk s) : TimeOk (setDrainMode m s) := by
  unfold setDrainMode; split_ifs
  · exact ok
  · exact ok.of_tank (drainModeChanges_tank m s)
  · exact ok

theorem reqClearFault_timeOk (n : Nat) {s : State} (ok : TimeOk s) : TimeOk (reqClearFault n s).state :=
  match n with
  | 0 => inRunOnly_timeOk (fun s _ h => by
      split
      · exact (h.of_control (gateClears_control s)).of_tank (afterGate_tank _ _)
      · exact h) ok
  | 1 => inRunOnly_timeOk (fun s _ h => by
      split
      · exact h.of_tank (pumpClears_tank s)
      · exact h) ok
  | _ + 2 => inRunOnly_timeOk (fun _ _ h => h) ok

theorem takeRequest_timeOk (c : GaugeCounts) (code : Nat) (args : List Byte) {s : State} (ok : TimeOk s) :
    TimeOk (takeRequest c code args s).state := by
  unfold takeRequest
  split
  case h_1 =>
    split
    · exact inConfigOnly_timeOk (fun _ _ h => h) ok
    · exact inConfigOnly_timeOk (fun s _ h => by dsimp only; split <;> exact h) ok
  case h_2 => exact reqCommit_timeOk c ok
  case h_4 => unfold reqReadPeer; split <;> exact ok
  case h_5 => unfold reqReadLogSlot; split <;> exact ok
  case h_6 =>
    unfold reqReleaseRecord; split_ifs
    · exact ok
    · exact ok
    · exact ok.of_control (releaseOldest_control s)
  case h_11 => unfold reqReadCapture; split <;> exact ok
  case h_14 => exact reqSetTime_timeOk _ ok
  case h_15 =>
    unfold reqGateMode; split
    · exact ok
    · exact setGateMode_timeOk _ ok
  case h_16 =>
    unfold reqDrainMode; split
    · exact ok
    · exact setDrainMode_timeOk _ ok
  case h_17 => exact inRunOnly_timeOk (fun s _ h => h.of_tank (queueBody_tank _ s)) ok
  case h_18 => exact inRunOnly_timeOk (fun s _ h => h.of_time (silenceRequest_time s) (silenceRequest_blocks s)) ok
  case h_19 => exact inRunOnly_timeOk (fun s _ h => h.of_time (rejoinRequest_time s) (rejoinRequest_blocks s)) ok
  case h_20 => exact reqClearFault_timeOk _ ok
  case h_21 =>
    obtain ⟨t, e⟩ := restartPart_time s
    exact .of_zero (t.trans_le ok.1) e
  case h_22 =>
    refine inConfigOnly_timeOk (fun s _ h => ?_) ok
    dsimp only
    split
    · exact h
    · split <;> exact h
  all_goals exact ok

/-! ### Every step -/

/-- An event whose guard may hold it back. -/
theorem ite_timeOk {p : Prop} [Decidable p] {s t : State} (ok : TimeOk s) (h : TimeOk t) :
    TimeOk (if p then t else s) := by
  split
  · exact h
  · exact ok

/-- R48, R55: every event keeps trunk time and the estimate in bounds. -/
theorem event_timeOk (c : Instr) (s t : State) (v : isEvent c) (h : TimeOk s) (e : exec c s = .next t) : TimeOk t := by
  obtain ⟨request, transaction⟩ := v
  cases c with
  | fullReset => cases e; exact .of_zero (Nat.zero_le _) rfl
  | loopTestGathered => cases e; unfold loopGathered endLoopTest; split <;> exact h
  | loopTestTimeout => cases e; unfold loopTimeout endLoopTest; split <;> (try split) <;> exact h
  | lineFree => cases e; exact ite_timeOk h (h.of_time (takeLineFree_time s) (takeLineFree_blocks s))
  | deferralExpiry => cases e; exact ite_timeOk h (h.of_time (beginAttempt_time s) (beginAttempt_blocks s))
  | collision n => cases e; exact h.of_time (takeCollision_time n s) (takeCollision_blocks n s)
  | lastByteDriven =>
    cases e
    split
    · exact h
    · exact ite_timeOk h (h.of_time (attemptEnds_time ..) (attemptEnds_blocks ..))
  | backoffExpiry => cases e; exact ite_timeOk h (h.of_time (transmitterRests_time s) (transmitterRests_blocks s))
  | byteReceived b =>
    cases e
    split
    · next run => exact (receiveByte_bound b h.bound).of_run ((inRun_of_blocks (receiveByte_blocks b s)).trans run)
    · exact h
  | presenceIntervalExpiry =>
    cases e
    have restarted : TimeOk (restartPresence s) := h
    exact ite_timeOk h (restarted.of_tank (queueBody_tank _ _))
  | cutoffHoldExpiry => cases e; exact ite_timeOk h (h.of_time (holdElapses_time s) (holdElapses_blocks s))
  | claimPartStale p =>
    cases e
    split
    · exact h
    · exact ite_timeOk h (h.of_time (drainTakesShareNotice_time _) (claimGoesStale_blocks p s))
  | claimPartRemoved p =>
    cases e
    split
    · exact h
    · exact ite_timeOk h (h.of_time (drainTakesShareNotice_time _) (claimGoes_blocks p s))
  | rainLifetimeExpiry p => cases e; exact ite_timeOk h (h.of_time (formBranchAlert_time _) (rainGoes_blocks p s))
  | forgetTimeExpiry p => cases e; exact h
  | limitValidityExpiry => cases e; exact ite_timeOk h (h.of_time (drainTakesShareNotice_time _) (limitLapses_blocks s))
  | anchorPreferenceLapse => cases e; exact ite_timeOk h h
  | trunkTimeTick => cases e; exact advanceTime_timeOk h
  | adjust =>
    cases e
    split
    · exact h
    · exact ite_timeOk h (makeAdjust_timeOk h)
  | sample k => cases e; exact ite_timeOk h (h.of_time (takeSample_time k s) (takeSample_blocks k s))
  | rawTransition => cases e; exact h
  | filterExpiry i =>
    cases e
    split
    · exact h
    · exact h.of_time (takeEdge_time ..) (takeEdge_blocks ..)
  | releaseTimerExpiry => cases e; exact ite_timeOk h (h.of_tank (releaseExpires_tank s))
  | gateTravelExpiry =>
    cases e; exact ite_timeOk h ((h.of_control (travelExpires_control s)).of_tank (afterGate_tank _ _))
  | retryWaitExpiry => cases e; exact ite_timeOk h ((h.of_tank (retryWaitExpires_tank s)).of_tank (afterGate_tank _ _))
  | reversalPauseExpiry => cases e; exact ite_timeOk h ((h.of_tank (pauseExpires_tank s)).of_tank (afterGate_tank _ _))
  | startDebounceExpiry => cases e; exact ite_timeOk h (h.of_time (confirmSpill_time s) (confirmSpill_blocks s))
  | stopDebounceExpiry => cases e; exact ite_timeOk h (h.of_time (endSpill_time s) (endSpill_blocks s))
  | minuteEnd => cases e; exact ite_timeOk h (h.of_control (minuteEnds_control s))
  | alertHoldExpiry => cases e; exact ite_timeOk h (h.of_control (holdExpires_control s))
  | rainRepeatExpiry => cases e; exact ite_timeOk h (h.of_control (queueRain_control s))
  | claimTimerExpiry => cases e; exact ite_timeOk h (h.of_tank (claimTimerExpires_tank s))
  | startTimeoutExpiry => cases e; exact ite_timeOk h (h.of_control (pumpTimeout_control s))
  | stopTimeoutExpiry => cases e; exact ite_timeOk h (h.of_control (pumpTimeout_control s))
  | restTimerExpiry => cases e; exact ite_timeOk h (h.of_tank (restExpires_tank s))
  | blockNominalEnd => cases e; exact h.of_control (blockNominalEnd_control s)
  | transaction g n k => exact absurd rfl (transaction g n k)
  | _ => cases request

/-- Settles O55: T and E are set by the Time Unit alone, and each of its operations holds them at their bounds; STEP_LIMIT
changes only at a COMMIT, where E is 0. -/
theorem stepKeepsTimeInBounds : Obligations.StepKeepsTimeInBounds :=
  step_keeps (fun _ _ ok => ok) (exec_keeps (fun _ _ k code args ok => takeRequest_timeOk k code args ok) (fun _ _ ok => ok)
    event_timeOk)

end Sys2Proof.Machine
end

section
/-! SUPPORT. The alerts are not kept where the peer table holds one address twice (O59): R34 evicts by address, and the statement
has no premise on the table (R32, `PeersOk`). -/

namespace Sys2Proof.Machine

/-- A PRESENCE of station 3.9, which has no entry. -/
def newcomer : List Byte := composeBulletin .presence 0x0309 .unset false 0

/-- An entry of station 3.7 without parts. -/
def bareEntry : PeerEntry := ⟨0x0307, 0, 0, 0, .unset, false, none, none, 0⟩

/-- A second entry of station 3.7, its rain part at WARNING. -/
def warningEntry : PeerEntry := { bareEntry with rain := some ⟨.warning, 0, 0, 0, 0⟩ }

/-- Station 3.4 in RUN, its peer table full of entries of station 3.7, about to take the last byte of the newcomer's
PRESENCE. -/
def crowded : State := { State.reset with
  port := { Port.reset with
    run := .run
    committed := { factoryItems with
      stationAddress := some 0x0304
      accept := { factoryItems.accept with e0 := ⟨0, 0, ⟨true, false, false, false⟩⟩ } } }
  trunk := { Trunk.reset with rx := .frame ⟨newcomer.dropLast, 0, false, false⟩ }
  peers := ⟨bareEntry :: List.replicate 23 warningEntry, none⟩
  rain := { Rain.reset with branch := .warning }
  input := { InputUnit.reset with lamp := true }
  pending := [.byteReceived (newcomer.getLastD 0)] }

theorem crowded_alertsOk : AlertsOk crowded := by
  intro _
  have entries : ∀ e ∈ crowded.peers.entries, e = bareEntry ∨ e = warningEntry := fun e he =>
    (List.mem_cons.mp he).imp_right fun h => (List.mem_replicate.mp h).2
  have held : warningEntry ∈ crowded.peers.entries := .tail _ (.head _)
  refine ⟨by decide, by decide, fun e he p hp => ?_, .inr ⟨warningEntry, held, _, rfl, rfl⟩, by decide, by decide⟩
  rcases entries e he with rfl | rfl
  · cases hp
  · cases hp; decide

/-- R34 a: the newcomer takes the place of the bare entry, and every entry of its address goes with it. -/
theorem step_crowded : ∃ t, step crowded = .next t ∧ t.inRun = true ∧ t.rain.branch = .warning ∧ t.rain.own = .clear ∧
    t.peers.entries.map PeerEntry.rain = [none] := by
  have run : ({ crowded with pending := [] } : State).inRun = true := rfl
  exact ⟨_, byteReceived_runs (b := newcomer.getLastD 0) run, by decide +kernel⟩

/-- Refutes O59: the eviction of R34 drops the rain part that the branch alert WARNING comes from, and no branch alert is
formed, so it stands above the own alert with no rain part to give it. -/
theorem not_stepKeepsAlerts : ¬ Obligations.StepKeepsAlerts := by
  intro keeps
  obtain ⟨t, stepped, run, branch, own, rains⟩ := step_crowded
  obtain ⟨_, _, _, given, _⟩ := keeps crowded t crowded_alertsOk stepped run
  rcases given with same | ⟨e, he, p, hp, _⟩
  · rw [branch, own] at same; cases same
  · have none : e.rain = .none := by simpa [rains] using List.mem_map_of_mem (f := PeerEntry.rain) he
    rw [none] at hp; cases hp

end Sys2Proof.Machine
end

section
/-! SUPPORT. READ_CAPTURE (O13): the capture records of an input, answered and then cleared. -/

namespace Sys2Proof.Machine

/-! ### READ_CAPTURE -/

/-- The five digital inputs in the order of their numbers (5.1). -/
theorem inputOf_eq (n : Nat) : inputOf n =
    [DigitalIn.rainTip, .gateOpenLimit, .gateClosedLimit, .spillFloat, .pumpRunning][n]? :=
  match n with
  | 0 => rfl
  | 1 => rfl
  | 2 => rfl
  | 3 => rfl
  | 4 => rfl
  | _ + 5 => rfl

theorem captureData_eq (i : DigitalIn) (s : State) : captureData i s =
    [if (s.input.digital.get i).rising.captured then 1 else 0, if (s.input.digital.get i).rising.lost then 1 else 0] ++
      bytesOf 6 (s.input.digital.get i).rising.stamp ++
      [if (s.input.digital.get i).falling.captured then 1 else 0, if (s.input.digital.get i).falling.lost then 1 else 0] ++
      bytesOf 6 (s.input.digital.get i).falling.stamp := by
  simp [captureData, captureField, boolField, stampField]

/-- Settles O13: an input's number finds its capture records, which are answered and then replaced by their cleared selves. -/
theorem readCaptureClearsFlags : Obligations.ReadCaptureClearsFlags := by
  refine fun s input => ⟨fun past => ⟨_, rfl, ?_⟩, fun i known => ⟨_, rfl, ?_⟩⟩
  · have unknown : inputOf input.toNat = none := by rw [inputOf_eq]; exact List.getElem?_eq_none past
    unfold reqReadCapture
    rw [unknown]
    rfl
  · have found : inputOf input.toNat = some i := by rw [inputOf_eq]; exact known
    unfold reqReadCapture
    rw [found]
    refine ⟨congrArg (responseFrame _ _) (captureData_eq i s), perInput_get_set _ i _, fun j other => ?_, rfl⟩
    exact perInput_get_set_other _ _ other

end Sys2Proof.Machine
end

section
/-! SUPPORT. What the Spill Counter's operations leave (`outsideCounter`): everything but its own event, blocks, records and
totals and the event flags. -/

namespace Sys2Proof.Machine

/-- All but the Spill Counter and the event flags with the attention line; of the Counter, the spill state that it holds and
the read position of its log. -/
def outsideCounter (s : State) : State :=
  { s with
    counter := { Counter.reset with
      spill := s.counter.spill, log := { SpillLog.reset with readPos := s.counter.log.readPos } }
    port := { s.port with flags := 0, attention := false } }

theorem outsideCounter_fields {s t : State} (h : outsideCounter t = outsideCounter s) :
    t.elapsed = s.elapsed ∧ t.trunk = s.trunk ∧ t.peers = s.peers ∧ t.time = s.time ∧ t.input = s.input ∧ t.tank = s.tank ∧
    t.spill = s.spill ∧ t.rain = s.rain ∧ t.drain = s.drain ∧ t.free = s.free ∧ t.cfg = s.cfg ∧
    t.counter.spill = s.counter.spill ∧ t.counter.log.readPos = s.counter.log.readPos := by
  have same : ∀ {α : Type} (f : State → α), f (outsideCounter t) = f (outsideCounter s) := fun f => congrArg f h
  exact ⟨same State.elapsed, same State.trunk, same State.peers, same State.time, same State.input, same State.tank,
    same State.spill, same State.rain, same State.drain, same State.free, same State.cfg, same fun u => u.counter.spill,
    same fun u => u.counter.log.readPos⟩

theorem putSlots_readPos (l : SpillLog) (k : Nat) (bs : List (List Byte)) : (l.putSlots k bs).readPos = l.readPos := by
  induction bs generalizing l k with
  | nil => rfl
  | cons b bs ih => exact ih _ _

/-- A log of another content with the same read position does not show. -/
theorem outsideCounter_log (l : SpillLog) (s : State) (h : l.readPos = s.counter.log.readPos) :
    outsideCounter { s with counter.log := l } = outsideCounter s := by
  unfold outsideCounter; dsimp only; rw [h]

/-- R176: a record placed, pending or dropped. -/
@[simp] theorem placeRecord_counter (r : SpillRecord) (s : State) : outsideCounter (placeRecord r s) = outsideCounter s := by
  have raised : ∀ (f : EventFlag) (u : State), outsideCounter (raise f u) = outsideCounter u := fun _ _ => rfl
  unfold placeRecord; dsimp only; split_ifs
  · rw [raised]; exact outsideCounter_log _ s (putSlots_readPos _ _ _)
  · rfl
  · rfl

@[simp] theorem closeEvent_counter (n : Nat) (m : RecordFlags → RecordFlags) (s : State) :
    outsideCounter (closeEvent n m s) = outsideCounter s := by
  unfold closeEvent; split
  · rfl
  · rw [placeRecord_counter]; rfl

@[simp] theorem splitEvent_counter (x : Stamped) (p : Nat) (s : State) :
    outsideCounter (splitEvent x p s) = outsideCounter s := by
  have opened : ∀ (f : RecordFlags) (u : State), outsideCounter (openEvent x f 0 p false u) = outsideCounter u :=
    fun _ _ => rfl
  have decided : ∀ u : State, outsideCounter (decideSwitchOnly u) = outsideCounter u := fun _ => rfl
  unfold splitEvent; dsimp only; split
  · rfl
  · split
    · rw [opened, closeEvent_counter, decided]
    · exact closeEvent_counter _ _ _

@[simp] theorem countBlock_counter (b : Block) (s : State) : outsideCounter (countBlock b s) = outsideCounter s := rfl

@[simp] theorem countCurrent_counter (b : Block) (s : State) : outsideCounter (countCurrent b s) = outsideCounter s := by
  unfold countCurrent; dsimp only; split
  · rw [splitEvent_counter, countBlock_counter]
  · rfl

@[simp] theorem blockEnd_counter (b : Block) (s : State) : outsideCounter (blockEnd b s) = outsideCounter s := by
  unfold blockEnd; split
  · split
    · exact countCurrent_counter b s
    · split
      · rfl
      · exact closeEvent_counter _ _ _
  · rfl
  · dsimp only; rw [countCurrent_counter]; rfl

@[simp] theorem blockNominalEnd_counter (s : State) : outsideCounter (blockNominalEnd s) = outsideCounter s := by
  unfold blockNominalEnd; split
  · rfl
  · split
    · exact blockEnd_counter _ s
    · rfl

@[simp] theorem counterConfirms_counter (s : State) : outsideCounter (counterConfirms s) = outsideCounter s := by
  have cleared : ∀ u : State, outsideCounter (clearSummary u) = outsideCounter u := fun _ => rfl
  unfold counterConfirms; split
  · rfl
  · unfold confirmDeferred; dsimp only; rw [cleared]; split
    · rw [splitEvent_counter]; rfl
    · rfl
  · rfl
  · rfl

@[simp] theorem counterLapses_counter (s : State) : outsideCounter (counterLapses s) = outsideCounter s := by
  unfold counterLapses; dsimp only; split
  · split_ifs
    · rw [splitEvent_counter]; rfl
    · rfl
    · rw [closeEvent_counter]; rfl
  · rfl

/-- R114a: the notice of the spill state sets the state that the Counter holds. -/
theorem counterTakesSpillState_counter (s : State) :
    outsideCounter (counterTakesSpillState s) = outsideCounter { s with counter.spill := s.spill.state } := by
  unfold counterTakesSpillState; dsimp only; split
  · rw [counterConfirms_counter]
  · rw [counterLapses_counter]
  all_goals rfl

@[simp] theorem counterTakesSample_counter (n : SampleNotice) (s : State) :
    outsideCounter (counterTakesSample n s) = outsideCounter s := by
  unfold counterTakesSample; split_ifs <;> rfl

end Sys2Proof.Machine
end

section
/-! SUPPORT. The drives as the gate, the pump and the setpoint call for (O57): the operations of the gate and of the pump set
drive and state together, and the operations of the other blocks reach the drives through them alone. -/

namespace Sys2Proof.Machine

/-! ### What the invariant reads -/

/-- What the invariant of the drives reads. -/
def driveState (s : State) : State := { State.reset with
  input := { InputUnit.reset with
    gateDrive := s.input.gateDrive, pumpRun := s.input.pumpRun, pumpRate := s.input.pumpRate }
  tank := { Tank.reset with gate := s.tank.gate }
  drain := { Drain.reset with pump := s.drain.pump, setpoint := s.drain.setpoint }
  port := { Port.reset with committed := s.port.committed } }

theorem DrivesOk.of_same {s t : State} (h : DrivesOk s) (same : driveState t = driveState s) : DrivesOk t := by
  have e : ∀ x, DrivesOk x = DrivesOk (driveState x) := fun _ => rfl
  rw [e t, same, ← e s]
  exact h

theorem driveState_of_counter {s t : State} (h : outsideCounter t = outsideCounter s) : driveState t = driveState s := by
  have e : ∀ x, driveState x = driveState (outsideCounter x) := fun _ => rfl
  rw [e t, h, ← e s]

theorem driveState_of_sample {s t : State} (h : outsideSample t = outsideSample s) : driveState t = driveState s := by
  have e : ∀ x, driveState x = driveState (outsideSample x) := fun _ => rfl
  rw [e t, h, ← e s]

/-- At rest nothing is driven, the gate is not moving and the setpoint is 0 (R79, R106, R162). -/
theorem AtRest.drives {s : State} (h : AtRest s) : DrivesOk s := by
  obtain ⟨_, _, _, _, ⟨_, _, _, _, _, _, gateDrive, run, rate, _⟩, ⟨_, _, _, _, _, _, _, gate⟩, _, _,
    ⟨setpoint, _, _, _, _, _, driven⟩, _⟩ := h
  obtain ⟨opening, closing, _⟩ := restGate_rests gate
  refine ⟨?_, run.trans driven.symm, fun drawn => absurd setpoint drawn, ?_⟩
  · rw [gateDrive, driveOf.eq_def]
    split
    · next moving => exact absurd moving opening
    · next moving => exact absurd moving closing
    · rfl
  · rw [rate, setpoint, Nat.zero_mul, Nat.zero_div]

theorem inEitherOrder_drives {f g : State → State} (hf : ∀ {t}, DrivesOk t → DrivesOk (f t))
    (hg : ∀ {t}, DrivesOk t → DrivesOk (g t)) {s : State} (h : DrivesOk s) : DrivesOk (inEitherOrder f g s) :=
  inEitherOrder_holds DrivesOk (fun _ ok => hg (hf ok)) (fun _ ok => hf (hg ok)) h

/-! ### The pump -/

/-- R75, R150: a setpoint other than 0 is set only while the pump is driven. -/
theorem setSetpoint_drives {s : State} (h : DrivesOk s) (n : Nat) (driven : n ≠ 0 → pumpDriven s.drain.pump = true) :
    DrivesOk (setSetpoint n s) :=
  ⟨h.1, h.2.1, driven, rfl⟩

theorem pumpStart_drives {s : State} (h : DrivesOk s) : DrivesOk (pumpStart s) := by
  unfold pumpStart; split
  · exact ⟨h.1, rfl, fun _ => rfl, rfl⟩
  · exact h

theorem commandStop_drives {s : State} (h : DrivesOk s) : DrivesOk (commandStop s) := by
  have zero : DrivesOk (setSetpoint 0 s) := setSetpoint_drives h 0 fun n => absurd rfl n
  unfold commandStop; dsimp only; split
  · exact ⟨h.1, rfl, fun n => absurd rfl n, rfl⟩
  · exact zero

theorem pumpDriven_iff {p : Option PumpState} : pumpDriven p = true ↔ p = some .starting ∨ p = some .running := by
  rcases p with _ | p
  · simp [pumpDriven]
  · cases p <;> simp [pumpDriven]

theorem followShare_drives {s : State} (h : DrivesOk s) : DrivesOk (followShare s) := by
  unfold followShare
  split
  · next follows =>
    have driven := pumpDriven_iff.mpr follows.2
    split_ifs
    · exact commandStop_drives h
    · exact setSetpoint_drives h _ fun _ => driven
    · exact setSetpoint_drives h _ fun _ => driven
    · exact h
  · exact h

/-- R156: in FAULT nothing is driven. -/
theorem pumpFaults_drives {s : State} (h : DrivesOk s) : DrivesOk (pumpFaults s) :=
  ⟨h.1, rfl, fun n => absurd rfl n, rfl⟩

/-- R154 a, R157 a: a pump that is not driven comes to rest. -/
theorem pumpStops_drives {s : State} (h : DrivesOk s) (still : pumpDriven s.drain.pump = false) : DrivesOk (pumpStops s) := by
  obtain ⟨gate, run, setpoint, rate⟩ := h
  exact ⟨gate, run.trans still, fun n => by rw [still] at setpoint; exact absurd (setpoint n) Bool.false_ne_true, rate⟩

/-! ### The claim and the share -/

theorem queueBody_drives {s : State} (h : DrivesOk s) (b : Body) : DrivesOk (queueBody b s) :=
  h.of_same (by rw [queueBody_sets]; rfl)

theorem queueClaim_drives {s : State} (h : DrivesOk s) : DrivesOk (queueClaim s) := by
  unfold queueClaim; exact queueBody_drives h _

theorem formClaim_drives {s : State} (h : DrivesOk s) : DrivesOk (formClaim s) := by
  have formed : DrivesOk { s with drain.claim := claimNow s } := h
  unfold formClaim; dsimp only; split
  · exact queueClaim_drives formed
  · exact formed

theorem shareAndSetpoint_drives {s : State} (h : DrivesOk s) : DrivesOk (shareAndSetpoint s) := by
  have followed : DrivesOk (followShare (runShare s)) := followShare_drives h
  unfold shareAndSetpoint; dsimp only; split
  · exact followed
  · exact formClaim_drives followed

theorem reformClaim_drives {s : State} (h : DrivesOk s) : DrivesOk (reformClaim s) :=
  shareAndSetpoint_drives (formClaim_drives h)

theorem drainTakesTankState_drives {s : State} (h : DrivesOk s) : DrivesOk (drainTakesTankState s) := by
  unfold drainTakesTankState; split
  · exact reformClaim_drives (pumpStart_drives h)
  · exact reformClaim_drives (commandStop_drives h)

/-! ### The gate -/

theorem driveOf_atLimit (d : GateDir) : driveOf (some d.atLimit) = .off := by cases d <;> rfl

theorem driveOf_moving (d : GateDir) : driveOf (some d.moving) = d.drive := by cases d <;> rfl

theorem gateArrives_drives {s : State} (h : DrivesOk s) (d : GateDir) : DrivesOk (gateArrives d s) :=
  ⟨(driveOf_atLimit d).symm, h.2⟩

theorem beginTravel_drives {s : State} (h : DrivesOk s) (d : GateDir) (c : Nat) : DrivesOk (beginTravel d c s) := by
  unfold beginTravel; split
  · exact gateArrives_drives h d
  · exact ⟨(driveOf_moving d).symm, h.2⟩

theorem reverseGate_drives {s : State} (h : DrivesOk s) (d : GateDir) : DrivesOk (reverseGate d s) := ⟨rfl, h.2⟩

theorem gateFaults_drives {s : State} (h : DrivesOk s) : DrivesOk (gateFaults s) := ⟨rfl, h.2⟩

theorem gateActsOn_drives {s : State} (h : DrivesOk s) (d : GateDir) : DrivesOk (gateActsOn d s) := by
  unfold gateActsOn
  split
  case h_1 | h_2 | h_7 => exact beginTravel_drives h _ 0
  case h_3 | h_4 => exact reverseGate_drives h _
  case h_5 =>
    split
    · exact h
    · exact reverseGate_drives h _
  case h_6 | h_8 => exact h

theorem gateActsOnTarget_drives {s : State} (h : DrivesOk s) : DrivesOk (gateActsOnTarget s) := by
  unfold gateActsOnTarget; split
  · exact h
  · exact gateActsOn_drives h _

theorem retarget_drives {s : State} (h : DrivesOk s) : DrivesOk (retarget s) := by
  have targeted : ∀ x, DrivesOk { s with tank.target := x } := fun _ => h
  unfold retarget; dsimp only; split
  · exact h
  · exact gateActsOnTarget_drives (targeted _)

theorem gateTakesEdge_drives {s : State} (h : DrivesOk s) (d : GateDir) (r : Bool) : DrivesOk (gateTakesEdge d r s) := by
  unfold gateTakesEdge
  split_ifs
  · exact h
  · exact gateFaults_drives h
  · exact gateArrives_drives h d
  · exact gateArrives_drives h d
  · exact h
  · exact beginTravel_drives h d 0
  · exact h

theorem travelExpires_drives {s : State} (h : DrivesOk s) : DrivesOk (travelExpires s) := by
  unfold travelExpires; split
  · exact ⟨rfl, h.2⟩
  · exact gateFaults_drives h

theorem retryWaitExpires_drives {s : State} (h : DrivesOk s) : DrivesOk (retryWaitExpires s) := by
  unfold retryWaitExpires; split
  · exact h
  · exact beginTravel_drives h _ _

theorem pauseExpires_drives {s : State} (h : DrivesOk s) : DrivesOk (pauseExpires s) := by
  unfold pauseExpires; split
  · exact h
  · exact beginTravel_drives h _ _

/-- R88: the limits give no state in which the gate is driven. -/
theorem driveOf_gateFromLimits (s : State) : driveOf (some (gateFromLimits s)) = .off := by
  unfold gateFromLimits; split <;> rfl

/-- R102 a: out of FAULT, where the drive is OFF. -/
theorem gateClears_drives {s : State} (h : DrivesOk s) (off : s.input.gateDrive = .off) : DrivesOk (gateClears s) := by
  have drive := driveOf_gateFromLimits s
  unfold gateClears; split
  · exact gateFaults_drives h
  · exact gateActsOnTarget_drives ⟨off.trans drive.symm, h.2⟩

/-! ### The tank -/

theorem releaseDeferred_drives {s : State} (h : DrivesOk s) : DrivesOk (releaseDeferred s) := by
  have released : DrivesOk { s with tank.openDeferred := false } := h
  unfold releaseDeferred; split
  · exact retarget_drives released
  · exact h

theorem tankMoves_drives {s : State} (h : DrivesOk s) (t : TankState) : DrivesOk (tankMoves t s) := retarget_drives h

theorem tankEnters_drives {s : State} (h : DrivesOk s) (t : TankState) : DrivesOk (tankEnters t s) :=
  releaseDeferred_drives (drainTakesTankState_drives (tankMoves_drives h t))

theorem tankCascade_drives {s : State} (h : DrivesOk s) (n : Nat) (a b : Bool) : DrivesOk (tankCascade n a b s) := by
  induction n generalizing a b s with
  | zero => exact h
  | succ n ih =>
    unfold tankCascade; split
    · exact h
    · dsimp only; split
      · exact ih (tankEnters_drives h _) _ _
      · exact tankEnters_drives h _

theorem tankEvaluate_drives {s : State} (h : DrivesOk s) (a : Bool) : DrivesOk (tankEvaluate a s) :=
  tankCascade_drives h _ _ _

theorem tankTakesDrainNotice_drives {s : State} (h : DrivesOk s) : DrivesOk (tankTakesDrainNotice s) :=
  tankEvaluate_drives (releaseDeferred_drives h) false

theorem afterDrain_drives {t : State} (h : DrivesOk t) (s : State) : DrivesOk (afterDrain s t) := by
  unfold afterDrain; split
  · exact tankTakesDrainNotice_drives h
  · exact h

theorem afterGate_drives {t : State} (h : DrivesOk t) (s : State) : DrivesOk (afterGate s t) := by
  unfold afterGate; split
  · exact h
  · exact tankEvaluate_drives h false

theorem drainTakesNotice_drives {s : State} (h : DrivesOk s) : DrivesOk (drainTakesNotice s) :=
  afterDrain_drives (reformClaim_drives h) s

theorem drainTakesShareNotice_drives {s : State} (h : DrivesOk s) : DrivesOk (drainTakesShareNotice s) :=
  afterDrain_drives (shareAndSetpoint_drives h) s

theorem updateRelease_drives {s : State} (h : DrivesOk s) : DrivesOk (updateRelease s) := by
  unfold updateRelease; split_ifs <;> exact h

theorem tankTakesAlert_drives {s : State} (h : DrivesOk s) : DrivesOk (tankTakesAlert s) :=
  tankEvaluate_drives (updateRelease_drives h) false

theorem measureVolume_drives {s : State} (h : DrivesOk s) : DrivesOk (measureVolume s) := by
  unfold measureVolume; split <;> exact h

theorem tankTakesSample_drives {s : State} (h : DrivesOk s) (f : Bool) : DrivesOk (tankTakesSample f s) := by
  have measured := updateRelease_drives (measureVolume_drives h)
  unfold tankTakesSample; dsimp only; split
  · exact inEitherOrder_drives drainTakesNotice_drives (fun ok => tankEvaluate_drives ok true) measured
  · exact tankEvaluate_drives measured true

theorem releaseExpires_drives {s : State} (h : DrivesOk s) : DrivesOk (releaseExpires s) := by
  have entered := tankEnters_drives h .holding
  unfold releaseExpires; dsimp only; split_ifs
  · exact tankEvaluate_drives entered false
  · exact entered
  · exact h

theorem pumpChanges_drives {t : State} (h : DrivesOk t) (s : State) : DrivesOk (pumpChanges s t) :=
  afterDrain_drives (reformClaim_drives h) s

/-- R152 to R156: a start that runs is driven as before, and a stop that has stopped is not driven. -/
theorem drainTakesEdge_drives {s : State} (h : DrivesOk s) (r : Bool) : DrivesOk (drainTakesEdge r s) := by
  unfold drainTakesEdge
  split
  case h_1 starting =>
    obtain ⟨gate, run, _, rate⟩ := h
    have running : DrivesOk { s with drain.pump := some .running, drain.pumpTimer := none } :=
      ⟨gate, run.trans (by rw [starting]; rfl), fun _ => rfl, rate⟩
    exact pumpChanges_drives running s
  case h_2 | h_4 => exact pumpChanges_drives (pumpFaults_drives h) s
  case h_3 stopping => exact pumpChanges_drives (pumpStops_drives h (by rw [stopping]; rfl)) s
  case h_5 => exact pumpChanges_drives h s
  case h_6 => exact h

theorem restExpires_drives {s : State} (h : DrivesOk s) : DrivesOk (restExpires s) := by
  have rested : DrivesOk { s with drain.restTimer := none, drain.restElapsed := true } := h
  exact tankTakesDrainNotice_drives rested

/-! ### The Rain Unit -/

theorem formBranchAlert_drives {s : State} (h : DrivesOk s) : DrivesOk (formBranchAlert s) := by
  have told : DrivesOk (alerted s) := h
  unfold formBranchAlert; dsimp only; split
  · exact h
  · exact inEitherOrder_drives drainTakesShareNotice_drives tankTakesAlert_drives told

theorem queueRain_drives {s : State} (h : DrivesOk s) : DrivesOk (queueRain s) := by
  have repeated : ∀ x, DrivesOk { s with rain.rainRepeat := x } := fun _ => h
  exact queueBody_drives (repeated _) _

theorem evaluateAlert_drives {s : State} (h : DrivesOk s) : DrivesOk (evaluateAlert s) := by
  unfold evaluateAlert; dsimp only; split
  · exact formBranchAlert_drives (queueRain_drives h)
  · unfold updateHold; split_ifs <;> exact h

theorem holdExpires_drives {s : State} (h : DrivesOk s) : DrivesOk (holdExpires s) :=
  evaluateAlert_drives (formBranchAlert_drives (queueRain_drives h))

theorem minuteEnds_drives {s : State} (h : DrivesOk s) : DrivesOk (minuteEnds s) := evaluateAlert_drives h

theorem rainTakesEdge_drives {s : State} (h : DrivesOk s) (r : Bool) (x : Stamped) : DrivesOk (rainTakesEdge r x s) := by
  unfold rainTakesEdge; split_ifs
  · exact evaluateAlert_drives h
  · exact h
  · exact h

/-! ### The Spill Monitor and the Input Unit -/

theorem notifySpill_drives {s : State} (h : DrivesOk s) : DrivesOk (notifySpill s) := by
  have taken := driveState_of_counter (counterTakesSpillState_counter s)
  have told : DrivesOk (evaluateLamp (counterTakesSpillState s)) := h.of_same taken
  exact inEitherOrder_drives drainTakesNotice_drives evaluateAlert_drives told

theorem spillEvaluates_drives {s : State} (h : DrivesOk s) (c : Stamped) : DrivesOk (spillEvaluates c s) := by
  have changed : ∀ p, DrivesOk (notifySpill { s with spill := p }) := fun p => notifySpill_drives h
  unfold spillEvaluates enterOnset lapseSpell enterSubsiding resumeSpilling
  split
  case h_5 => exact h
  all_goals exact changed _

theorem confirmSpill_drives {s : State} (h : DrivesOk s) : DrivesOk (confirmSpill s) := notifySpill_drives h

theorem endSpill_drives {s : State} (h : DrivesOk s) : DrivesOk (endSpill s) := notifySpill_drives h

theorem spillTakesEdge_drives {s : State} (h : DrivesOk s) (r : Bool) (e : Stamped) : DrivesOk (spillTakesEdge r e s) := by
  have edged : DrivesOk { s with spill.floatCond := r } := h
  exact spillEvaluates_drives edged _

theorem takeSpillSample_drives {s : State} (h : DrivesOk s) (a : SpillState) (n : Nat) :
    DrivesOk (takeSpillSample a n s) := by
  have counted : ∀ (x : SampleNotice) {u : State}, DrivesOk u → DrivesOk (counterTakesSample x u) := fun x u ok =>
    ok.of_same (driveState_of_counter (counterTakesSample_counter x u))
  have integrated : ∀ p, DrivesOk (integrateSample n p s) := fun _ => h
  unfold takeSpillSample; dsimp only; split_ifs
  · exact h
  · exact counted _ h
  all_goals exact counted _ (integrated _)

theorem convertGauge_drives {s : State} (h : DrivesOk s) (g : Gauge) (r : BitVec 12) : DrivesOk (convertGauge g r s) := by
  unfold convertGauge; dsimp only; split <;> exact h

theorem takeSample_drives {s : State} (h : DrivesOk s) (c : GaugeCounts) : DrivesOk (takeSample c s) := by
  have tank : ∀ {t}, DrivesOk t → DrivesOk (sampleTank c t) := fun ok =>
    tankTakesSample_drives (convertGauge_drives (convertGauge_drives ok _ _) _ _) _
  have overflow : ∀ {t}, DrivesOk t → DrivesOk (sampleOverflow c t) := fun {t} ok => by
    have measured : DrivesOk (measureHead false (convertGauge .overflow c.overflow t)) := convertGauge_drives ok _ _
    exact takeSpillSample_drives (spillEvaluates_drives measured _) _ _
  have timed : DrivesOk { s with input.nextSample := some (s.elapsed + seconds s.cfg.samplePeriod) } := h
  exact inEitherOrder_drives tank overflow timed

theorem takeEdge_drives {s : State} (h : DrivesOk s) (i : DigitalIn) (e : Candidate) : DrivesOk (takeEdge i e s) := by
  have recognised : ∀ d, DrivesOk (setInput i d s) := fun _ => h
  unfold takeEdge handEdge
  cases i with
  | rainTip => exact rainTakesEdge_drives (recognised _) _ _
  | gateOpenLimit => exact tankEvaluate_drives (gateTakesEdge_drives (recognised _) _ _) false
  | gateClosedLimit => exact tankEvaluate_drives (gateTakesEdge_drives (recognised _) _ _) false
  | spillFloat => exact spillTakesEdge_drives (recognised _) _ _
  | pumpRunning => exact drainTakesEdge_drives (recognised _) _

/-! ### The Peer Table and the Time Unit -/

theorem stepTime_drives {s : State} (h : DrivesOk s) (n : Nat) (c : ClockState) : DrivesOk (stepTime n c s) :=
  h.of_same (driveState_of_sample (stepTime_sample n c s))

theorem makeAdjust_drives {s : State} (h : DrivesOk s) : DrivesOk (makeAdjust s) := by
  have slewed : ∀ {u : State}, DrivesOk u → DrivesOk (slew u) := fun {u} ok => by rw [slew_sets]; exact ok
  have clocked : ∀ {u : State} (c : ClockState), DrivesOk u → DrivesOk (setClock c u) := fun c ok => by
    unfold setClock; split <;> exact ok
  have ran : ∀ {u : State} (n : Nat), DrivesOk u → DrivesOk { u with time.settleRun := n } := fun _ ok => ok
  have settled : ∀ {u : State}, DrivesOk u → DrivesOk (settleCheck u) := fun ok => by
    unfold settleCheck; split_ifs
    · exact clocked _ (ran 0 ok)
    · exact ran _ ok
    · exact ran 0 ok
    · exact ok
  have timed : DrivesOk { s with time.nextAdjust := s.time.nextAdjust.map (· + seconds 1) } := h
  exact settled (slewed timed)

theorem applyLimit_drives {s : State} (h : DrivesOk s) (l : LimitBody) (a : Addr) (x : Stamped) :
    DrivesOk (applyLimit l a x s) := by
  unfold applyLimit; dsimp only; split
  · exact h
  · split <;> exact h

theorem takeBody_drives {s : State} (h : DrivesOk s) (b : Body) (u : Uses) (a : Addr) (n : Nat) :
    DrivesOk (takeBody b u a n s) := by
  have entries : ∀ es, DrivesOk (setEntries es s) := fun _ => h
  unfold takeBody; dsimp only; split
  · split_ifs
    · exact drainTakesShareNotice_drives (entries _)
    · exact h
  · split_ifs
    · exact formBranchAlert_drives (entries _)
    · exact h
    · exact formBranchAlert_drives (entries _)
    · exact h
  · split_ifs
    · exact drainTakesShareNotice_drives (applyLimit_drives h _ _ _)
    · exact h
  · exact h

theorem takeBulletin_drives {s : State} (h : DrivesOk s) (r : Received) (n : Nat) (b : Bool) :
    DrivesOk (takeBulletin r n b s) := by
  have entered : ∀ hit, DrivesOk (takeEntry r hit n s) := fun hit => by rw [takeEntry_sets]; exact h
  unfold takeBulletin; split
  · exact h
  · dsimp only; split
    · exact inEitherOrder_drives (fun ok => takeBody_drives ok _ _ _ _)
        (fun ok => ok.of_same (driveState_of_sample (timeTakesSample_sample _ _))) (entered _)
    · exact takeBody_drives (entered _) _ _ _ _

/-! ### The Trunk Interface -/

theorem transmitterRests_drives {s : State} (h : DrivesOk s) : DrivesOk (transmitterRests s) := by
  unfold transmitterRests; split
  · rw [enterWaitLine_sets]; exact h
  · exact h

theorem setStanding_drives {s : State} (h : DrivesOk s) (x : Standing) : DrivesOk (setStanding x s) := by
  unfold setStanding; split
  · exact h
  · refine drainTakesShareNotice_drives ?_
    rw [transmitterTakesStanding_sets]; exact h

theorem standFromScores_drives {s : State} (h : DrivesOk s) : DrivesOk (standFromScores s) := by
  unfold standFromScores; dsimp only
  refine setStanding_drives ?_ _
  split <;> exact h

theorem recomputeStanding_drives {s : State} (h : DrivesOk s) : DrivesOk (recomputeStanding s) := by
  unfold recomputeStanding; split
  · exact h
  · exact standFromScores_drives h

theorem raiseTxScore_drives {s : State} (h : DrivesOk s) (n : Nat) : DrivesOk (raiseTxScore n s) :=
  recomputeStanding_drives h

theorem lowerRxScore_drives {s : State} (h : DrivesOk s) : DrivesOk (lowerRxScore s) := recomputeStanding_drives h

theorem holdElapses_drives {s : State} (h : DrivesOk s) : DrivesOk (holdElapses s) := standFromScores_drives h

theorem silenceRequest_drives {s : State} (h : DrivesOk s) : DrivesOk (silenceRequest s).2 := by
  have held : DrivesOk { s with trunk.cutoffHold := none } := h
  unfold silenceRequest; split
  · exact h
  · exact h
  · exact setStanding_drives held _

theorem rejoinRequest_drives {s : State} (h : DrivesOk s) : DrivesOk (rejoinRequest s).2 := by
  unfold rejoinRequest; split
  · exact standFromScores_drives h
  · exact holdElapses_drives h
  · exact h
  · exact h

theorem beginAttempt_drives {s : State} (h : DrivesOk s) : DrivesOk (beginAttempt s) := by
  unfold beginAttempt; split <;> exact h

theorem enterBackoff_drives {s : State} (h : DrivesOk s) (n : Nat) : DrivesOk (enterBackoff n s) := by
  unfold enterBackoff; split <;> exact h

theorem failAttempt_drives {s : State} (h : DrivesOk s) (k : Kind) (score : Nat) : DrivesOk (failAttempt k score s) := by
  have scored : DrivesOk (if score = 0 then s else raiseTxScore score s) := by
    split
    · exact h
    · exact raiseTxScore_drives h score
  have ended : ∀ {u : State}, DrivesOk u → DrivesOk { u with trunk.attempt := none } := fun ok => ok
  have kept : ∀ {u : State} (v : Slot), DrivesOk u → DrivesOk (setSlot k v u) := fun _ ok => ok
  unfold failAttempt; dsimp only; split
  · exact enterBackoff_drives (kept _ (ended scored)) _
  · exact enterBackoff_drives (kept _ (raiseTxScore_drives (ended scored) 20)) 12

theorem cleanSend_drives {s : State} (h : DrivesOk s) (a : Attempt) : DrivesOk (cleanSend a s) := by
  have lowered : DrivesOk (lowerTxScore s) := recomputeStanding_drives h
  have own : ∀ {u : State}, DrivesOk u → DrivesOk (applyOwnLimit a u) := fun ok => by
    unfold applyOwnLimit; split
    · exact drainTakesShareNotice_drives (applyLimit_drives ok _ _ _)
    · exact ok
  have kept : ∀ {u : State} (v : Slot), DrivesOk u → DrivesOk (restartPresence (setSlot a.kind v u)) := fun _ ok => ok
  unfold cleanSend; dsimp only
  refine transmitterRests_drives ?_
  exact own (kept _ lowered)

theorem endDisregarded_drives {s : State} (h : DrivesOk s) : DrivesOk (endDisregarded s) := by
  unfold endDisregarded; dsimp only; split
  · exact transmitterRests_drives h
  · exact h

theorem attemptEnds_drives {s : State} (h : DrivesOk s) (a : Attempt) : DrivesOk (attemptEnds a s) := by
  unfold attemptEnds; split_ifs
  · exact endDisregarded_drives h
  · exact cleanSend_drives h a
  · exact failAttempt_drives h _ _

theorem badBulletin_drives {s : State} (h : DrivesOk s) : DrivesOk (badBulletin s) := by
  have raised : DrivesOk (raiseRxScore 2 s) := recomputeStanding_drives h
  unfold badBulletin; dsimp only; split <;> exact raised

theorem addressClash_drives {s : State} (h : DrivesOk s) : DrivesOk (addressClash s) := by
  have held : DrivesOk { raise .addressClash s with trunk.cutoffHold := none } := h
  unfold addressClash; dsimp only; split
  · exact h
  · exact setStanding_drives held _

theorem goodBulletin_drives {s : State} (h : DrivesOk s) (g : Gathering) : DrivesOk (goodBulletin g s) := by
  unfold goodBulletin; dsimp only; split
  · exact addressClash_drives (lowerRxScore_drives h)
  · exact takeBulletin_drives (lowerRxScore_drives h) _ _ _

theorem gatherByte_drives {s : State} (h : DrivesOk s) (g : Gathering) : DrivesOk (gatherByte g s) := by
  have set : ∀ r, DrivesOk (setReceiver r s) := fun _ => h
  unfold gatherByte; dsimp only; split_ifs
  · exact h
  · exact badBulletin_drives (set _)
  · split
    · exact h
    · exact h
    · exact goodBulletin_drives (set _) g
    · exact badBulletin_drives (set _)
  · exact h

theorem lineActivity_drives {s : State} (h : DrivesOk s) : DrivesOk (lineActivity s) := by
  rw [lineActivity_eq]; exact h

theorem receiveByte_drives {s : State} (h : DrivesOk s) (b : Byte) : DrivesOk (receiveByte b s) := by
  unfold receiveByte; dsimp only; split
  · exact gatherByte_drives (lineActivity_drives h) _
  · exact gatherByte_drives (lineActivity_drives h) _
  · exact lineActivity_drives h

theorem takeCollision_drives {s : State} (h : DrivesOk s) (n : Nat) : DrivesOk (takeCollision n s) := by
  have heard : DrivesOk (if s.inRun then receiverCollides (lineActivity s) else s) := by
    split
    · rw [receiverCollides_eq]; exact h
    · exact h
  unfold takeCollision; dsimp only; split
  · exact heard
  · unfold attemptCollides; split
    · exact endDisregarded_drives heard
    · exact failAttempt_drives heard _ _

theorem takeLineFree_drives {s : State} (h : DrivesOk s) : DrivesOk (takeLineFree s) := by
  have set : ∀ r, DrivesOk (setReceiver r { s with trunk.lineFree := true }) := fun _ => h
  have freed : DrivesOk (receiverTakesFree { s with trunk.lineFree := true }) := by
    unfold receiverTakesFree; split
    · exact set _
    · split
      · exact set _
      · exact badBulletin_drives (set _)
    · exact h
  unfold takeLineFree; dsimp only; split <;> exact freed

/-! ### Entry to RUN -/

/-- R86, R88: the gate enters RUN with its drive OFF, in a state that is not driven. -/
theorem gateEnters_drives {s : State} (off : s.input.gateDrive = .off) (run : s.input.pumpRun = pumpDriven s.drain.pump)
    (zero : s.drain.setpoint = 0) (rate : s.input.pumpRate = 0 * 1000 / s.cfg.pumpMax) : DrivesOk (gateEnters s) := by
  have limits := driveOf_gateFromLimits s
  have drive := gateEnters_drive off
  rw [gateEnters_eq]
  refine ⟨drive.trans limits.symm, run, fun drawn => absurd zero drawn, ?_⟩
  dsimp only
  rw [zero]
  exact rate

theorem stateEnters_drives {s : State} (h : DrivesOk s) : DrivesOk (stateEnters s) := retarget_drives h

theorem tankEntersRun_drives {s : State} (h : DrivesOk (gateEnters s)) : DrivesOk (tankEntersRun s) := by
  unfold tankEntersRun
  refine stateEnters_drives ?_
  rw [volumeEnters_eq]
  exact h

/-- R163: the pump enters RUN not driven, whether it runs on or rests. -/
theorem placed_drives {s : State} (off : s.input.gateDrive = .off) (run : s.input.pumpRun = false) :
    DrivesOk (placed s) := by
  have pump : DrivesOk (gateEnters (pumpEnters s)) := by
    rw [pumpEnters_eq]
    exact gateEnters_drives off (run.trans (by cases s.asserted .pumpRunning <;> rfl)) rfl rfl
  exact tankEntersRun_drives pump

theorem sensed_pumpRun (counts : GaugeCounts) (s : State) : (sensed counts s).input.pumpRun = s.input.pumpRun := by
  obtain ⟨_, _, _, input, _⟩ := trunkEnters_fields { s with peers := .reset }
  have timed := (timeEnters_input (trunkEnters { s with peers := .reset })).trans input
  unfold sensed inputEnters
  simp only [convertGauge_input]
  exact congrArg InputUnit.pumpRun timed

theorem spillEnters_drives {s : State} (h : DrivesOk s) : DrivesOk (spillEnters s) := by
  have entered : ∀ p, DrivesOk (measureHead true { s with spill := p }) := fun _ => h
  exact takeSpillSample_drives (spillEvaluates_drives (entered _) _) _ _

theorem rainEnters_drives {s : State} (h : DrivesOk s) : DrivesOk (rainEnters s) :=
  formBranchAlert_drives (evaluateAlert_drives h)

theorem claimEnters_drives {s : State} (h : DrivesOk s) : DrivesOk (claimEnters s) :=
  queueClaim_drives (reformClaim_drives h)

/-- R190 d: from a part at rest, in which nothing is driven. -/
theorem enterRun_drives (counts : GaugeCounts) {s : State} (h : AtRest s) : DrivesOk (enterRun counts s) := by
  obtain ⟨_, _, _, _, ⟨_, _, _, _, _, _, off, run, _⟩, _⟩ := h
  have placed : DrivesOk (placed (sensed counts (committing s))) :=
    placed_drives ((sensed_input counts (committing s)).2.2.2.trans off) ((sensed_pumpRun counts (committing s)).trans run)
  have entered : enterRun counts s = blocksEnter counts (committing s) := rfl
  have lit : ∀ {u : State}, DrivesOk u → DrivesOk (evaluateLamp u) := fun ok => ok
  rw [entered, blocksEnter_eq]
  exact lit (tankTakesDrainNotice_drives (claimEnters_drives (rainEnters_drives (spillEnters_drives placed))))

/-! ### The requests -/

/-- In CONFIG a part at rest; in RUN the drives as called for. -/
theorem ConfigAtRest.drives {s : State} (rest : ConfigAtRest s) (config : s.inRun = false) : DrivesOk s :=
  (show AtRest s from rest config).drives

theorem inRunOnly_drives {f : State → Answer} (h : ∀ s, DrivesOk s → DrivesOk (f s).state) {s : State} (ok : DrivesOk s) :
    DrivesOk (inRunOnly f s).state := by
  unfold inRunOnly; split
  · exact h s ok
  · exact ok

theorem inConfigOnly_drives {f : State → Answer} {s : State} (h : s.inRun = false → DrivesOk (f s).state)
    (ok : DrivesOk s) : DrivesOk (inConfigOnly f s).state := by
  unfold inConfigOnly; split
  · exact ok
  · next config => exact h (Bool.eq_false_iff.mpr config)

theorem reqCommit_drives (counts : GaugeCounts) {s : State} (rest : ConfigAtRest s) (ok : DrivesOk s) :
    DrivesOk (reqCommit counts s).state := by
  refine inConfigOnly_drives (fun config => ?_) ok
  dsimp only
  split
  · exact ok
  · split
    · exact ok
    · exact enterRun_drives counts (rest config)

theorem placePending_drives (rs : List SpillRecord) {s : State} (h : DrivesOk s) : DrivesOk (placePending rs s) := by
  induction rs generalizing s with
  | nil => exact h
  | cons r rs ih =>
    unfold placePending
    split
    · exact ih h
    · exact h

theorem setGateMode_drives {s : State} (h : DrivesOk s) (m : GateMode) : DrivesOk (setGateMode m s) := by
  have moded : DrivesOk { s with tank.mode := m } := h
  unfold setGateMode; dsimp only; split
  · exact afterGate_drives (retarget_drives moded) s
  · exact moded

theorem setDrainMode_drives {s : State} (h : DrivesOk s) (m : DrainMode) : DrivesOk (setDrainMode m s) := by
  have moded : DrivesOk { s with drain.mode := m } := h
  unfold setDrainMode; split_ifs
  · exact h
  · exact pumpChanges_drives moded s
  · exact h

/-- R102, R157: a fault is cleared where nothing is driven. -/
theorem reqClearFault_drives (n : Nat) {s : State} (ok : DrivesOk s) : DrivesOk (reqClearFault n s).state :=
  match n with
  | 0 => inRunOnly_drives (fun s h => by
      split
      · next fault => exact afterGate_drives (gateClears_drives h (h.1.trans (by rw [fault]; rfl))) s
      · exact h) ok
  | 1 => inRunOnly_drives (fun s h => by
      split
      · next fault => exact pumpChanges_drives (pumpStops_drives h (by rw [fault.1]; rfl)) s
      · exact h) ok
  | _ + 2 => inRunOnly_drives (fun _ h => h) ok

theorem takeRequest_drives (c : GaugeCounts) (code : Nat) (args : List Byte) {s : State} (rest : ConfigAtRest s)
    (ok : DrivesOk s) : DrivesOk (takeRequest c code args s).state := by
  have after : ConfigAtRest (takeRequest c code args s).state := takeRequest_rests c code args rest
  revert after
  unfold takeRequest
  split
  case h_1 =>
    intro _
    split
    · exact inConfigOnly_drives (fun _ => ok) ok
    · exact inConfigOnly_drives (fun _ => by dsimp only; split <;> exact ok) ok
  case h_2 => exact fun _ => reqCommit_drives c rest ok
  case h_4 => intro _; unfold reqReadPeer; split <;> exact ok
  case h_5 => intro _; unfold reqReadLogSlot; split <;> exact ok
  case h_6 =>
    intro _
    unfold reqReleaseRecord; split_ifs
    · exact ok
    · exact ok
    · exact placePending_drives _ ok
  case h_11 => intro _; unfold reqReadCapture; split <;> exact ok
  case h_14 => exact fun _ => inRunOnly_drives (fun s h => stepTime_drives h _ _) ok
  case h_15 =>
    intro _
    unfold reqGateMode; split
    · exact ok
    · exact setGateMode_drives ok _
  case h_16 =>
    intro _
    unfold reqDrainMode; split
    · exact ok
    · exact setDrainMode_drives ok _
  case h_17 => exact fun _ => inRunOnly_drives (fun s h => queueBody_drives h _) ok
  case h_18 => exact fun _ => inRunOnly_drives (fun s h => silenceRequest_drives h) ok
  case h_19 => exact fun _ => inRunOnly_drives (fun s h => rejoinRequest_drives h) ok
  case h_20 => exact fun _ => reqClearFault_drives _ ok
  case h_21 => exact fun after => after.drives rfl
  case h_22 =>
    refine fun _ => inConfigOnly_drives (fun _ => ?_) ok
    dsimp only
    split
    · exact ok
    · split <;> exact ok
  all_goals exact fun _ => ok

/-! ### Every step -/

/-- An event whose guard may hold it back. -/
theorem ite_drives {p : Prop} [Decidable p] {s t : State} (ok : DrivesOk s) (h : DrivesOk t) :
    DrivesOk (if p then t else s) := by
  split
  · exact h
  · exact ok

theorem event_drives {c : Instr} {s t : State} (v : isEvent c) (h : DrivesOk s) (e : exec c s = .next t) : DrivesOk t := by
  obtain ⟨request, transaction⟩ := v
  have entries : ∀ {u : State} (es : List PeerEntry), DrivesOk u → DrivesOk (setEntries es u) := fun _ ok => ok
  have forgotten : ∀ {u : State} (a : Addr), DrivesOk u → DrivesOk (forgetEntry a u) := fun a ok => by
    unfold forgetEntry; exact ok
  have lapsed : ∀ x, DrivesOk (raise .limitChange { s with peers.limit := x }) := fun _ => h
  cases c with
  | fullReset => cases e; exact (resetPart_rests s).drives
  | loopTestGathered => cases e; unfold loopGathered endLoopTest; split <;> exact h
  | loopTestTimeout => cases e; unfold loopTimeout endLoopTest; split <;> (try split) <;> exact h
  | lineFree => cases e; exact ite_drives h (takeLineFree_drives h)
  | deferralExpiry => cases e; exact ite_drives h (beginAttempt_drives h)
  | collision n => cases e; exact takeCollision_drives h n
  | lastByteDriven =>
    cases e
    have active : DrivesOk { s with trunk.lastActivity := s.elapsed } := h
    split
    · exact h
    · exact ite_drives h (attemptEnds_drives active _)
  | backoffExpiry => cases e; exact ite_drives h (transmitterRests_drives h)
  | byteReceived b =>
    cases e
    split
    · exact receiveByte_drives h b
    · exact h
  | presenceIntervalExpiry =>
    cases e
    have restarted : DrivesOk (restartPresence s) := h
    exact ite_drives h (queueBody_drives restarted _)
  | cutoffHoldExpiry => cases e; exact ite_drives h (holdElapses_drives h)
  | claimPartStale p =>
    cases e
    split
    · exact h
    · exact ite_drives h (drainTakesShareNotice_drives (entries _ h))
  | claimPartRemoved p =>
    cases e
    split
    · exact h
    · exact ite_drives h (drainTakesShareNotice_drives (forgotten p (entries _ h)))
  | rainLifetimeExpiry p => cases e; exact ite_drives h (formBranchAlert_drives (forgotten p (entries _ h)))
  | forgetTimeExpiry p => cases e; exact h
  | limitValidityExpiry => cases e; exact ite_drives h (drainTakesShareNotice_drives (lapsed _))
  | anchorPreferenceLapse => cases e; exact ite_drives h h
  | trunkTimeTick => cases e; exact h
  | adjust =>
    cases e
    split
    · exact h
    · exact ite_drives h (makeAdjust_drives h)
  | sample k => cases e; exact ite_drives h (takeSample_drives h k)
  | rawTransition => cases e; exact h
  | filterExpiry i =>
    cases e
    split
    · exact h
    · exact takeEdge_drives h i _
  | releaseTimerExpiry => cases e; exact ite_drives h (releaseExpires_drives h)
  | gateTravelExpiry => cases e; exact ite_drives h (afterGate_drives (travelExpires_drives h) s)
  | retryWaitExpiry => cases e; exact ite_drives h (afterGate_drives (retryWaitExpires_drives h) s)
  | reversalPauseExpiry => cases e; exact ite_drives h (afterGate_drives (pauseExpires_drives h) s)
  | startDebounceExpiry => cases e; exact ite_drives h (confirmSpill_drives h)
  | stopDebounceExpiry => cases e; exact ite_drives h (endSpill_drives h)
  | minuteEnd => cases e; exact ite_drives h (minuteEnds_drives h)
  | alertHoldExpiry => cases e; exact ite_drives h (holdExpires_drives h)
  | rainRepeatExpiry => cases e; exact ite_drives h (queueRain_drives h)
  | claimTimerExpiry => cases e; exact ite_drives h (queueClaim_drives h)
  | startTimeoutExpiry => cases e; exact ite_drives h (pumpChanges_drives (pumpFaults_drives h) s)
  | stopTimeoutExpiry => cases e; exact ite_drives h (pumpChanges_drives (pumpFaults_drives h) s)
  | restTimerExpiry => cases e; exact ite_drives h (restExpires_drives h)
  | blockNominalEnd => cases e; exact h.of_same (driveState_of_counter (blockNominalEnd_counter s))
  | transaction g n k => exact absurd rfl (transaction g n k)
  | _ => cases request

/-- What every command keeps: the part at rest in CONFIG, and the drives as called for. -/
def RestAndDrives (s : State) : Prop := ConfigAtRest s ∧ DrivesOk s

/-- Settles O57: each operation of the gate and of the pump sets drive and state together, the others reach the drives
through them alone, and an entry to RUN starts from a part at rest, in which nothing is driven. -/
theorem stepKeepsDrives : Obligations.StepKeepsDrives := fun s t rest ok e =>
  (step_keeps (P := RestAndDrives) (fun _ _ h => h)
    (exec_keeps (fun _ _ k code args h => ⟨takeRequest_rests k code args h.1, takeRequest_drives k code args h.1 h.2⟩)
      (fun _ _ h => h) fun c s t v h e => ⟨event_configAtRest c s t v h.1 e, event_drives v h.2 e⟩)
    s t ⟨rest, ok⟩ e).2

end Sys2Proof.Machine
end

section
/-! SUPPORT. The own claim formed anew (R139, R140): when it stands as the other blocks give it (`Formed`), which CLAIM a change
of it has queued (`Claims`), and that a notice keeps both (`Reclaims`). -/

namespace Sys2Proof.Machine

/-! ### The own claim as the other blocks stand -/

/-- R139: the own claim stands as the other blocks give it. -/
def Formed (s : State) : Prop := s.drain.claim = claimNow s

/-- What of the field the own claim is formed from: the TANK channel, the contact of the pump, the spill state and the
configuration. -/
structure SameField (s t : State) : Prop where
  usable : t.tankGauge.usable = s.tankGauge.usable
  running : t.asserted .pumpRunning = s.asserted .pumpRunning
  spill : t.spill.state = s.spill.state
  cfg : t.cfg = s.cfg

theorem SameField.of_control {s t : State} (h : outsideControl t = outsideControl s) : SameField s t := by
  have same : ∀ {α : Type} (f : State → α), f (outsideControl t) = f (outsideControl s) := fun f => congrArg f h
  exact ⟨same fun u => u.tankGauge.usable, same fun u => u.asserted .pumpRunning, same fun u => u.spill.state, same State.cfg⟩

theorem requestedRate_congr {s t : State} (field : SameField s t) (state : t.tank.state = s.tank.state)
    (mode : t.drain.mode = s.drain.mode) (pump : t.drain.pump = s.drain.pump) : requestedRate t = requestedRate s := by
  obtain ⟨usable, _, _, cfg⟩ := field
  unfold requestedRate
  simp only [← usable_iff, usable, state, mode, pump, cfg]

/-- R139 b: the drawn rate reads the setpoint of a driven pump, and the last nonzero one of another. -/
theorem drawnRate_congr {s t : State} (field : SameField s t) (pump : t.drain.pump = s.drain.pump)
    (setpoint : t.drain.setpoint = s.drain.setpoint)
    (last : t.drain.lastNonzero = s.drain.lastNonzero ∨ pumpDriven s.drain.pump = true) : drawnRate t = drawnRate s := by
  obtain ⟨_, running, _, cfg⟩ := field
  unfold drawnRate lastRate
  rw [pump, setpoint, running, cfg]
  rcases last with last | driven
  · rw [last]
  · rcases pumpDriven_iff.mp driven with h | h <;> rw [h]

theorem claimNow_congr {s t : State} (field : SameField s t) (state : t.tank.state = s.tank.state)
    (fill : t.tank.fill = s.tank.fill) (mode : t.drain.mode = s.drain.mode) (pump : t.drain.pump = s.drain.pump)
    (setpoint : t.drain.setpoint = s.drain.setpoint)
    (last : t.drain.lastNonzero = s.drain.lastNonzero ∨ pumpDriven s.drain.pump = true) : claimNow t = claimNow s := by
  unfold claimNow
  rw [requestedRate_congr field state mode pump, drawnRate_congr field pump setpoint last, fill, field.spill, field.cfg]

/-- What the Drain Controller's own part of the claim is, and the claim itself. -/
def claimPart (d : Drain) : Drain := { Drain.reset with
  claim := d.claim, mode := d.mode, pump := d.pump, setpoint := d.setpoint, lastNonzero := d.lastNonzero }

theorem Formed.of_same {s t : State} (h : Formed s) (field : SameField s t) (drain : claimPart t.drain = claimPart s.drain)
    (state : t.tank.state = s.tank.state) (fill : t.tank.fill = s.tank.fill) : Formed t := by
  have same : ∀ {α : Type} (f : Drain → α), f (claimPart t.drain) = f (claimPart s.drain) := fun f => congrArg f drain
  have claim : t.drain.claim = s.drain.claim := same Drain.claim
  unfold Formed
  rw [claim, claimNow_congr field state fill (same Drain.mode) (same Drain.pump) (same Drain.setpoint)
    (.inl (same Drain.lastNonzero))]
  exact h

theorem formClaim_formed (s : State) : Formed (formClaim s) := by
  obtain ⟨_, _, _, tank, _⟩ := outsideDrain_fields (formClaim_outside s)
  have claim : (formClaim s).drain.claim = claimNow s := by rw [formClaim_drain]
  unfold Formed
  rw [claim]
  exact (claimNow_congr (.of_control (formClaim_control s)) (by rw [tank]) (by rw [tank]) (by rw [formClaim_drain])
    (by rw [formClaim_drain]) (by rw [formClaim_drain]) (.inl (by rw [formClaim_drain]))).symm

/-! ### The CLAIM that a change has queued -/

/-- R140: the requested rate, the urgency and the CLAIM slot stay, or the last CLAIM queued carries them. -/
structure Claims (s t : State) : Prop where
  cfg : t.cfg = s.cfg
  queued :
    t.drain.claim.requested = s.drain.claim.requested ∧ t.drain.claim.spilling = s.drain.claim.spilling ∧
      t.trunk.slots.claim = s.trunk.slots.claim ∨
    ∃ c : ClaimBody, c.requested = t.drain.claim.requested ∧ c.urgency = (if t.drain.claim.spilling then 1 else 0) ∧
      c.weight = t.cfg.priorityWeight ∧ c.period = t.cfg.claimPeriod ∧
      t.trunk.slots.claim = s.trunk.slots.claim.queue (.claim c)

theorem Claims.of_same {s t : State} (cfg : t.cfg = s.cfg) (claim : t.drain.claim = s.drain.claim)
    (slot : t.trunk.slots.claim = s.trunk.slots.claim) : Claims s t :=
  ⟨cfg, .inl ⟨by rw [claim], by rw [claim], slot⟩⟩

theorem Claims.refl (s : State) : Claims s s := .of_same rfl rfl rfl

theorem Claims.trans {s t u : State} (h : Claims s t) (k : Claims t u) : Claims s u := by
  refine ⟨k.cfg.trans h.cfg, ?_⟩
  rcases k.queued with ⟨requested, spilling, slot⟩ | ⟨c, requested, urgency, weight, period, slot⟩
  · rw [requested, spilling, slot, k.cfg]
    exact h.queued
  · refine .inr ⟨c, requested, urgency, weight, period, ?_⟩
    rcases h.queued with ⟨_, _, before⟩ | ⟨_, _, _, _, _, before⟩
    · rw [slot, before]
    · rw [slot, before, slot_queue_queue]

theorem cfg_of_control {s t : State} (h : outsideControl t = outsideControl s) : t.cfg = s.cfg :=
  (SameField.of_control h).cfg

theorem formClaim_claims (s : State) : Claims s (formClaim s) := by
  refine ⟨cfg_of_control (formClaim_control s), ?_⟩
  unfold formClaim
  dsimp only
  split
  · have cfg := cfg_of_control (queueClaim_control { s with drain.claim := claimNow s })
    right
    refine ⟨claimBody { s with drain.claim := claimNow s }, ?_, ?_, ?_, ?_, ?_⟩
    · unfold queueClaim; rw [queueBody_drain]; rfl
    · unfold queueClaim; rw [queueBody_drain]; rfl
    · rw [cfg]; rfl
    · rw [cfg]; rfl
    · unfold queueClaim; rw [queueBody_slots]; rfl
  · next same =>
    rw [not_or, not_not, not_not] at same
    exact .inl ⟨same.1, same.2, rfl⟩

/-- The claim formed anew, and what a change of it has queued. -/
theorem claimReformed_of {s t : State} (formed : Formed t) (claims : Claims s t) : claimReformed s t := by
  refine ⟨?_, fun changed => ?_⟩
  · unfold Formed at formed
    rw [formed]
    unfold claimNow requestedRate drawnRate lastRate
    congr 1
    cases t.spill.state <;> rfl
  · rcases claims.queued with ⟨requested, spilling, _⟩ | queued
    · rcases changed with h | h
      · exact absurd requested h
      · exact absurd spilling h
    · exact queued

/-! ### What keeps both -/

/-- The claim queued as it changes, and one that stood as the other blocks gave it does so again. -/
structure Reclaims (s t : State) : Prop where
  claims : Claims s t
  formed : Formed s → Formed t

theorem Reclaims.refl (s : State) : Reclaims s s := ⟨.refl s, id⟩

theorem Reclaims.trans {s t u : State} (h : Reclaims s t) (k : Reclaims t u) : Reclaims s u :=
  ⟨h.claims.trans k.claims, k.formed ∘ h.formed⟩

/-- The states that an operation leaves formed, whatever it found. -/
theorem Reclaims.of_formed {s t : State} (claims : Claims s t) (formed : Formed t) : Reclaims s t := ⟨claims, fun _ => formed⟩

theorem Reclaims.of_same {s t : State} (field : SameField s t) (drain : claimPart t.drain = claimPart s.drain)
    (state : t.tank.state = s.tank.state) (fill : t.tank.fill = s.tank.fill)
    (slot : t.trunk.slots.claim = s.trunk.slots.claim) : Reclaims s t :=
  ⟨.of_same field.cfg (show (claimPart t.drain).claim = _ by rw [drain]; rfl) slot, fun h => h.of_same field drain state fill⟩

theorem inEitherOrder_reclaims {f g : State → State} (hf : ∀ t, Reclaims t (f t)) (hg : ∀ t, Reclaims t (g t)) (s : State) :
    Reclaims s (inEitherOrder f g s) :=
  inEitherOrder_holds (Reclaims s) (fun t h => (h.trans (hf t)).trans (hg _)) (fun t h => (h.trans (hg t)).trans (hf _))
    (.of_same ⟨rfl, rfl, rfl, rfl⟩ rfl rfl rfl rfl)

/-! ### The Drain Controller -/

theorem commandStop_claims (s : State) : Claims s (commandStop s) := by
  unfold commandStop; dsimp only; split <;> exact .of_same rfl rfl rfl

theorem pumpStart_claims (s : State) : Claims s (pumpStart s) := by
  unfold pumpStart; split <;> exact .of_same rfl rfl rfl

theorem followShare_claims (s : State) : Claims s (followShare s) := by
  unfold followShare; split_ifs
  · exact commandStop_claims s
  all_goals exact .of_same rfl rfl rfl

/-- R150: a share followed with the setpoint and the pump as they were leaves the claim as it is formed. -/
theorem followShare_formed {s : State} (setpoint : (followShare s).drain.setpoint = s.drain.setpoint)
    (pump : (followShare s).drain.pump = s.drain.pump) (h : Formed s) : Formed (followShare s) := by
  obtain ⟨_, _, _, tank, _⟩ := outsideDrain_fields (followShare_outside s)
  have claim : (followShare s).drain.claim = s.drain.claim := by
    unfold followShare commandStop; dsimp only; split_ifs <;> rfl
  have mode : (followShare s).drain.mode = s.drain.mode := by
    unfold followShare commandStop; dsimp only; split_ifs <;> rfl
  have last : (followShare s).drain.lastNonzero = s.drain.lastNonzero ∨ pumpDriven s.drain.pump = true := by
    by_cases follows : s.tank.state = .draining ∧ (s.drain.pump = some .starting ∨ s.drain.pump = some .running)
    · exact .inr (pumpDriven_iff.mpr follows.2)
    · exact .inl (by rw [followShare, if_neg follows])
  unfold Formed
  rw [claim, claimNow_congr (.of_control (outsideControl_of (outsideTank_of (followShare_outside s)))) (by rw [tank])
    (by rw [tank]) mode pump setpoint last]
  exact h

theorem shareAndSetpoint_reclaims (s : State) : Reclaims s (shareAndSetpoint s) := by
  have ran : Reclaims s (runShare s) := .of_same ⟨rfl, rfl, rfl, rfl⟩ rfl rfl rfl rfl
  have followed := followShare_claims (runShare s)
  refine ran.trans ?_
  unfold shareAndSetpoint
  dsimp only
  split
  · next same => exact ⟨followed, followShare_formed same.1 same.2⟩
  · exact .of_formed (followed.trans (formClaim_claims _)) (formClaim_formed _)

theorem reformClaim_claims (s : State) : Claims s (reformClaim s) :=
  (formClaim_claims s).trans (shareAndSetpoint_reclaims _).claims

theorem reformClaim_formed (s : State) : Formed (reformClaim s) := (shareAndSetpoint_reclaims _).formed (formClaim_formed s)

theorem drainTakesTankState_claims (s : State) : Claims s (drainTakesTankState s) := by
  unfold drainTakesTankState
  refine Claims.trans ?_ (reformClaim_claims _)
  split
  · exact pumpStart_claims s
  · exact commandStop_claims s

/-! ### The tank -/

theorem retarget_reclaims (s : State) : Reclaims s (retarget s) := by
  obtain ⟨trunk, drain, _, _, _, state, _, _, _, fill, _⟩ := outsideGate_fields (retarget_gate s)
  exact .of_same (.of_control (retarget_control s)) (by rw [drain]) state fill (by rw [trunk])

theorem releaseDeferred_reclaims (s : State) : Reclaims s (releaseDeferred s) := by
  have released : Reclaims s { s with tank.openDeferred := false } := .of_same ⟨rfl, rfl, rfl, rfl⟩ rfl rfl rfl rfl
  unfold releaseDeferred; split
  · exact released.trans (retarget_reclaims _)
  · exact .refl s

theorem tankMoves_claims (t : TankState) (s : State) : Claims s (tankMoves t s) := by
  obtain ⟨drain, port, trunk, _⟩ := tankMoves_moves t s
  exact .of_same (by unfold State.cfg; rw [port]) (by rw [drain]) (by rw [trunk])

theorem tankEnters_claims (t : TankState) (s : State) : Claims s (tankEnters t s) :=
  ((tankMoves_claims t s).trans (drainTakesTankState_claims _)).trans (releaseDeferred_reclaims _).claims

theorem tankEnters_formed (t : TankState) (s : State) : Formed (tankEnters t s) :=
  (releaseDeferred_reclaims _).formed (reformClaim_formed _)

/-- R83, R87: an evaluation that moves the tank leaves the claim formed. -/
theorem tankCascade_formed (n : Nat) (a b : Bool) (s : State) :
    tankCascade n a b s = s ∨ Formed (tankCascade n a b s) := by
  induction n generalizing a b s with
  | zero => exact .inl rfl
  | succ n ih =>
    unfold tankCascade
    split
    · exact .inl rfl
    · next t _ =>
      right
      dsimp only
      split
      · rcases ih false (b || s.tank.state == .draining) (tankEnters t s) with same | formed
        · rw [same]; exact tankEnters_formed t s
        · exact formed
      · exact tankEnters_formed t s

theorem tankCascade_claims (n : Nat) (a b : Bool) (s : State) : Claims s (tankCascade n a b s) := by
  induction n generalizing a b s with
  | zero => exact .refl s
  | succ n ih =>
    unfold tankCascade
    split
    · exact .refl s
    · next t _ =>
      dsimp only
      split
      · exact (tankEnters_claims t s).trans (ih ..)
      · exact tankEnters_claims t s

theorem tankEvaluate_reclaims (a : Bool) (s : State) : Reclaims s (tankEvaluate a s) := by
  refine ⟨tankCascade_claims .., fun formed => ?_⟩
  rcases tankCascade_formed 6 a false s with same | anew
  · unfold tankEvaluate; rw [same]; exact formed
  · exact anew

theorem tankTakesDrainNotice_reclaims (s : State) : Reclaims s (tankTakesDrainNotice s) :=
  (releaseDeferred_reclaims s).trans (tankEvaluate_reclaims false _)

theorem afterDrain_reclaims (s t : State) : Reclaims t (afterDrain s t) := by
  unfold afterDrain; split
  · exact tankTakesDrainNotice_reclaims t
  · exact .refl t

theorem drainTakesNotice_claims (s : State) : Claims s (drainTakesNotice s) :=
  (reformClaim_claims s).trans (afterDrain_reclaims s _).claims

theorem drainTakesNotice_formed (s : State) : Formed (drainTakesNotice s) :=
  (afterDrain_reclaims s _).formed (reformClaim_formed s)

theorem drainTakesNotice_reclaims (s : State) : Reclaims s (drainTakesNotice s) :=
  .of_formed (drainTakesNotice_claims s) (drainTakesNotice_formed s)

theorem drainTakesShareNotice_reclaims (s : State) : Reclaims s (drainTakesShareNotice s) :=
  (shareAndSetpoint_reclaims s).trans (afterDrain_reclaims s _)

/-- R139, R159: a changed pump or drain mode. -/
theorem pumpChanges_formed (s t : State) : Formed (pumpChanges s t) :=
  (afterDrain_reclaims s _).formed (reformClaim_formed t)

theorem pumpChanges_claims (s t : State) : Claims t (pumpChanges s t) :=
  (reformClaim_claims t).trans (afterDrain_reclaims s _).claims

theorem updateRelease_reclaims (s : State) : Reclaims s (updateRelease s) := by
  unfold updateRelease; split_ifs <;> exact .of_same ⟨rfl, rfl, rfl, rfl⟩ rfl rfl rfl rfl

theorem tankTakesAlert_reclaims (s : State) : Reclaims s (tankTakesAlert s) :=
  (updateRelease_reclaims s).trans (tankEvaluate_reclaims false _)

/-! ### The alerts and the spill state -/

theorem formBranchAlert_reclaims (s : State) : Reclaims s (formBranchAlert s) := by
  have told : Reclaims s (alerted s) := .of_same ⟨rfl, rfl, rfl, rfl⟩ rfl rfl rfl rfl
  unfold formBranchAlert; dsimp only; split
  · exact .refl s
  · exact told.trans (inEitherOrder_reclaims drainTakesShareNotice_reclaims tankTakesAlert_reclaims _)

theorem queueRain_reclaims (s : State) : Reclaims s (queueRain s) := by
  unfold queueRain
  rw [queueBody_sets]
  exact .of_same ⟨rfl, rfl, rfl, rfl⟩ rfl rfl rfl rfl

theorem evaluateAlert_reclaims (s : State) : Reclaims s (evaluateAlert s) := by
  have evaluated : ∀ r, Reclaims s { s with rain := r } := fun r => .of_same ⟨rfl, rfl, rfl, rfl⟩ rfl rfl rfl rfl
  unfold evaluateAlert; dsimp only; split
  · exact ((evaluated _).trans (queueRain_reclaims _)).trans (formBranchAlert_reclaims _)
  · unfold updateHold; split_ifs <;> exact evaluated _

theorem notifySpill_claims (s : State) : Claims s (notifySpill s) := by
  have same : ∀ {α : Type} (f : State → α), f (outsideCounter (counterTakesSpillState s)) =
      f (outsideCounter { s with counter.spill := s.spill.state }) :=
    fun f => congrArg f (counterTakesSpillState_counter s)
  have told : Claims s (evaluateLamp (counterTakesSpillState s)) :=
    .of_same (same State.cfg) (same fun u => u.drain.claim) (same fun u => u.trunk.slots.claim)
  exact told.trans (inEitherOrder_reclaims drainTakesNotice_reclaims evaluateAlert_reclaims _).claims

/-- R114a: the Drain Controller's notice forms the claim, and the alert's evaluation keeps it, in either order. -/
theorem notifySpill_formed (s : State) : Formed (notifySpill s) := by
  unfold notifySpill
  rcases inEitherOrder_cases drainTakesNotice evaluateAlert (evaluateLamp (counterTakesSpillState s)) with h | h
  · rw [h]; exact (evaluateAlert_reclaims _).formed (drainTakesNotice_formed _)
  · rw [h]; exact drainTakesNotice_formed _

theorem spillEvaluates_claims (c : Stamped) (s : State) : Claims s (spillEvaluates c s) := by
  have changed : ∀ p, Claims s (notifySpill { s with spill := p }) := fun p =>
    (Claims.of_same (s := s) (t := { s with spill := p }) rfl rfl rfl).trans (notifySpill_claims _)
  unfold spillEvaluates enterOnset lapseSpell enterSubsiding resumeSpilling
  split
  case h_5 => exact .refl s
  all_goals exact changed _

/-- R110 to R113: an evaluation that changes the spill state leaves the claim formed. -/
theorem spillEvaluates_formed (c : Stamped) (s : State) : spillEvaluates c s = s ∨ Formed (spillEvaluates c s) := by
  unfold spillEvaluates enterOnset lapseSpell enterSubsiding resumeSpilling
  split
  case h_5 => exact .inl rfl
  all_goals exact .inr (notifySpill_formed _)

end Sys2Proof.Machine
end

section
/-! SUPPORT. A pump that is in FAULT, or STOPPED with its rest to come (`PumpIdle`): no notice starts it (`IdleKept`), the tank
does not stay in DRAINING with it in FAULT, and an open command that waited for it is given (`deferralEnds`). -/

namespace Sys2Proof.Machine

/-! ### The pump -/

/-- R86, R155, R156: the pump in FAULT, or STOPPED with its rest to come. -/
def PumpIdle (s : State) : Prop :=
  s.drain.pump = some .fault ∨ s.drain.pump = some .stopped ∧ s.drain.restElapsed = false

/-- The pump, its timers and its last rate stay, and nothing is drawn. -/
structure IdleKept (s t : State) : Prop where
  pump : t.drain.pump = s.drain.pump
  pumpTimer : t.drain.pumpTimer = s.drain.pumpTimer
  restTimer : t.drain.restTimer = s.drain.restTimer
  restElapsed : t.drain.restElapsed = s.drain.restElapsed
  lastNonzero : t.drain.lastNonzero = s.drain.lastNonzero
  pumpRun : t.input.pumpRun = s.input.pumpRun
  drawn : s.drain.setpoint = 0 ∧ s.input.pumpRate = 0 → t.drain.setpoint = 0 ∧ t.input.pumpRate = 0

theorem IdleKept.refl (s : State) : IdleKept s s := ⟨rfl, rfl, rfl, rfl, rfl, rfl, id⟩

theorem IdleKept.trans {s t u : State} (h : IdleKept s t) (k : IdleKept t u) : IdleKept s u :=
  ⟨k.pump.trans h.pump, k.pumpTimer.trans h.pumpTimer, k.restTimer.trans h.restTimer, k.restElapsed.trans h.restElapsed,
    k.lastNonzero.trans h.lastNonzero, k.pumpRun.trans h.pumpRun, k.drawn ∘ h.drawn⟩

theorem IdleKept.of_same {s t : State} (drain : t.drain = s.drain) (run : t.input.pumpRun = s.input.pumpRun)
    (rate : t.input.pumpRate = s.input.pumpRate) : IdleKept s t :=
  ⟨by rw [drain], by rw [drain], by rw [drain], by rw [drain], by rw [drain], run, by rw [drain, rate]; exact id⟩

theorem PumpIdle.kept {s t : State} (idle : PumpIdle s) (h : IdleKept s t) : PumpIdle t := by
  unfold PumpIdle
  rw [h.pump, h.restElapsed]
  exact idle

theorem PumpIdle.draws {s : State} (idle : PumpIdle s) : pumpMayDraw s = false := by
  unfold pumpMayDraw
  rcases idle with fault | ⟨stopped, _⟩
  · rw [fault]; rfl
  · rw [stopped]; rfl

theorem PumpIdle.undriven {s : State} (idle : PumpIdle s) :
    ¬ (s.drain.pump = some .starting ∨ s.drain.pump = some .running) := by
  rcases idle with fault | ⟨stopped, _⟩
  · rw [fault]; decide
  · rw [stopped]; decide

/-! ### The Drain Controller -/

theorem commandStop_idle {s : State} (idle : PumpIdle s) : IdleKept s (commandStop s) := by
  unfold commandStop
  rw [if_neg idle.undriven]
  exact ⟨rfl, rfl, rfl, rfl, rfl, rfl, fun _ => ⟨rfl, by show 0 * 1000 / _ = 0; rw [Nat.zero_mul, Nat.zero_div]⟩⟩

theorem followShare_idle {s : State} (idle : PumpIdle s) : followShare s = s :=
  if_neg fun follows => idle.undriven follows.2

theorem formClaim_idle (s : State) : IdleKept s (formClaim s) := by
  have input : (formClaim s).input = s.input := by
    unfold formClaim queueClaim
    dsimp only
    split
    · rw [queueBody_input]
    · rfl
  exact ⟨by rw [formClaim_drain], by rw [formClaim_drain], by rw [formClaim_drain], by rw [formClaim_drain],
    by rw [formClaim_drain], by rw [input], by rw [formClaim_drain, input]; exact id⟩

theorem shareAndSetpoint_idle {s : State} (idle : PumpIdle s) : IdleKept s (shareAndSetpoint s) := by
  have ran : IdleKept s (runShare s) := ⟨rfl, rfl, rfl, rfl, rfl, rfl, id⟩
  unfold shareAndSetpoint
  dsimp only
  rw [followShare_idle (idle.kept ran), if_pos ⟨rfl, rfl⟩]
  exact ran

theorem reformClaim_idle {s : State} (idle : PumpIdle s) : IdleKept s (reformClaim s) :=
  (formClaim_idle s).trans (shareAndSetpoint_idle (idle.kept (formClaim_idle s)))

/-! ### The tank -/

theorem retarget_idle (s : State) : IdleKept s (retarget s) := by
  obtain ⟨_, drain, _⟩ := outsideGate_fields (retarget_gate s)
  have same : ∀ {α : Type} (f : State → α), f (outsideGate (retarget s)) = f (outsideGate s) :=
    fun f => congrArg f (retarget_gate s)
  exact .of_same drain (same fun u => u.input.pumpRun) (same fun u => u.input.pumpRate)

theorem tankMoves_idle (t : TankState) (s : State) : IdleKept s (tankMoves t s) :=
  IdleKept.trans (.of_same (t := { s with tank := { s.tank with
    state := t, releaseTimer := none, openDeferred := decide (t = .admitting) && pumpMayDraw s } }) rfl rfl rfl)
    (retarget_idle _)

theorem releaseDeferred_idle (s : State) : IdleKept s (releaseDeferred s) := by
  have released : IdleKept s { s with tank.openDeferred := false } := .of_same rfl rfl rfl
  unfold releaseDeferred; split
  · exact released.trans (retarget_idle _)
  · exact .refl s

/-- R86: the tank does not enter DRAINING with an idle pump. -/
theorem tankDecides_idle {a b : Bool} {s : State} {t : TankState} (idle : PumpIdle s) (h : tankDecides a b s = some t) :
    t ≠ .draining := by
  rintro rfl
  have barred : drainPermission s = false := by
    unfold drainPermission
    rcases idle with fault | ⟨_, resting⟩
    · simp [fault]
    · simp [resting]
  unfold tankDecides at h
  rw [barred] at h
  split at h
  · cases h
  · cases h
  · split_ifs at h <;> cases h
  · simp only [Bool.false_and, Bool.false_eq_true, if_false] at h
    split_ifs at h <;> cases h
  · split_ifs at h <;> cases h

/-- R150: outside DRAINING the notice of the tank state finds nothing to stop. -/
theorem tankEnters_idle {s : State} {t : TankState} (idle : PumpIdle s) (other : t ≠ .draining) :
    IdleKept s (tankEnters t s) := by
  have moved := tankMoves_idle t s
  have state : (tankMoves t s).tank.state = t := (tankMoves_moves t s).2.2.2.1
  have stopped := commandStop_idle (idle.kept moved)
  unfold tankEnters drainTakesTankState
  rw [if_neg (by rw [state]; exact other)]
  exact ((moved.trans stopped).trans (reformClaim_idle (idle.kept (moved.trans stopped)))).trans (releaseDeferred_idle _)

theorem tankEvaluate_idle {s : State} (idle : PumpIdle s) : IdleKept s (tankEvaluate false s) :=
  tankCascade_rel (R := fun s t => PumpIdle s → IdleKept s t) (fun s _ => .refl s)
    (fun _ _ _ h k idle => (h idle).trans (k (idle.kept (h idle))))
    (fun _ _ _ h idle => tankEnters_idle idle (tankDecides_idle idle h)) 6 false s idle

theorem tankTakesDrainNotice_idle {s : State} (idle : PumpIdle s) : IdleKept s (tankTakesDrainNotice s) :=
  (releaseDeferred_idle s).trans (tankEvaluate_idle (idle.kept (releaseDeferred_idle s)))

/-- R139, R159: the notices of a pump that has come to be idle. -/
theorem pumpChanges_idle {s t : State} (idle : PumpIdle t) : IdleKept t (pumpChanges s t) := by
  have formed := reformClaim_idle idle
  unfold pumpChanges afterDrain
  split
  · exact formed.trans (tankTakesDrainNotice_idle (idle.kept formed))
  · exact formed

/-- R92 c: with the pump in FAULT draining ends. -/
theorem tankCascade_faulted {n : Nat} {b : Bool} {s : State} (fault : s.drain.pump = some .fault)
    (goes : n ≠ 0 ∨ s.tank.state ≠ .draining) : (tankCascade n false b s).tank.state ≠ .draining := by
  induction n generalizing b s with
  | zero => exact goes.resolve_left fun h => h rfl
  | succ n ih =>
    unfold tankCascade
    split
    · next stays =>
      intro draining
      have barred : drainBarred s = true := decide_eq_true (by simp [fault])
      have draining' : s.tank.state = .draining := draining
      rw [tankDecides, draining'] at stays
      simp only [barred, if_true] at stays
      split_ifs at stays
    · next t h =>
      have other : t ≠ .draining := tankDecides_idle (.inl fault) h
      have entered : (tankEnters t s).tank.state ≠ .draining := by rw [(tankEnters_state t s).1]; exact other
      dsimp only
      split
      · exact ih ((tankEnters_idle (.inl fault) other).pump.trans fault) (.inr entered)
      · exact entered

/-- R159: the pump has come to FAULT, and the tank is told. -/
theorem pumpChanges_faulted {s t : State} (fault : t.drain.pump = some .fault) (changed : s.drain.pump ≠ some .fault) :
    (pumpChanges s t).tank.state ≠ .draining := by
  have formed := reformClaim_idle (.inl fault)
  have told : drainChanged s (reformClaim t) = true := by
    have pump : (s.drain.pump != (reformClaim t).drain.pump) = true := bne_iff_ne.mpr (by rw [formed.pump, fault]; exact changed)
    unfold drainChanged
    rw [pump, Bool.or_true, Bool.true_or]
  unfold pumpChanges afterDrain
  rw [if_pos told]
  have released := releaseDeferred_idle (reformClaim t)
  exact tankCascade_faulted ((released.pump.trans formed.pump).trans fault) (.inl (by decide))

/-! ### A deferred open command -/

theorem beginTravel_target (d : GateDir) (c : Nat) (s : State) : (beginTravel d c s).tank.target = s.tank.target := by
  unfold beginTravel; split <;> rfl

theorem gateActsOn_target (d : GateDir) (s : State) : (gateActsOn d s).tank.target = s.tank.target := by
  unfold gateActsOn
  split
  case h_1 | h_2 | h_7 => exact beginTravel_target ..
  case h_3 | h_4 => rfl
  case h_5 => split <;> rfl
  case h_6 | h_8 => rfl

/-- R94: the target is the one that the mode and the demand give. -/
theorem retarget_target (s : State) : (retarget s).tank.target = derivedTarget s := by
  unfold retarget gateActsOnTarget
  dsimp only
  split
  · next same => exact same.symm
  · split
    · rfl
    · next d _ => exact gateActsOn_target d _

/-- R94, R95: a gate that rests CLOSED and is to open now begins its travel. -/
theorem retarget_opens {s : State} (derived : derivedTarget s = some .toOpen) (before : s.tank.target = some .toClose)
    (closed : s.tank.gate = some .closed) (free : s.asserted .gateOpenLimit = false) :
    (retarget s).tank.gate = some .opening ∧ (retarget s).tank.gateDir = some .toOpen ∧ (retarget s).tank.retries = 0 ∧
    (retarget s).tank.gateTimer = some (s.elapsed + 1000 * s.cfg.gateTravel) ∧
    (retarget s).input.gateDrive = .driveOpen := by
  have acts : retarget s = gateActsOn .toOpen (targeted .toOpen s) := by
    unfold retarget
    rw [derived, before]
    rfl
  have travels : gateActsOn .toOpen (targeted .toOpen s) = beginTravel .toOpen 0 (targeted .toOpen s) :=
    gateActsOn_travels (.inr closed)
  rw [acts, travels, beginTravel_free (d := .toOpen) (s := targeted .toOpen s) free, Nat.mul_comm]
  exact ⟨rfl, rfl, rfl, rfl, rfl⟩

/-- R90: a notice of a pump that no longer draws gives the open command that waited for it. -/
theorem tankTakesDrainNotice_defers {s w : State} (tank : w.tank = s.tank) (elapsed : w.elapsed = s.elapsed)
    (cfg : w.cfg = s.cfg) (limit : w.asserted .gateOpenLimit = s.asserted .gateOpenLimit) (rests : pumpMayDraw w = false) :
    deferralEnds s (tankTakesDrainNotice w) := by
  intro admitting deferred
  have released : tankTakesDrainNotice w = retarget { w with tank.openDeferred := false } := by
    have releases : releaseDeferred w = retarget { w with tank.openDeferred := false } :=
      if_pos ⟨by rw [tank]; exact deferred, by rw [rests]; decide⟩
    have state : (releaseDeferred w).tank.state = .admitting := by rw [(releaseDeferred_leaves w).2.2.1, tank, admitting]
    unfold tankTakesDrainNotice tankEvaluate
    rw [tankCascade_admitting state, releases]
  obtain ⟨_, _, _, _, _, state, release, opens, _⟩ :=
    outsideGate_fields (retarget_gate { w with tank.openDeferred := false })
  rw [released]
  refine ⟨state.trans (by rw [tank]; exact admitting), opens, release.trans (by rw [tank]), fun auto => ?_⟩
  have derived : derivedTarget { w with tank.openDeferred := false } = some .toOpen := by
    unfold derivedTarget gateDemand
    dsimp only
    rw [tank, admitting, auto]
    rfl
  refine ⟨(retarget_target _).trans derived, fun before closed free => ?_⟩
  rw [← elapsed, ← cfg]
  exact retarget_opens derived (by rw [← tank] at before; exact before) (by rw [← tank] at closed; exact closed)
    (limit.trans free)

/-- R90, R159: a pump that has come to be idle. -/
theorem pumpChanges_defers {s u v : State} (idle : PumpIdle v) (changed : u.drain.pump ≠ v.drain.pump)
    (tank : v.tank = s.tank) (elapsed : v.elapsed = s.elapsed) (cfg : v.cfg = s.cfg)
    (limit : v.asserted .gateOpenLimit = s.asserted .gateOpenLimit) : deferralEnds s (pumpChanges u v) := by
  have formed := reformClaim_idle idle
  have outside := reformClaim_outside v
  have same : ∀ {α : Type} (f : State → α), f (outsideDrain (reformClaim v)) = f (outsideDrain v) :=
    fun f => congrArg f outside
  have told : drainChanged u (reformClaim v) = true := by
    have pump : (u.drain.pump != (reformClaim v).drain.pump) = true := bne_iff_ne.mpr (by rw [formed.pump]; exact changed)
    unfold drainChanged
    rw [pump, Bool.or_true, Bool.true_or]
  unfold pumpChanges afterDrain
  rw [if_pos told]
  exact tankTakesDrainNotice_defers ((same State.tank).trans tank) ((same State.elapsed).trans elapsed)
    ((same State.cfg).trans cfg) ((same fun x => x.asserted .gateOpenLimit).trans limit) (idle.kept formed).draws

end Sys2Proof.Machine
end

section
/-! SUPPORT. What the notices of a changed spill state or branch alert leave of the Spill Counter: beyond its own notice, the peak
alert of the open event alone (`AlertNoted`). -/

namespace Sys2Proof.Machine

/-- R173 c: of the Spill Counter, at most the peak alert of the open event changes, and it does not fall. -/
structure AlertNoted (s t : State) : Prop where
  counter : t.counter = { s.counter with event := t.counter.event }
  none : s.counter.event = none → t.counter.event = none
  some : ∀ ev, s.counter.event = some ev →
    ∃ alert, ev.peakAlert.code ≤ alert.code ∧ t.counter.event = Option.some { ev with peakAlert := alert }

theorem AlertNoted.of_counter {s t : State} (h : t.counter = s.counter) : AlertNoted s t := by
  refine ⟨by rw [h], fun absent => by rw [h]; exact absent, fun ev open_ => ⟨ev.peakAlert, le_refl _, ?_⟩⟩
  rw [h, open_]

theorem AlertNoted.of_tank {s t : State} (h : outsideTank t = outsideTank s) : AlertNoted s t :=
  .of_counter (congrArg State.counter h : (outsideTank t).counter = (outsideTank s).counter)

theorem AlertNoted.refl (s : State) : AlertNoted s s := .of_counter rfl

theorem AlertNoted.trans {s t u : State} (h : AlertNoted s t) (k : AlertNoted t u) : AlertNoted s u := by
  refine ⟨k.counter.trans (by rw [h.counter]), k.none ∘ h.none, fun ev open_ => ?_⟩
  obtain ⟨a, rises, open'⟩ := h.some ev open_
  obtain ⟨b, rises', open''⟩ := k.some _ open'
  exact ⟨b, rises.trans rises', open''⟩

theorem inEitherOrder_noted {f g : State → State} (hf : ∀ t, AlertNoted t (f t)) (hg : ∀ t, AlertNoted t (g t)) (s : State) :
    AlertNoted s (inEitherOrder f g s) :=
  inEitherOrder_holds (AlertNoted s) (fun t h => (h.trans (hf t)).trans (hg _)) (fun t h => (h.trans (hg t)).trans (hf _))
    (.of_counter rfl)

theorem AlertLevel.code_le_higher (a b : AlertLevel) : a.code ≤ (a.higher b).code := by
  unfold AlertLevel.higher
  split
  · next below => exact below.le
  · exact le_refl _

theorem alerted_noted (s : State) : AlertNoted s (alerted s) := by
  have event : (alerted s).counter =
      { s.counter with event := s.counter.event.map fun ev => { ev with peakAlert := ev.peakAlert.higher (highestAlert s) } } :=
    rfl
  refine ⟨by rw [event], fun absent => by rw [event, absent]; rfl, fun ev open_ => ⟨_, AlertLevel.code_le_higher _ (highestAlert s), ?_⟩⟩
  rw [event, open_]
  rfl

theorem formBranchAlert_noted (s : State) : AlertNoted s (formBranchAlert s) := by
  unfold formBranchAlert; dsimp only; split
  · exact .refl s
  · exact (alerted_noted s).trans (inEitherOrder_noted (fun t => .of_tank (drainTakesShareNotice_tank t))
      (fun t => .of_tank (tankTakesAlert_tank t)) _)

theorem evaluateAlert_noted (s : State) : AlertNoted s (evaluateAlert s) := by
  have evaluated : ∀ r, AlertNoted s { s with rain := r } := fun _ => .of_counter rfl
  have queued : ∀ u : State, AlertNoted u (queueRain u) := fun u => .of_counter (by unfold queueRain; rw [queueBody_sets])
  unfold evaluateAlert; dsimp only; split
  · exact ((evaluated _).trans (queued _)).trans (formBranchAlert_noted _)
  · unfold updateHold; split_ifs <;> exact evaluated _

/-- R114a: after the Spill Counter's own notice. -/
theorem notifySpill_noted (s : State) : AlertNoted (counterTakesSpillState s) (notifySpill s) := by
  have lit : AlertNoted (counterTakesSpillState s) (evaluateLamp (counterTakesSpillState s)) := .of_counter rfl
  exact lit.trans (inEitherOrder_noted (fun t => .of_tank (drainTakesNotice_tank t)) evaluateAlert_noted _)

/-- R114a: the Spill Counter holds the state notified. -/
theorem notifySpill_counterSpill (s : State) : (notifySpill s).counter.spill = s.spill.state := by
  rw [(notifySpill_noted s).counter]
  exact (congrArg (fun u => u.counter.spill) (counterTakesSpillState_counter s) :
    (outsideCounter (counterTakesSpillState s)).counter.spill = _)

/-- R110 to R113: a change of the spill state is notified. -/
theorem spillEvaluates_counterSpill (c : Stamped) (s : State) :
    spillEvaluates c s = s ∨ (spillEvaluates c s).counter.spill = (spillEvaluates c s).spill.state := by
  have notified : ∀ u : State, (notifySpill u).counter.spill = (notifySpill u).spill.state := fun u => by
    rw [notifySpill_counterSpill, notifySpill_spill]
  unfold spillEvaluates enterOnset lapseSpell enterSubsiding resumeSpilling
  split
  case h_5 => exact .inl rfl
  all_goals exact .inr (notified _)

/-- What an evaluation of the combined condition leaves alone beyond the Spill Monitor. -/
theorem spillEvaluates_control (c : Stamped) (s : State) :
    outsideControl (spillEvaluates c s) = outsideControl { s with spill := (spillEvaluates c s).spill } := by
  have notified : ∀ p : Spill, outsideControl (notifySpill { s with spill := p }) =
      outsideControl { s with spill := (notifySpill { s with spill := p }).spill } := fun p => by
    rw [notifySpill_control, notifySpill_spill]
  unfold spillEvaluates enterOnset lapseSpell enterSubsiding resumeSpilling
  split
  case h_5 => rfl
  all_goals exact notified _

end Sys2Proof.Machine
end

section
/-! SUPPORT. A contact's transition and the recognised edge that its FILTER lets through (O40): what each owner makes of it. -/

namespace Sys2Proof.Machine

/-! ### The contact and its capture records -/

/-- R70 a, b: what a transition leaves of its input. -/
theorem contactMoves_eq (level : Bool) (now : Stamped) (d : DigitalInput) : contactMoves level now d = { d with
    raw := level
    candidate := if d.raw = level ∨ d.recognised = none then d.candidate
      else if d.recognised = some level then none else some ⟨level, now⟩ } := by
  unfold contactMoves
  by_cases same : d.raw = level
  · rw [if_pos same, if_pos (.inl same), ← same]
  · rw [if_neg same]
    cases recognised : d.recognised with
    | none => rw [if_pos (.inr rfl)]
    | some r =>
      rw [if_neg (by simp [same])]
      dsimp only
      by_cases back : level = r
      · subst back; rw [if_pos rfl, if_pos rfl]
      · rw [if_neg back, if_neg (by simpa using Ne.symm back)]

/-- R72: what a capture record takes of an edge, by its mode. -/
theorem capture_takes_eq (mode : CaptureMode) (stamp : Nat) (old new : Capture)
    (h : new = match mode with
      | .continuous => ⟨true, old.lost || old.captured, stamp⟩
      | .single => if old.captured then ⟨true, true, old.stamp⟩ else ⟨true, old.lost, stamp⟩
      | .off => old) : old.takes mode stamp = new := by
  subst h
  cases mode with
  | off => rfl
  | continuous => rfl
  | single =>
    obtain ⟨captured, lost, at_⟩ := old
    cases captured <;> rfl

/-- R70 c, R72: an input whose candidate is recognised. -/
theorem recogniseEdge_eq {modes : CaptureModes} {e : Candidate} {d : DigitalInput} {mode : CaptureMode} {old new : Capture}
    (hmode : mode = if e.level then modes.rising else modes.falling) (hold : old = if e.level then d.rising else d.falling)
    (hnew : old.takes mode e.since.stamp = new) : recogniseEdge modes e d = { d with
      recognised := some e.level, candidate := none
      rising := if e.level then new else d.rising, falling := if e.level then d.falling else new } := by
  subst hmode hold hnew
  unfold recogniseEdge
  cases e.level <;> rfl

/-- R70 c: a candidate that has held for its FILTER is due. -/
theorem filterDue_of {s : State} {i : DigitalIn} {e : Candidate} (candidate : (s.input.digital.get i).candidate = some e)
    (held : e.since.instant + s.cfg.filter.get i ≤ s.elapsed) : filterDue i s = some e := by
  unfold filterDue
  rw [candidate]
  exact if_pos held

/-! ### What an edge leaves alone -/

theorem outsideControl_spill {s t : State} (h : outsideControl t = outsideControl s) :
    outsideControl t = outsideControl { s with spill := t.spill } := by
  rw [(outsideControl_fields h).2.2.2.1]
  exact h

/-- R71: an owner changes its own state, and of the other blocks what `outsideControl` masks. -/
theorem handEdge_control (i : DigitalIn) (e : Candidate) (s : State) :
    outsideControl (handEdge i e s) = outsideControl { s with spill := (handEdge i e s).spill } := by
  cases i with
  | rainTip => exact outsideControl_spill (rainTakesEdge_control ..)
  | gateOpenLimit => exact outsideControl_spill (tankTakesEdge_control ..)
  | gateClosedLimit => exact outsideControl_spill (tankTakesEdge_control ..)
  | spillFloat => exact spillEvaluates_control _ { s with spill.floatCond := e.level }
  | pumpRunning => exact outsideControl_spill (drainTakesEdge_control ..)

/-! ### The gate -/

/-- What the gate makes of an edge of the limit of direction d (R96, R99, R100 b). -/
structure GateEdge (d : GateDir) (level : Bool) (u t : State) : Prop where
  faults : u.tank.gate ≠ some .fault → u.asserted .gateOpenLimit = true → u.asserted .gateClosedLimit = true →
    t = tankEvaluate false (gateFaults u)
  stays : u.tank.gate = some .fault → t = tankEvaluate false u
  moves : ¬ (u.asserted .gateOpenLimit = true ∧ u.asserted .gateClosedLimit = true) →
    (level = true → u.tank.gate = some d.moving ∨ (u.tank.gate = some .retryWait ∧ u.tank.gateDir = some d) →
      t = tankEvaluate false (gateArrives d u)) ∧
    (level = false → u.tank.gate = some d.atLimit → t = tankEvaluate false (beginTravel d 0 u)) ∧
    (¬ (level = true ∧ (u.tank.gate = some d.moving ∨ (u.tank.gate = some .retryWait ∧ u.tank.gateDir = some d))) →
      ¬ (level = false ∧ u.tank.gate = some d.atLimit) → t = tankEvaluate false u)

theorem bothLimits_iff {s : State} :
    bothLimits s = true ↔ s.asserted .gateOpenLimit = true ∧ s.asserted .gateClosedLimit = true := by
  unfold bothLimits
  exact Bool.and_eq_true_iff

theorem tankTakesEdge_spec (d : GateDir) (level : Bool) (u : State) : GateEdge d level u (tankTakesEdge d level u) := by
  have fault_ne : ∀ d : GateDir, some d.moving ≠ some GateState.fault ∧ some d.atLimit ≠ some GateState.fault := fun d => by
    cases d <;> decide
  unfold tankTakesEdge gateTakesEdge
  refine ⟨fun sound opened closed => ?_, fun fault => ?_, fun apart => ⟨fun rises arrives => ?_, fun falls rests => ?_,
    fun other still => ?_⟩⟩
  · rw [if_neg sound, if_pos (bothLimits_iff.mpr ⟨opened, closed⟩)]
  · rw [if_pos fault]
  · have sound : u.tank.gate ≠ some .fault := by
      rcases arrives with moving | ⟨waits, _⟩
      · rw [moving]; exact (fault_ne d).1
      · rw [waits]; decide
    rw [if_neg sound, if_neg (mt bothLimits_iff.mp apart), if_pos rises]
    by_cases moving : u.tank.gate = some d.moving
    · rw [if_pos moving]
    · rw [if_neg moving, if_pos (arrives.resolve_left moving)]
  · rw [if_neg (by rw [rests]; exact (fault_ne d).2), if_neg (mt bothLimits_iff.mp apart), if_neg (by rw [falls]; decide),
      if_pos rests]
  · by_cases fault : u.tank.gate = some .fault
    · rw [if_pos fault]
    · rw [if_neg fault, if_neg (mt bothLimits_iff.mp apart)]
      cases level with
      | true =>
        obtain ⟨moving, waits⟩ := not_or.mp fun x => other ⟨rfl, x⟩
        rw [if_pos rfl, if_neg moving, if_neg waits]
      | false => rw [if_neg (by decide), if_neg fun rests => still ⟨rfl, rests⟩]

/-! ### The pump -/

/-- A pump that has run runs on or stops. -/
def RunsOn (s : State) : Prop := s.drain.pump = some .running ∨ s.drain.pump = some .stopping

theorem RunsOn.of_drain {s t : State} (h : RunsOn s) (drain : t.drain = s.drain) : RunsOn t := by
  unfold RunsOn; rw [drain]; exact h

theorem commandStop_runsOn {s : State} (h : RunsOn s) : RunsOn (commandStop s) := by
  unfold RunsOn
  rw [commandStop_pump]
  split
  · exact .inr rfl
  · exact h

theorem pumpStart_runsOn {s : State} (h : RunsOn s) : RunsOn (pumpStart s) := by
  have moving : s.drain.pump ≠ some .stopped := by rcases h with h | h <;> rw [h] <;> decide
  unfold pumpStart
  rw [if_neg fun may => moving may.1]
  exact h

theorem followShare_runsOn {s : State} (h : RunsOn s) : RunsOn (followShare s) := by
  unfold followShare; split_ifs
  · exact commandStop_runsOn h
  all_goals exact h

theorem formClaim_runsOn {s : State} (h : RunsOn s) : RunsOn (formClaim s) := by
  unfold RunsOn; rw [formClaim_drain]; exact h

theorem shareAndSetpoint_runsOn {s : State} (h : RunsOn s) : RunsOn (shareAndSetpoint s) := by
  have followed : RunsOn (followShare (runShare s)) := followShare_runsOn h
  unfold shareAndSetpoint; dsimp only; split
  · exact followed
  · exact formClaim_runsOn followed

theorem reformClaim_runsOn {s : State} (h : RunsOn s) : RunsOn (reformClaim s) := shareAndSetpoint_runsOn (formClaim_runsOn h)

theorem tankEnters_runsOn {s : State} (h : RunsOn s) (t : TankState) : RunsOn (tankEnters t s) := by
  have moved : RunsOn (tankMoves t s) := h.of_drain (tankMoves_moves t s).1
  refine RunsOn.of_drain ?_ (tankEnters_drain t s)
  unfold drainTakesTankState
  split
  · exact reformClaim_runsOn (pumpStart_runsOn moved)
  · exact reformClaim_runsOn (commandStop_runsOn moved)

theorem pumpChanges_runsOn {t : State} (h : RunsOn t) (s : State) : RunsOn (pumpChanges s t) := by
  have evaluated : ∀ {u : State}, RunsOn u → RunsOn (tankEvaluate false u) := fun {u} ok =>
    tankCascade_rel (R := fun s t => RunsOn s → RunsOn t) (fun _ => id) (fun _ _ _ h k => k ∘ h)
      (fun _ _ t _ ok => tankEnters_runsOn ok t) 6 false u ok
  have formed := reformClaim_runsOn h
  unfold pumpChanges afterDrain
  split
  · exact evaluated (formed.of_drain (releaseDeferred_leaves _).1)
  · exact formed

/-- R139 a: a pump in FAULT asks for nothing. -/
theorem requestedRate_fault {s : State} (h : s.drain.pump = some .fault) : requestedRate s = 0 :=
  if_neg fun asks => asks.2.2.1 h

/-- R139 b: what a pump in FAULT draws follows its contact. -/
theorem drawnRate_fault {s : State} (h : s.drain.pump = some .fault) :
    drawnRate s = if s.asserted .pumpRunning then s.drain.lastNonzero.getD s.cfg.pumpMax else 0 := by
  unfold drawnRate lastRate; rw [h]

/-- The claim that a changed pump leaves, in FAULT: nothing asked for, and drawn what the contact shows. -/
theorem pumpChanges_faultClaim {u v : State} (fault : v.drain.pump = some .fault) :
    (pumpChanges u v).drain.claim.requested = 0 ∧ (pumpChanges u v).drain.claim.drawn =
      if v.asserted .pumpRunning then v.drain.lastNonzero.getD v.cfg.pumpMax else 0 := by
  have kept := pumpChanges_idle (s := u) (.inl fault)
  have stays := kept.pump.trans fault
  have claim : (pumpChanges u v).drain.claim = claimNow (pumpChanges u v) := pumpChanges_formed u v
  obtain ⟨_, running, _, cfg⟩ := SameField.of_control (outsideControl_of (pumpChanges_tank u v))
  rw [claim]
  refine ⟨requestedRate_fault stays, (drawnRate_fault stays).trans ?_⟩
  rw [running, kept.lastNonzero, cfg]

/-- A state in which the pump has changed, and what else the pump's own transition sets. -/
structure PumpMoved (s v : State) : Prop where
  claim : Claims s v
  tank : v.tank = s.tank
  elapsed : v.elapsed = s.elapsed
  opened : v.asserted .gateOpenLimit = s.asserted .gateOpenLimit

theorem PumpMoved.reformed {s v : State} (h : PumpMoved s v) (u : State) : claimReformed s (pumpChanges u v) :=
  claimReformed_of (pumpChanges_formed u v) (h.claim.trans (pumpChanges_claims u v))

theorem PumpMoved.defers {s u v : State} (h : PumpMoved s v) (idle : PumpIdle v) (changed : u.drain.pump ≠ v.drain.pump) :
    deferralEnds s (pumpChanges u v) :=
  pumpChanges_defers idle changed h.tank h.elapsed h.claim.cfg h.opened

/-- What the Drain Controller makes of an edge of PUMP_RUNNING (R152 to R156), from s to t, with u between them: the edge
recognised. -/
structure PumpEdge (level : Bool) (s u t : State) : Prop where
  starts : s.drain.pump = some .starting → level = true →
    t = pumpChanges u { u with drain.pump := some .running, drain.pumpTimer := none } ∧
    t.drain.pump ∈ [some .running, some .stopping] ∧ claimReformed s t
  stops : s.drain.pump = some .stopping → level = false →
    t = pumpChanges u (pumpStops u) ∧
    t.drain.pump = some .stopped ∧ t.drain.pumpTimer = none ∧ t.drain.restElapsed = false ∧
    t.drain.restTimer = some (s.elapsed + 1000 * s.cfg.pumpRest) ∧ claimReformed s t ∧ deferralEnds s t
  faults : s.drain.pump = some .running ∧ level = false ∨ s.drain.pump = some .stopped ∧ level = true →
    t = pumpChanges u (pumpFaults u) ∧
    t.drain.pump = some .fault ∧ t.drain.setpoint = 0 ∧ t.input.pumpRun = false ∧ t.input.pumpRate = 0 ∧
    t.drain.claim.requested = 0 ∧ t.drain.claim.drawn = (if level then s.drain.lastNonzero.getD s.cfg.pumpMax else 0) ∧
    t.tank.state ≠ .draining ∧ t.port.flags = s.port.flags ||| BitVec.twoPow 15 11 ∧ claimReformed s t ∧ deferralEnds s t
  stays : s.drain.pump = some .fault →
    t = pumpChanges u u ∧ t.drain.pump = some .fault ∧ claimReformed s t ∧
    t.drain.claim.drawn = (if level then s.drain.lastNonzero.getD s.cfg.pumpMax else 0)
  others : (s.drain.pump, level) ∈ [(none, true), (none, false), (some .starting, false), (some .running, true),
    (some .stopping, true), (some .stopped, false)] → t = u

/-- An edge of PUMP_RUNNING recognised: the contact alone has changed. -/
structure PumpRecognised (level : Bool) (s u : State) : Prop where
  drain : u.drain = s.drain
  tank : u.tank = s.tank
  trunk : u.trunk = s.trunk
  port : u.port = s.port
  elapsed : u.elapsed = s.elapsed
  opened : u.asserted .gateOpenLimit = s.asserted .gateOpenLimit
  running : u.asserted .pumpRunning = level

/-- What the pump's own transition sets changes neither the claim nor another block. -/
theorem PumpRecognised.moved {level : Bool} {s u v : State} (h : PumpRecognised level s u)
    (claim : v.drain.claim = u.drain.claim) (trunk : v.trunk = u.trunk) (tank : v.tank = u.tank) (elapsed : v.elapsed = u.elapsed)
    (cfg : v.cfg = u.cfg) (digital : v.input.digital = u.input.digital) : PumpMoved s v := by
  obtain ⟨drain', tank', trunk', port', elapsed', opened', _⟩ := h
  refine ⟨.of_same (cfg.trans (by unfold State.cfg; rw [port'])) (claim.trans (by rw [drain'])) (by rw [trunk, trunk']),
    tank.trans tank', elapsed.trans elapsed', ?_⟩
  rw [← opened']
  unfold State.asserted
  rw [digital]

theorem PumpRecognised.cfg {level : Bool} {s u : State} (h : PumpRecognised level s u) : u.cfg = s.cfg := by
  unfold State.cfg; rw [h.port]

/-- R156: the pump comes to FAULT. -/
theorem PumpRecognised.faults {level : Bool} {s u t : State} (h : PumpRecognised level s u)
    (was : s.drain.pump ≠ some .fault) (ht : t = pumpChanges u (pumpFaults u)) :
    t.drain.pump = some .fault ∧ t.drain.setpoint = 0 ∧ t.input.pumpRun = false ∧ t.input.pumpRate = 0 ∧
    t.drain.claim.requested = 0 ∧ t.drain.claim.drawn = (if level then s.drain.lastNonzero.getD s.cfg.pumpMax else 0) ∧
    t.tank.state ≠ .draining ∧ t.port.flags = s.port.flags ||| BitVec.twoPow 15 11 ∧ claimReformed s t ∧
    deferralEnds s t := by
  have idle : PumpIdle (pumpFaults u) := .inl rfl
  have changed : u.drain.pump ≠ (pumpFaults u).drain.pump := by rw [h.drain]; exact was
  have kept := pumpChanges_idle (s := u) idle
  have moved : PumpMoved s (pumpFaults u) := h.moved rfl rfl rfl rfl rfl rfl
  have rate : (pumpFaults u).input.pumpRate = 0 := by
    show 0 * 1000 / _ = 0
    rw [Nat.zero_mul, Nat.zero_div]
  obtain ⟨setpoint, pumpRate⟩ := kept.drawn ⟨rfl, rate⟩
  obtain ⟨requested, drawn⟩ := pumpChanges_faultClaim (u := u) (v := pumpFaults u) rfl
  have running : (pumpFaults u).asserted .pumpRunning = level := h.running
  have last : (pumpFaults u).drain.lastNonzero = s.drain.lastNonzero := by rw [← h.drain]; rfl
  have cfg : (pumpFaults u).cfg = s.cfg := h.cfg
  have port : (pumpChanges u (pumpFaults u)).port.flags = u.port.flags ||| BitVec.twoPow 15 11 :=
    congrArg (fun x => x.port.flags) (pumpChanges_tank u (pumpFaults u))
  rw [running, last, cfg] at drawn
  rw [h.port] at port
  subst ht
  exact ⟨kept.pump, setpoint, kept.pumpRun, pumpRate, requested, drawn, pumpChanges_faulted rfl changed, port,
    moved.reformed u, moved.defers idle changed⟩

/-- R152 to R156: the cases of an edge by the pump's state. -/
theorem drainTakesEdge_spec {level : Bool} {s u : State} (h : PumpRecognised level s u) :
    PumpEdge level s u (drainTakesEdge level u) := by
  refine ⟨fun starting rises => ?_, fun stopping falls => ?_, fun uncommanded => ?_, fun fault => ?_, fun other => ?_⟩
  · have taken : drainTakesEdge level u =
        pumpChanges u { u with drain.pump := some .running, drain.pumpTimer := none } := by
      unfold drainTakesEdge; rw [h.drain, starting, rises]
    have moved : PumpMoved s { u with drain.pump := some .running, drain.pumpTimer := none } :=
      h.moved rfl rfl rfl rfl rfl rfl
    have runs : RunsOn { u with drain.pump := some .running, drain.pumpTimer := none } := .inl rfl
    rw [taken]
    refine ⟨rfl, ?_, moved.reformed u⟩
    rcases pumpChanges_runsOn runs u with p | p <;> rw [p] <;> decide
  · have taken : drainTakesEdge level u = pumpChanges u (pumpStops u) := by
      unfold drainTakesEdge; rw [h.drain, stopping, falls]
    have idle : PumpIdle (pumpStops u) := .inr ⟨rfl, rfl⟩
    have kept := pumpChanges_idle (s := u) idle
    have moved : PumpMoved s (pumpStops u) := h.moved rfl rfl rfl rfl rfl rfl
    have rest : (pumpStops u).drain.restTimer = some (s.elapsed + 1000 * s.cfg.pumpRest) := by
      rw [← h.elapsed, ← h.cfg, Nat.mul_comm]; rfl
    rw [taken]
    refine ⟨rfl, kept.pump, kept.pumpTimer, kept.restElapsed, kept.restTimer.trans rest, moved.reformed u,
      moved.defers idle ?_⟩
    rw [h.drain, stopping]
    exact fun same => absurd (Option.some.inj same) (by decide)
  · have taken : drainTakesEdge level u = pumpChanges u (pumpFaults u) := by
      unfold drainTakesEdge
      rw [h.drain]
      rcases uncommanded with ⟨pump, edge⟩ | ⟨pump, edge⟩ <;> rw [pump, edge]
    refine ⟨taken, h.faults ?_ taken⟩
    rcases uncommanded with ⟨pump, _⟩ | ⟨pump, _⟩ <;> rw [pump] <;> decide
  · have taken : drainTakesEdge level u = pumpChanges u u := by
      unfold drainTakesEdge; rw [h.drain, fault]
    have fault' : u.drain.pump = some .fault := by rw [h.drain]; exact fault
    have moved : PumpMoved s u := h.moved rfl rfl rfl rfl rfl rfl
    have drawn := (pumpChanges_faultClaim (u := u) fault').2
    rw [h.running, h.cfg, h.drain] at drawn
    rw [taken]
    exact ⟨rfl, (pumpChanges_idle (.inl fault')).pump.trans fault', moved.reformed u, drawn⟩
  · unfold drainTakesEdge
    rw [h.drain]
    simp only [List.mem_cons, Prod.mk.injEq, List.not_mem_nil, or_false] at other
    rcases other with ⟨pump, edge⟩ | ⟨pump, edge⟩ | ⟨pump, edge⟩ | ⟨pump, edge⟩ | ⟨pump, edge⟩ | ⟨pump, edge⟩ <;>
      rw [pump, edge]

/-! ### The Spill Monitor -/

/-- R110 to R113 read the configuration alone beside the Spill Monitor. -/
theorem spillAfter_congr {s t : State} (cfg : t.cfg = s.cfg) (c : Bool) (change : Stamped) (p : Spill) :
    spillAfter t c change p = spillAfter s c change p := by
  unfold spillAfter; rw [cfg]

/-- R109, R110 b and c: the instants by which a change of the combined condition is dated. -/
theorem spillTakesEdge_spec (level : Bool) (edge first change : Stamped) (s : State)
    (hfirst : first = match s.spill.stateInstant with
      | some b => if edge.instant < b.instant then b else edge
      | none => edge)
    (hchange : change = match level, s.spill.levelInstant with
      | false, some b => if first.instant < b.instant then b else first
      | _, _ => first) :
    (spillTakesEdge level edge s).spill =
      spillAfter s (s.spill.levelCond || level) change { s.spill with floatCond := level } ∧
    ((spillTakesEdge level edge s).spill.state ≠ s.spill.state →
      (spillTakesEdge level edge s).counter.spill = (spillTakesEdge level edge s).spill.state) := by
  have fromState : laterOf edge s.spill.stateInstant = first := by
    rw [hfirst]; cases s.spill.stateInstant <;> rfl
  have dated : (if level then laterOf edge s.spill.stateInstant
      else laterOf (laterOf edge s.spill.stateInstant) s.spill.levelInstant) = change := by
    rw [fromState, hchange]
    cases level <;> cases s.spill.levelInstant <;> rfl
  have evaluated : spillTakesEdge level edge s = spillEvaluates change { s with spill.floatCond := level } := by
    unfold spillTakesEdge; dsimp only; rw [dated]
  rw [evaluated]
  refine ⟨(spillEvaluates_spill change _).trans (spillAfter_congr rfl _ _ _), fun moves => ?_⟩
  rcases spillEvaluates_counterSpill change { s with spill.floatCond := level } with same | notified
  · rw [same] at moves; exact absurd rfl moves
  · exact notified

/-! ### An edge recognised -/

/-- R70 c, R72: the state in which an owner finds its edge, the contact alone changed. -/
def edgeRecognised (i : DigitalIn) (e : Candidate) (s : State) : State :=
  setInput i (recogniseEdge (s.cfg.capture.get i) e (s.input.digital.get i)) s

theorem edgeRecognised_own (i : DigitalIn) (e : Candidate) (s : State) : (edgeRecognised i e s).input.digital.get i =
    recogniseEdge (s.cfg.capture.get i) e (s.input.digital.get i) := perInput_get_set _ i _

theorem edgeRecognised_other {i j : DigitalIn} (e : Candidate) (s : State) (other : j ≠ i) :
    (edgeRecognised i e s).input.digital.get j = s.input.digital.get j := perInput_get_set_other _ _ other

theorem edgeRecognised_asserted (i : DigitalIn) (e : Candidate) (s : State) : (edgeRecognised i e s).asserted i = e.level := by
  unfold State.asserted
  rw [edgeRecognised_own]
  unfold recogniseEdge
  cases e.level <;> rfl

/-- R70 c: at the end of its FILTER an edge is handed to its owner. -/
theorem filterExpiry_hands {s : State} {i : DigitalIn} {e : Candidate} (due : filterDue i s = some e) :
    exec (.filterExpiry i) s = .next (handEdge i e (edgeRecognised i e s)) := by
  show Host.Outcome.next (match filterDue i s with
    | none => s
    | some e => takeEdge i e s) = _
  rw [due]
  rfl

/-- The gate's case of an edge, from the state in which the contact alone has changed. -/
theorem edgeRecognised_gate {i : DigitalIn} {d : GateDir} (e : Candidate) (s : State)
    (limit : (i, d) ∈ [(DigitalIn.gateOpenLimit, GateDir.toOpen), (.gateClosedLimit, .toClose)]) :
    i = d.limit ∧ GateEdge d e.level (edgeRecognised i e s) (handEdge i e (edgeRecognised i e s)) := by
  simp only [List.mem_cons, Prod.mk.injEq, List.not_mem_nil, or_false] at limit
  rcases limit with ⟨rfl, rfl⟩ | ⟨rfl, rfl⟩
  · exact ⟨rfl, tankTakesEdge_spec .toOpen e.level _⟩
  · exact ⟨rfl, tankTakesEdge_spec .toClose e.level _⟩

theorem edgeRecognised_pump (e : Candidate) (s : State) :
    PumpRecognised e.level s (edgeRecognised .pumpRunning e s) :=
  ⟨rfl, rfl, rfl, rfl, rfl, by unfold State.asserted; rw [edgeRecognised_other e s (by decide)],
    edgeRecognised_asserted .pumpRunning e s⟩

/-- R156: what the pump's FAULT sets. -/
theorem pumpFaults_eq (s : State) : pumpFaults s = { s with
    drain := { s.drain with pump := some .fault, setpoint := 0, pumpTimer := none, restTimer := none, restElapsed := false }
    input.pumpRun := false, input.pumpRate := 0
    port := s.port.withEvents (s.port.flags ||| BitVec.twoPow 15 11) s.port.mask } := by
  unfold pumpFaults raise setSetpoint
  dsimp only
  rw [Nat.zero_mul, Nat.zero_div]
  rfl

/-! ### The obligation -/

/-- Settles O40: a transition changes its contact alone (`contactMoves_eq`), and a recognised edge is what its owner makes of it
(`tankTakesEdge_spec`, `spillTakesEdge_spec`, `drainTakesEdge_spec`), from the state in which the contact alone has changed. -/
theorem contactsAreFiltered : Obligations.ContactsAreFiltered := by
  refine ⟨fun s i level => ⟨_, rfl, ?_⟩, fun s i e d mode old new candidate held hd hmode hold hnew => ?_⟩
  · exact ⟨(perInput_get_set _ i _).trans (contactMoves_eq ..), fun j other => perInput_get_set_other _ _ other, rfl⟩
  obtain ⟨t, ht⟩ : ∃ t, t = handEdge i e (edgeRecognised i e s) := ⟨_, rfl⟩
  have same : ∀ {α : Type} (f : State → α),
      f (outsideControl t) = f (outsideControl { edgeRecognised i e s with spill := t.spill }) :=
    fun f => congrArg f (by rw [ht]; exact handEdge_control i e _)
  have digital : t.input.digital = (edgeRecognised i e s).input.digital := same fun x => x.input.digital
  have recognised : { s with input.digital := t.input.digital } = edgeRecognised i e s := by rw [digital]; rfl
  refine ⟨t, ht ▸ filterExpiry_hands (filterDue_of candidate held), ?_⟩
  beta_reduce
  rw [recognised]
  refine ⟨?_, fun j other => ?_, ?_, fun dir u limit hu => ?_, fun float first change hfirst hchange => ?_,
    fun pump u hu => ?_, same fun x => x.input.gauges, same State.time, same State.peers, same State.elapsed⟩
  · rw [digital, edgeRecognised_own, ← hd]
    exact recogniseEdge_eq hmode hold (capture_takes_eq mode _ old new hnew)
  · rw [digital]; exact edgeRecognised_other e s other
  · rw [ht]; cases i <;> rfl
  · obtain ⟨rfl, edge⟩ := edgeRecognised_gate e s limit
    rw [← ht, ← hu] at edge
    have free : e.level = false → u.asserted dir.limit = false := fun falls => by
      rw [hu, edgeRecognised_asserted]; exact falls
    have gate : u.tank = s.tank ∧ u.elapsed = s.elapsed ∧ u.cfg = s.cfg := by rw [hu]; exact ⟨rfl, rfl, rfl⟩
    obtain ⟨tank, elapsed, cfg⟩ := gate
    obtain ⟨faults, stays, moves⟩ := edge
    rw [tank] at faults stays moves
    refine ⟨faults, stays, fun apart => ?_⟩
    obtain ⟨arrives, leaves, still⟩ := moves apart
    refine ⟨arrives, fun falls rests => ?_, still⟩
    have travels := leaves falls rests
    rw [beginTravel_free (free falls)] at travels
    rw [travels, ← elapsed, ← cfg, Nat.mul_comm 1000]
    rfl
  · subst float
    have edge : t = spillTakesEdge e.level e.since (edgeRecognised .spillFloat e s) := ht
    obtain ⟨spill, counter⟩ := spillTakesEdge_spec e.level e.since first change (edgeRecognised .spillFloat e s) hfirst hchange
    rw [← edge] at spill counter
    exact ⟨spill.trans (spillAfter_congr rfl _ _ _), counter⟩
  · subst pump
    have contact := edgeRecognised_pump e s
    have edge : t = drainTakesEdge e.level (edgeRecognised .pumpRunning e s) := ht
    have spec := drainTakesEdge_spec contact
    rw [← edge] at spec
    rw [← hu] at spec contact
    obtain ⟨starts, stops, faults, stays, other⟩ := spec
    refine ⟨starts, fun stopping falls => ?_, fun uncommanded => ?_, stays, other⟩
    · obtain ⟨moved, rest⟩ := stops stopping falls
      refine ⟨?_, rest⟩
      rw [moved, ← contact.elapsed, ← contact.cfg, Nat.mul_comm 1000]
      rfl
    · obtain ⟨moved, rest⟩ := faults uncommanded
      rw [pumpFaults_eq] at moved
      exact ⟨moved, rest⟩

end Sys2Proof.Machine
end

section
/-! SUPPORT. The value of a table at an x (R82, R114; O39). -/

namespace Sys2Proof.Machine

/-- The order of the points of a table. -/
def pointsRise (p q : Point) : Prop := p.x < q.x ∧ p.y ≤ q.y

theorem pointsRise_pairwise {ps : List Point} (h : ps.IsChain pointsRise) : ps.Pairwise pointsRise :=
  haveI : Trans pointsRise pointsRise pointsRise := ⟨fun a b => ⟨a.1.trans b.1, a.2.trans b.2⟩⟩
  h.pairwise

/-- At or below the first point. -/
theorem interpolate_first {p : Point} {ps : List Point} {x : Nat} (h : (p :: ps).Pairwise pointsRise) (below : x ≤ p.x) :
    interpolate (p :: ps) x = p.y := by
  cases ps with
  | nil => rfl
  | cons q ps =>
    have rises : p.x < q.x := (List.rel_of_pairwise_cons h List.mem_cons_self).1
    unfold interpolate
    split_ifs with lower between
    · rfl
    · have at_ : x - p.x = 0 := by omega
      rw [at_, Nat.zero_mul, Nat.zero_div, Nat.add_zero]
    · omega

/-- Past a point that is not the last, the rest of the table gives the value. -/
theorem interpolate_past {p q : Point} {ps : List Point} {x : Nat} (rises : p.x < q.x) (past : q.x ≤ x) :
    interpolate (p :: q :: ps) x = interpolate (q :: ps) x := by
  rw [interpolate, if_neg (by omega), if_neg (by omega)]

/-- At or beyond the last point. -/
theorem interpolate_last {ps : List Point} {p : Point} {x : Nat} (h : ps.Pairwise pointsRise) (last : ps.getLast? = some p)
    (beyond : p.x ≤ x) : interpolate ps x = p.y := by
  induction ps with
  | nil => cases last
  | cons a ps ih =>
    cases ps with
    | nil => cases last; rfl
    | cons b ps =>
      have last' : (b :: ps).getLast? = some p := by rw [← last, List.getLast?_cons_cons]
      have rises : a.x < b.x := (List.rel_of_pairwise_cons h List.mem_cons_self).1
      have tail := List.Pairwise.of_cons h
      have reached : b.x ≤ p.x := by
        rcases List.mem_cons.mp (List.mem_of_getLast? last') with same | later
        · rw [same]
        · exact (List.rel_of_pairwise_cons tail later).1.le
      rw [interpolate_past rises (by omega)]
      exact ih tail last'

/-- Between two points. -/
theorem interpolate_between {before after : List Point} {p q : Point} {x : Nat}
    (h : (before ++ p :: q :: after).Pairwise pointsRise) (lower : p.x ≤ x) (upper : x ≤ q.x) :
    interpolate (before ++ p :: q :: after) x = p.y + (x - p.x) * (q.y - p.y) / (q.x - p.x) := by
  induction before with
  | nil =>
    obtain ⟨rises, grows⟩ : pointsRise p q := List.rel_of_pairwise_cons h List.mem_cons_self
    rcases upper.lt_or_eq with below | at_
    · rw [List.nil_append, interpolate, if_neg (by omega), if_pos below]
    · subst at_
      rw [List.nil_append, interpolate_past rises (le_refl _), interpolate_first (List.Pairwise.of_cons h) (le_refl _),
        Nat.mul_div_cancel_left _ (by omega)]
      omega
  | cons a before ih =>
    have tail := List.Pairwise.of_cons h
    cases before with
    | nil =>
      have rises : a.x < p.x := (List.rel_of_pairwise_cons h List.mem_cons_self).1
      exact (interpolate_past rises lower).trans (ih tail)
    | cons b before =>
      have rises : a.x < b.x := (List.rel_of_pairwise_cons h List.mem_cons_self).1
      have reached : b.x < p.x := (List.rel_of_pairwise_cons tail (by simp)).1
      exact (interpolate_past rises (by omega)).trans (ih tail)

end Sys2Proof.Machine
end

section
/-! SUPPORT. What the notices of a sample leave of the volume and the fill, of the rain counted and of the log's read position
(`measured`), and of SENSOR_FAULT (`Keeps 12`). -/

namespace Sys2Proof.Machine

/-! ### The volume, the rain counted and the read position -/

/-- The volume with what is formed from it, the bins with the total, and the read position of the log. -/
def measured (s : State) : State := { State.reset with
  tank := { Tank.reset with volume := s.tank.volume, fill := s.tank.fill, assumedFull := s.tank.assumedFull }
  rain := { Rain.reset with bins := s.rain.bins, total := s.rain.total }
  counter := { Counter.reset with log := { SpillLog.reset with readPos := s.counter.log.readPos } } }

theorem measured_of_drain {s t : State} (h : outsideDrain t = outsideDrain s) : measured t = measured s := by
  have e : ∀ x, measured x = measured (outsideDrain x) := fun _ => rfl
  rw [e t, h, ← e s]

theorem measured_of_counter {s t : State} (h : outsideCounter t = outsideCounter s) : measured t = measured s := by
  have e : ∀ x, measured x = measured (outsideCounter x) := fun _ => rfl
  rw [e t, h, ← e s]

theorem inEitherOrder_measured {f g : State → State} (hf : ∀ t, measured (f t) = measured t)
    (hg : ∀ t, measured (g t) = measured t) (s : State) : measured (inEitherOrder f g s) = measured s :=
  inEitherOrder_holds (fun t => measured t = measured s) (fun t h => by rw [hg, hf, h]) (fun t h => by rw [hf, hg, h]) rfl

@[simp] theorem retarget_measured (s : State) : measured (retarget s) = measured s := by
  have e : ∀ x, measured x = measured (outsideGate x) := fun _ => rfl
  rw [e, retarget_gate, ← e]

@[simp] theorem releaseDeferred_measured (s : State) : measured (releaseDeferred s) = measured s := by
  unfold releaseDeferred; split
  · rw [retarget_measured]; rfl
  · rfl

@[simp] theorem tankEnters_measured (t : TankState) (s : State) : measured (tankEnters t s) = measured s := by
  unfold tankEnters tankMoves
  rw [releaseDeferred_measured, measured_of_drain (drainTakesTankState_outside _), retarget_measured]
  rfl

@[simp] theorem tankEvaluate_measured (a : Bool) (s : State) : measured (tankEvaluate a s) = measured s := by
  have cascade : ∀ n a b s, measured (tankCascade n a b s) = measured s := fun n => by
    induction n with
    | zero => exact fun _ _ _ => rfl
    | succ n ih =>
      intro a b s
      unfold tankCascade; split
      · rfl
      · dsimp only; split
        · rw [ih, tankEnters_measured]
        · exact tankEnters_measured _ _
  exact cascade _ _ _ _

@[simp] theorem afterDrain_measured (s t : State) : measured (afterDrain s t) = measured t := by
  unfold afterDrain tankTakesDrainNotice; split
  · rw [tankEvaluate_measured, releaseDeferred_measured]
  · rfl

@[simp] theorem drainTakesNotice_measured (s : State) : measured (drainTakesNotice s) = measured s := by
  unfold drainTakesNotice; rw [afterDrain_measured, measured_of_drain (reformClaim_outside s)]

@[simp] theorem drainTakesShareNotice_measured (s : State) : measured (drainTakesShareNotice s) = measured s := by
  unfold drainTakesShareNotice; rw [afterDrain_measured, measured_of_drain (shareAndSetpoint_outside s)]

@[simp] theorem updateRelease_measured (s : State) : measured (updateRelease s) = measured s := by
  unfold updateRelease; split_ifs <;> rfl

@[simp] theorem tankTakesAlert_measured (s : State) : measured (tankTakesAlert s) = measured s := by
  unfold tankTakesAlert; rw [tankEvaluate_measured, updateRelease_measured]

@[simp] theorem formBranchAlert_measured (s : State) : measured (formBranchAlert s) = measured s := by
  have told : measured (alerted s) = measured s := rfl
  unfold formBranchAlert; dsimp only; split
  · rfl
  · exact (inEitherOrder_measured drainTakesShareNotice_measured tankTakesAlert_measured _).trans told

@[simp] theorem evaluateAlert_measured (s : State) : measured (evaluateAlert s) = measured s := by
  have queued : ∀ u : State, measured (queueRain u) = measured u := fun u => by unfold queueRain; rw [queueBody_sets]; rfl
  unfold evaluateAlert; dsimp only; split
  · unfold alertRises; rw [formBranchAlert_measured, queued]; rfl
  · unfold updateHold; split_ifs <;> rfl

@[simp] theorem notifySpill_measured (s : State) : measured (notifySpill s) = measured s := by
  have counted : measured (counterTakesSpillState s) = measured s :=
    measured_of_counter (s := { s with counter.spill := s.spill.state }) (counterTakesSpillState_counter s)
  have told : measured (evaluateLamp (counterTakesSpillState s)) = measured s := counted
  exact (inEitherOrder_measured drainTakesNotice_measured evaluateAlert_measured _).trans told

@[simp] theorem spillEvaluates_measured (c : Stamped) (s : State) : measured (spillEvaluates c s) = measured s := by
  have changed : ∀ p, measured (notifySpill { s with spill := p }) = measured s := fun _ => notifySpill_measured _
  unfold spillEvaluates enterOnset lapseSpell enterSubsiding resumeSpilling
  split
  case h_5 => rfl
  all_goals exact changed _

@[simp] theorem takeSpillSample_measured (a : SpillState) (n : Nat) (s : State) :
    measured (takeSpillSample a n s) = measured s := by
  have counted : ∀ (x : SampleNotice) (u : State), measured (counterTakesSample x u) = measured u := fun x u =>
    measured_of_counter (counterTakesSample_counter x u)
  have integrated : ∀ p, measured (integrateSample n p s) = measured s := fun _ => rfl
  unfold takeSpillSample; dsimp only; split_ifs
  · rfl
  · exact counted _ _
  all_goals rw [counted, integrated]

@[simp] theorem convertGauge_measured (g : Gauge) (r : BitVec 12) (s : State) : measured (convertGauge g r s) = measured s := by
  unfold convertGauge; dsimp only; split <;> rfl

/-! ### SENSOR_FAULT -/

theorem placeRecord_keeps (r : SpillRecord) (s : State) : Keeps 12 s (placeRecord r s) := by
  have raised : ∀ (f : EventFlag) (c : Counter), 12 ≠ f.bit → Keeps 12 s (raise f { s with counter := c }) :=
    fun f _ other => (raise_keeps f other _).start rfl rfl
  unfold placeRecord; dsimp only; split_ifs <;> exact raised _ _ (by decide)

theorem closeEvent_keeps (n : Nat) (m : RecordFlags → RecordFlags) (s : State) : Keeps 12 s (closeEvent n m s) := by
  unfold closeEvent; split
  · exact .refl 12 s
  · exact (placeRecord_keeps _ _).start rfl rfl

theorem splitEvent_keeps (x : Stamped) (p : Nat) (s : State) : Keeps 12 s (splitEvent x p s) := by
  have opened : ∀ (f : RecordFlags) (u : State), Keeps 12 u (openEvent x f 0 p false u) := fun _ _ => .of_same rfl rfl
  unfold splitEvent; dsimp only; split
  · exact .refl 12 s
  · split
    · exact Keeps.trans (.of_same (t := decideSwitchOnly s) rfl rfl) ((closeEvent_keeps _ _ _).trans (opened _ _))
    · exact closeEvent_keeps _ _ _

theorem counterConfirms_keeps (s : State) : Keeps 12 s (counterConfirms s) := by
  have cleared : ∀ {u : State}, Keeps 12 s u → Keeps 12 s (clearSummary u) := fun k => k.trans (.of_same rfl rfl)
  unfold counterConfirms; split
  · exact .of_same rfl rfl
  · unfold confirmDeferred; dsimp only
    refine cleared ?_
    split
    · exact (splitEvent_keeps _ _ _).start rfl rfl
    · exact .of_same rfl rfl
  · exact .of_same rfl rfl
  · exact .of_same rfl rfl

theorem counterLapses_keeps (s : State) : Keeps 12 s (counterLapses s) := by
  unfold counterLapses; dsimp only; split
  · split_ifs
    · exact (splitEvent_keeps _ _ _).start rfl rfl
    · exact .of_same rfl rfl
    · exact (closeEvent_keeps _ _ _).start rfl rfl
  · exact .of_same rfl rfl

theorem counterTakesSpillState_keeps (s : State) : Keeps 12 s (counterTakesSpillState s) := by
  unfold counterTakesSpillState; dsimp only; split
  · exact (counterConfirms_keeps _).start rfl rfl
  · exact (counterLapses_keeps _).start rfl rfl
  all_goals exact .of_same rfl rfl

theorem evaluateAlert_keeps (s : State) : Keeps 12 s (evaluateAlert s) := by
  have evaluated : ∀ r, Keeps 12 s { s with rain := r } := fun _ => .of_same rfl rfl
  have queued : ∀ u : State, Keeps 12 u (queueRain u) := fun u => by unfold queueRain; rw [queueBody_sets]; exact .of_same rfl rfl
  unfold evaluateAlert; dsimp only; split
  · exact ((evaluated _).trans (queued _)).trans (formBranchAlert_keeps (by decide) _)
  · unfold updateHold; split_ifs <;> exact evaluated _

theorem notifySpill_keeps (s : State) : Keeps 12 s (notifySpill s) := by
  have told : Keeps 12 s (evaluateLamp (counterTakesSpillState s)) :=
    (counterTakesSpillState_keeps s).trans (.of_same rfl rfl)
  exact told.trans (inEitherOrder_keeps (fun t => .of_tank (drainTakesNotice_tank t)) evaluateAlert_keeps _)

theorem spillEvaluates_keeps (c : Stamped) (s : State) : Keeps 12 s (spillEvaluates c s) := by
  have changed : ∀ p, Keeps 12 s (notifySpill { s with spill := p }) := fun _ => (notifySpill_keeps _).start rfl rfl
  unfold spillEvaluates enterOnset lapseSpell enterSubsiding resumeSpilling
  split
  case h_5 => exact .refl 12 s
  all_goals exact changed _

theorem takeSpillSample_keeps (a : SpillState) (n : Nat) (s : State) : Keeps 12 s (takeSpillSample a n s) := by
  have counted : ∀ (x : SampleNotice) (u : State), Keeps 12 u (counterTakesSample x u) := fun x u => by
    unfold counterTakesSample; split_ifs <;> exact .of_same rfl rfl
  have integrated : ∀ p, Keeps 12 s (integrateSample n p s) := fun _ => .of_same rfl rfl
  unfold takeSpillSample; dsimp only; split_ifs
  · exact .refl 12 s
  · exact counted _ s
  all_goals exact (integrated _).trans (counted _ _)

/-! ### The summary -/

theorem placeRecord_summary (r : SpillRecord) (s : State) : (placeRecord r s).counter.summary = s.counter.summary := by
  unfold placeRecord; dsimp only; split_ifs <;> rfl

theorem closeEvent_summary (n : Nat) (m : RecordFlags → RecordFlags) (s : State) :
    (closeEvent n m s).counter.summary = s.counter.summary := by
  unfold closeEvent; split
  · rfl
  · rw [placeRecord_summary]

theorem splitEvent_summary (x : Stamped) (p : Nat) (s : State) : (splitEvent x p s).counter.summary = s.counter.summary := by
  have opened : ∀ (f : RecordFlags) (u : State), (openEvent x f 0 p false u).counter.summary = u.counter.summary :=
    fun _ _ => rfl
  unfold splitEvent; dsimp only; split
  · rfl
  · split
    · rw [opened, closeEvent_summary]; rfl
    · exact closeEvent_summary _ _ s

/-- R171: a lapse clears the summary, and without an open event leaves the totals. -/
theorem counterLapses_clears (s : State) : (counterLapses s).counter.summary = noSummary ∧
    (s.counter.event = none → (counterLapses s).counter.event = none ∧ (counterLapses s).counter.totals = s.counter.totals) := by
  refine ⟨?_, fun absent => ?_⟩
  · unfold counterLapses; dsimp only; split
    · split_ifs
      · rw [splitEvent_summary]; rfl
      · rfl
      · rw [closeEvent_summary]; rfl
    · rfl
  · have cleared : counterLapses s = clearSummary s := by
      have absent' : (clearSummary s).counter.event = none := absent
      unfold counterLapses
      dsimp only
      rw [absent']
    rw [cleared]
    exact ⟨absent, rfl⟩

end Sys2Proof.Machine
end

section
/-! SUPPORT. What an OVERFLOW sample leaves of the Spill Monitor and of the Spill Counter once the head is measured
(`SpillTaken`; R111 to R118, R171). -/

namespace Sys2Proof.Machine

/-! ### The spill state evaluated and notified -/

/-- The changes of the spill state that the combined condition makes (R111 to R113). -/
def spillMoves : List (SpillState × SpillState) :=
  [(.clear, .onset), (.onset, .clear), (.spilling, .subsiding), (.subsiding, .spilling)]

/-- An evaluation changes nothing, or makes one of the changes and notifies it. -/
theorem spillEvaluates_cases (c : Stamped) (s : State) : spillEvaluates c s = s ∨
    spillEvaluates c s = notifySpill { s with spill := (spillEvaluates c s).spill } ∧
      (s.spill.state, (spillEvaluates c s).spill.state) ∈ spillMoves := by
  have notified : ∀ p : Spill, (s.spill.state, p.state) ∈ spillMoves →
      notifySpill { s with spill := p } = notifySpill { s with spill := (notifySpill { s with spill := p }).spill } ∧
        (s.spill.state, (notifySpill { s with spill := p }).spill.state) ∈ spillMoves := fun p moves => by
    rw [notifySpill_spill]; exact ⟨rfl, moves⟩
  unfold spillEvaluates enterOnset lapseSpell enterSubsiding resumeSpilling
  split
  case h_5 => exact .inl rfl
  all_goals
    next state _ =>
      refine .inr (notified _ ?_)
      rw [state]
      simp [spillMoves]

/-- What of the Spill Counter's own notice of a change it takes (R167, R171). -/
theorem counterTakesSpillState_lapse {s : State} (held : s.counter.spill = .onset) (state : s.spill.state = .clear) :
    counterTakesSpillState s = counterLapses { s with counter.spill := .clear } := by
  unfold counterTakesSpillState; rw [held, state]

theorem counterTakesSpillState_spills {s : State} (moves : (s.counter.spill, s.spill.state) ∈
    [(SpillState.spilling, SpillState.subsiding), (.subsiding, .spilling)]) :
    counterTakesSpillState s = onCurrent (fun b => { b with containsSpill := true })
      { s with counter.spill := s.spill.state } := by
  simp only [List.mem_cons, Prod.mk.injEq, List.not_mem_nil, or_false] at moves
  unfold counterTakesSpillState
  rcases moves with ⟨held, state⟩ | ⟨held, state⟩ <;> rw [held, state]

theorem AlertNoted.map {s t : State} (h : AlertNoted s t) :
    ∃ alert, t.counter.event = s.counter.event.map fun ev => { ev with peakAlert := alert } := by
  cases open_ : s.counter.event with
  | none => exact ⟨.clear, h.none open_⟩
  | some ev =>
    obtain ⟨alert, _, told⟩ := h.some ev open_
    exact ⟨alert, told⟩

/-! ### The sample -/

/-- The head of a sample as a peak head (R171). -/
def peakOf (v : Spill) : Nat := if v.status = some .failed then 0 else (v.head.getD 0).toNat

/-- R118: the marks of the spell after a sample. -/
def spellMarks (v : Spill) : SpellMarks :=
  ⟨v.marks.held || decide (v.status = some .held), v.marks.beyond || v.beyond, v.marks.level || v.levelCond⟩

/-- R115: the remainder and what has run over since the last sample, or since the onset at o. -/
def spiltVolume (v : Spill) (interval elapsed : Nat) (o : Stamped) : Nat :=
  v.remainder + v.flow * min interval (elapsed - o.instant)

/-- What a sample leaves of the Spill Monitor, which it finds in `state` and the evaluation makes v, and of the Spill
Counter. -/
structure SpillTaken (state : SpillState) (counter : Counter) (elapsed interval : Nat) (v : Spill) (t : State) : Prop where
  clear : v.state = .clear → t.spill = v
  lapse : state = .onset → v.state = .clear → counter.spill = .onset → t.counter.summary = noSummary ∧
    (counter.event = none → t.counter.event = none ∧ t.counter.totals = counter.totals)
  provisional : ∀ o, v.state ≠ .clear → v.onset = some o → state = .onset ∨ v.state = .onset →
    t.spill = { v with
      remainder := spiltVolume v interval elapsed o % 1000
      provisional := v.provisional + spiltVolume v interval elapsed o / 1000, marks := spellMarks v }
  summary : v.state ≠ .clear → state = .onset ∨ v.state = .onset → counter.spill = state →
    t.counter.summary = (if counter.deferred.isSome
      then { counter.summary with after := max counter.summary.after (peakOf v) }
      else { counter.summary with before := max counter.summary.before (peakOf v) }) ∧
    t.counter.current = counter.current ∧ t.counter.levelSeen = counter.levelSeen ∧
    ∃ alert, t.counter.event = counter.event.map fun ev => { ev with peakAlert := alert }
  confirmed : ∀ o, v.state ≠ .clear → v.onset = some o → state ≠ .onset → v.state ≠ .onset →
    t.spill = { v with
      remainder := spiltVolume v interval elapsed o % 1000
      confirmed := min (2 ^ 32 - 1) (v.confirmed + spiltVolume v interval elapsed o / 1000), marks := spellMarks v }
  event : ∀ o ev b, v.state ≠ .clear → v.onset = some o → state ≠ .onset → v.state ≠ .onset → counter.spill = state →
    counter.event = some ev → counter.current = some b →
    t.counter.levelSeen = (counter.levelSeen || v.levelCond) ∧ t.counter.summary = counter.summary ∧
    t.counter.current = some { b with
      containsSpill := b.containsSpill || decide (v.state ≠ state), peak := max b.peak (peakOf v) } ∧
    ∃ alert, ev.peakAlert.code ≤ alert.code ∧ t.counter.event = some { ev with
      litres := min (2 ^ 32 - 1) (ev.litres + spiltVolume v interval elapsed o / 1000), peakAlert := alert
      flags := { ev.flags with
        sensorHeld := ev.flags.sensorHeld || decide (v.status = some .held)
        headBeyondTable := ev.flags.headBeyondTable || v.beyond } }
  holds : counter.spill = state → t.counter.spill = t.spill.state

theorem counterTakesSample_spill (n : SampleNotice) (s : State) :
    (counterTakesSample n s).spill = s.spill ∧ (counterTakesSample n s).counter.spill = s.counter.spill := by
  obtain ⟨_, _, _, _, _, _, spill, _, _, _, _, held, _⟩ := outsideCounter_fields (counterTakesSample_counter n s)
  exact ⟨spill, held⟩

theorem sampleNotice_peak (n : Nat) (p : Bool) (s : State) : (sampleNotice n p s).peak = peakOf s.spill := by
  unfold SampleNotice.peak sampleNotice peakOf
  dsimp only
  split <;> rfl

/-- Whether a sample is provisional (R116). -/
def isProvisional (arrival after : SpillState) : Bool := arrival == .onset || after == .onset

/-- R115 to R117: a sample in a spell. -/
theorem takeSpillSample_spell {arrival : SpillState} {interval : Nat} {s : State} (spell : s.spill.state ≠ .clear) :
    ∃ litres, (isProvisional arrival s.spill.state = false → litres = wholeLitres interval s) ∧
      takeSpillSample arrival interval s =
        counterTakesSample (sampleNotice litres (isProvisional arrival s.spill.state) s)
          (integrateSample interval (isProvisional arrival s.spill.state) s) := by
  refine ⟨if isProvisional arrival s.spill.state then 0 else wholeLitres interval s, fun confirmed => ?_, ?_⟩
  · rw [confirmed]; rfl
  · unfold takeSpillSample
    dsimp only
    rw [if_neg fun h => spell h.2, if_neg fun h => spell h.2]
    rfl

theorem isHeld_eq (x : Option ChannelStatus) : (x == some .held) = decide (x = some .held) := by
  rcases x with _ | x
  · rfl
  · cases x <;> rfl

theorem integrateSample_spill {interval : Nat} {p : Bool} {s : State} {o : Stamped} (onset : s.spill.onset = some o) :
    (integrateSample interval p s).spill = { s.spill with
      remainder := spiltVolume s.spill interval s.elapsed o % 1000
      provisional := if p then s.spill.provisional + spiltVolume s.spill interval s.elapsed o / 1000 else s.spill.provisional
      confirmed := if p then s.spill.confirmed
        else min (2 ^ 32 - 1) (s.spill.confirmed + spiltVolume s.spill interval s.elapsed o / 1000)
      marks := spellMarks s.spill } := by
  have from_ : onsetOf s = o := by unfold onsetOf; rw [onset]; rfl
  unfold integrateSample sampleSpan
  dsimp only
  rw [from_, isHeld_eq]
  rfl

/-! ### What the evaluation has left of the Counter -/

/-- In ONSET, entered or kept: the Counter holds it too, and otherwise changes at most the peak alert. -/
theorem spillEvaluates_onset {c : Stamped} {s : State} (held : s.counter.spill = s.spill.state)
    (onset : (spillEvaluates c s).spill.state = .onset) :
    (∃ event, (spillEvaluates c s).counter = { s.counter with spill := .onset, event := event }) ∧
    ∃ alert, (spillEvaluates c s).counter.event = s.counter.event.map fun ev => { ev with peakAlert := alert } := by
  rcases spillEvaluates_cases c s with same | ⟨notified, _⟩
  · rw [same] at onset
    rw [onset] at held
    rw [same]
    exact ⟨⟨s.counter.event, by rw [← held]⟩, (AlertNoted.refl s).map⟩
  · have noted := notifySpill_noted { s with spill := (spillEvaluates c s).spill }
    rw [← notified, counterTakesSpillState_onset (s := { s with spill := (spillEvaluates c s).spill }) onset] at noted
    exact ⟨⟨_, noted.counter⟩, noted.map⟩

/-- A spell that is confirmed goes on: its change marks the current block. -/
theorem spillEvaluates_spills {c : Stamped} {s : State} {ev : SpillEvent} {b : Block}
    (held : s.counter.spill = s.spill.state) (open_ : s.counter.event = some ev) (current : s.counter.current = some b)
    (spell : (spillEvaluates c s).spill.state ≠ .clear) (confirmed : (spillEvaluates c s).spill.state ≠ .onset) :
    (∃ event, (spillEvaluates c s).counter = { s.counter with
      spill := (spillEvaluates c s).spill.state, event := event
      current := some { b with
        containsSpill := b.containsSpill || decide ((spillEvaluates c s).spill.state ≠ s.spill.state) } }) ∧
    ∃ alert, ev.peakAlert.code ≤ alert.code ∧
      (spillEvaluates c s).counter.event = some { ev with peakAlert := alert } := by
  rcases spillEvaluates_cases c s with same | ⟨notified, moves⟩
  · rw [same]
    refine ⟨⟨s.counter.event, ?_⟩, ev.peakAlert, le_refl _, open_⟩
    rw [decide_eq_false (not_not.mpr rfl), Bool.or_false, ← held, ← current]
  · have within : (s.spill.state, (spillEvaluates c s).spill.state) ∈
        [(SpillState.spilling, SpillState.subsiding), (.subsiding, .spilling)] := by
      revert moves spell confirmed
      cases s.spill.state <;> cases (spillEvaluates c s).spill.state <;> decide
    have changed : (spillEvaluates c s).spill.state ≠ s.spill.state := by
      revert within
      cases s.spill.state <;> cases (spillEvaluates c s).spill.state <;> decide
    have noted := notifySpill_noted { s with spill := (spillEvaluates c s).spill }
    rw [← notified, counterTakesSpillState_spills (by rw [← held] at within; exact within)] at noted
    refine ⟨⟨(spillEvaluates c s).counter.event, noted.counter.trans ?_⟩, noted.some ev open_⟩
    rw [decide_eq_true changed, Bool.or_true]
    unfold onCurrent
    dsimp only
    rw [current]
    rfl

/-- R112 b, R171: a spell that lapses. -/
theorem spillEvaluates_lapses {c : Stamped} {s : State} (onset : s.spill.state = .onset) (held : s.counter.spill = .onset)
    (lapsed : (spillEvaluates c s).spill.state = .clear) :
    (spillEvaluates c s).counter.spill = .clear ∧ (spillEvaluates c s).counter.summary = noSummary ∧
    (s.counter.event = none → (spillEvaluates c s).counter.event = none ∧
      (spillEvaluates c s).counter.totals = s.counter.totals) := by
  rcases spillEvaluates_cases c s with same | ⟨notified, _⟩
  · rw [same, onset] at lapsed; cases lapsed
  · have noted := notifySpill_noted { s with spill := (spillEvaluates c s).spill }
    have holds := notifySpill_counterSpill { s with spill := (spillEvaluates c s).spill }
    rw [← notified] at noted holds
    rw [counterTakesSpillState_lapse (s := { s with spill := (spillEvaluates c s).spill }) held lapsed] at noted
    obtain ⟨cleared, none⟩ := counterLapses_clears
      { s with spill := (spillEvaluates c s).spill, counter.spill := .clear }
    refine ⟨holds.trans lapsed, ?_, fun absent => ?_⟩
    · rw [noted.counter]; exact cleared
    · obtain ⟨event, totals⟩ := none absent
      refine ⟨noted.none event, ?_⟩
      rw [noted.counter]
      exact totals

/-! ### The sample taken -/

/-- A sample that finds or leaves no spell has come from CLEAR or from ONSET. -/
theorem takeSpillSample_clear {c : Stamped} {s : State} (interval : Nat)
    (clear : (spillEvaluates c s).spill.state = .clear) :
    takeSpillSample s.spill.state interval (spillEvaluates c s) = spillEvaluates c s ∨
    s.spill.state = .onset ∧ takeSpillSample s.spill.state interval (spillEvaluates c s) =
      counterTakesSample (sampleNotice 0 true (spillEvaluates c s)) (spillEvaluates c s) := by
  have from_ : s.spill.state = .clear ∨ s.spill.state = .onset := by
    rcases spillEvaluates_cases c s with same | ⟨_, moves⟩
    · rw [same] at clear; exact .inl clear
    · rw [clear] at moves
      revert moves
      cases s.spill.state <;> decide
  unfold takeSpillSample
  dsimp only
  rw [clear]
  rcases from_ with state | state
  · rw [if_pos ⟨state, rfl⟩]; exact .inl rfl
  · rw [if_neg (by rw [state]; decide), if_pos ⟨state, rfl⟩]
    exact .inr ⟨state, rfl⟩

/-- R171: a provisional notice counts only while the Counter holds ONSET. -/
theorem counterTakesSample_idle {n : SampleNotice} {s : State} (p : n.provisional = true) (h : s.counter.spill ≠ .onset) :
    counterTakesSample n s = s := by
  unfold counterTakesSample; rw [if_pos p, if_neg h]

/-- R171: a provisional notice in ONSET. -/
theorem counterTakesSample_summarised {n : SampleNotice} {s : State} (p : n.provisional = true)
    (h : s.counter.spill = .onset) : (counterTakesSample n s).counter = { s.counter with
      summary := if s.counter.deferred.isSome
        then { s.counter.summary with after := max s.counter.summary.after n.peak }
        else { s.counter.summary with before := max s.counter.summary.before n.peak } } := by
  unfold counterTakesSample
  rw [if_pos p, if_pos h]
  split <;> rfl

/-- R171 b: a confirmed notice within an open event. -/
theorem counterTakesSample_confirmed {n : SampleNotice} {s : State} {ev : SpillEvent} {b : Block} (p : n.provisional = false)
    (open_ : s.counter.event = some ev) (current : s.counter.current = some b) :
    (counterTakesSample n s).counter = { s.counter with
      levelSeen := s.counter.levelSeen || n.level
      current := some { b with peak := max b.peak n.peak }
      event := some { ev with
        litres := min (2 ^ 32 - 1) (ev.litres + n.litres)
        flags := { ev.flags with
          sensorHeld := ev.flags.sensorHeld || n.held, headBeyondTable := ev.flags.headBeyondTable || n.beyond } } } := by
  unfold counterTakesSample
  rw [if_neg (by rw [p]; decide), if_pos (by rw [open_]; rfl)]
  unfold onEvent onCurrent
  dsimp only
  rw [open_, current]
  rfl

/-- What the evaluation of the combined condition and the sample leave together. -/
theorem takeSpillSample_taken (c : Stamped) (interval : Nat) (s : State) :
    SpillTaken s.spill.state s.counter s.elapsed interval (spillEvaluates c s).spill
      (takeSpillSample s.spill.state interval (spillEvaluates c s)) := by
  have elapsed : (spillEvaluates c s).elapsed = s.elapsed :=
    (outsideControl_fields (spillEvaluates_control c s)).1
  have provisional_of : ∀ {a b : SpillState}, a = .onset ∨ b = .onset → isProvisional a b = true := fun {a b} h => by
    rcases h with rfl | rfl
    · rfl
    · exact Bool.or_true _
  have confirmed_of : ∀ {a b : SpillState}, a ≠ .onset → b ≠ .onset → isProvisional a b = false := fun {a b} h k => by
    revert h k; cases a <;> cases b <;> decide
  have kept : (takeSpillSample s.spill.state interval (spillEvaluates c s)).counter.spill =
        (spillEvaluates c s).counter.spill ∧
      (takeSpillSample s.spill.state interval (spillEvaluates c s)).spill.state = (spillEvaluates c s).spill.state := by
    by_cases clear : (spillEvaluates c s).spill.state = .clear
    · rcases takeSpillSample_clear interval clear with same | ⟨_, taken⟩
      · rw [same]; exact ⟨rfl, rfl⟩
      · rw [taken, (counterTakesSample_spill _ _).1, (counterTakesSample_spill _ _).2]; exact ⟨rfl, rfl⟩
    · obtain ⟨_, _, taken⟩ := takeSpillSample_spell (arrival := s.spill.state) (interval := interval) clear
      rw [taken, (counterTakesSample_spill _ _).1, (counterTakesSample_spill _ _).2]
      exact ⟨rfl, rfl⟩
  refine ⟨fun clear => ?_, fun onset lapsed held => ?_, fun o spell onset which => ?_, fun spell which held => ?_,
    fun o spell onset arrival after => ?_, fun o ev b spell onset arrival after held open_ current => ?_, fun held => ?_⟩
  · rcases takeSpillSample_clear interval clear with same | ⟨_, taken⟩
    · rw [same]
    · rw [taken]; exact (counterTakesSample_spill _ _).1
  · obtain ⟨holds, summary, none⟩ := spillEvaluates_lapses onset held lapsed
    have idle : takeSpillSample s.spill.state interval (spillEvaluates c s) = spillEvaluates c s := by
      rcases takeSpillSample_clear interval lapsed with same | ⟨_, taken⟩
      · exact same
      · rw [taken]; exact counterTakesSample_idle rfl (by rw [holds]; decide)
    rw [idle]
    exact ⟨summary, none⟩
  · obtain ⟨_, _, taken⟩ := takeSpillSample_spell (arrival := s.spill.state) (interval := interval) spell
    rw [taken, (counterTakesSample_spill _ _).1, integrateSample_spill onset, provisional_of which, elapsed]
    rfl
  · obtain ⟨_, _, taken⟩ := takeSpillSample_spell (arrival := s.spill.state) (interval := interval) spell
    have after : (spillEvaluates c s).spill.state = .onset := by
      rcases which with arrival | after
      · rcases spillEvaluates_cases c s with same | ⟨_, moves⟩
        · rw [same]; exact arrival
        · rw [arrival] at moves
          revert moves spell
          cases (spillEvaluates c s).spill.state <;> decide
      · exact after
    obtain ⟨⟨event, counter⟩, alert⟩ := spillEvaluates_onset held after
    rw [counter] at alert
    have told : (integrateSample interval (isProvisional s.spill.state (spillEvaluates c s).spill.state)
        (spillEvaluates c s)).counter = { s.counter with spill := .onset, event := event } := counter
    rw [taken, counterTakesSample_summarised (provisional_of which) (by rw [told]), told, sampleNotice_peak]
    exact ⟨rfl, rfl, rfl, alert⟩
  · obtain ⟨_, _, taken⟩ := takeSpillSample_spell (arrival := s.spill.state) (interval := interval) spell
    rw [taken, (counterTakesSample_spill _ _).1, integrateSample_spill onset, confirmed_of arrival after, elapsed]
    rfl
  · obtain ⟨litres, whole, taken⟩ := takeSpillSample_spell (arrival := s.spill.state) (interval := interval) spell
    obtain ⟨⟨event, counter⟩, alert, rises, opened⟩ := spillEvaluates_spills held open_ current spell after
    rw [counter] at opened
    have told : (integrateSample interval (isProvisional s.spill.state (spillEvaluates c s).spill.state)
        (spillEvaluates c s)).counter = _ := counter
    have spilt : litres = spiltVolume (spillEvaluates c s).spill interval s.elapsed o / 1000 := by
      rw [whole (confirmed_of arrival after)]
      unfold wholeLitres sampleSpan onsetOf spiltVolume
      rw [onset, elapsed]
      rfl
    rw [taken, counterTakesSample_confirmed (confirmed_of arrival after) (by rw [told]; exact opened) (by rw [told]), told,
      sampleNotice_peak, spilt]
    refine ⟨rfl, rfl, rfl, alert, rises, ?_⟩
    unfold sampleNotice
    rw [isHeld_eq]
  · rw [kept.1, kept.2]
    rcases spillEvaluates_counterSpill c s with same | notified
    · rw [same]; exact held
    · exact notified

end Sys2Proof.Machine
end

section
/-! SUPPORT. A sample (O39): its two events reach the tank and the Spill Monitor, and neither sees the other (`tankView`,
`overflowView`), so that both orders leave the same of each. -/

namespace Sys2Proof.Machine

/-! ### The gauges -/

/-- A channel after a sample. -/
def sampledGauge (c : GaugeCounts) (g : Gauge) (s : State) : GaugeChannel :=
  converted (s.cfg.datum.get g) (s.cfg.span.get g) s.elapsed (countOf c g) (s.input.gauges.get g)

/-- R68: an out-of-band count that makes the run 3. -/
def runsOut (c : GaugeCounts) (g : Gauge) (s : State) : Prop :=
  ¬ (600 ≤ (countOf c g).toNat ∧ (countOf c g).toNat ≤ 3800) ∧ (s.input.gauges.get g).run = 2

theorem sampledGauge_run (c : GaugeCounts) (g : Gauge) (s : State) : (sampledGauge c g s).run = 3 ↔ runsOut c g s := by
  unfold sampledGauge converted runsOut
  split
  · next band => exact ⟨fun h => absurd (show 0 = 3 from h) (by decide), fun h => absurd band h.1⟩
  · next band =>
    have three : min 255 ((s.input.gauges.get g).run + 1) = 3 ↔ (s.input.gauges.get g).run = 2 := by omega
    exact three.trans ⟨fun h => ⟨band, h⟩, And.right⟩

/-- One channel's conversion: the channel, and SENSOR_FAULT where its run reaches 3. -/
theorem convertGauge_eq (c : GaugeCounts) (g : Gauge) (s : State) : convertGauge g (countOf c g) s =
    (if (sampledGauge c g s).run = 3 then raise .sensorFault { s with
      input.gauges := s.input.gauges.set g (sampledGauge c g s) }
    else { s with input.gauges := s.input.gauges.set g (sampledGauge c g s) }) := by
  unfold convertGauge
  dsimp only
  rw [convertChannel_eq]
  rfl

/-- Beyond the channel and the flags, a conversion changes nothing. -/
theorem convertGauge_sets (c : GaugeCounts) (g : Gauge) (s : State) : ∃ p : Port, p.committed = s.port.committed ∧
    convertGauge g (countOf c g) s = { s with
      input.gauges := s.input.gauges.set g (sampledGauge c g s), port := p } := by
  rw [convertGauge_eq]
  split
  · exact ⟨(raise .sensorFault s).port, rfl, rfl⟩
  · exact ⟨s.port, rfl, rfl⟩

theorem gauges_of_tank {s t : State} (h : outsideTank t = outsideTank s) : t.input.gauges = s.input.gauges :=
  congrArg (fun u => u.input.gauges) h

theorem port_of_tank {s t : State} (h : outsideTank t = outsideTank s) : t.port = s.port :=
  (congrArg State.port h : (outsideTank t).port = (outsideTank s).port)

theorem convertGauge_flag (c : GaugeCounts) (g : Gauge) (s : State) :
    (convertGauge g (countOf c g) s).port.flags.getLsbD 12 = true ↔ s.port.flags.getLsbD 12 = true ∨ runsOut c g s := by
  rw [convertGauge_eq, ← sampledGauge_run]
  split
  · next out => exact ⟨fun _ => .inr out, fun _ => raise_flag_self .sensorFault _⟩
  · next out => exact ⟨.inl, fun h => h.resolve_right out⟩

/-! ### What a sample leaves -/

/-- What neither event changes. -/
def sampleFrame (s : State) : State := { State.reset with
  elapsed := s.elapsed, peers := s.peers, time := s.time
  input := { InputUnit.reset with digital := s.input.digital, nextSample := s.input.nextSample }
  rain := { Rain.reset with bins := s.rain.bins, total := s.rain.total }
  counter := { Counter.reset with log := { SpillLog.reset with readPos := s.counter.log.readPos } }
  port := { Port.reset with committed := s.port.committed } }

/-- What of the tank's event reads and sets, beside the claims. -/
def tankView (s : State) : State := { State.reset with
  elapsed := s.elapsed
  input := { InputUnit.reset with gauges := { s.input.gauges with overflow := .reset } }
  tank := { Tank.reset with volume := s.tank.volume, fill := s.tank.fill, assumedFull := s.tank.assumedFull }
  port := { Port.reset with committed := s.port.committed } }

/-- What of the Spill Monitor's event reads and sets. -/
def overflowView (s : State) : State := { State.reset with
  elapsed := s.elapsed, time := s.time
  input := { InputUnit.reset with gauges := { InputUnit.reset.gauges with overflow := s.input.gauges.overflow } }
  spill := s.spill, counter := s.counter
  port := { Port.reset with committed := s.port.committed } }

/-! ### The tank's event -/

/-- R67, R68, R82: the two channels of the tank, and what follows the TANK channel. -/
structure TankSampled (c : GaugeCounts) (s t : State) : Prop where
  sewer : t.input.gauges.sewer = sampledGauge c .sewer s
  tank : t.input.gauges.tank = sampledGauge c .tank s
  usable : t.input.gauges.tank.status ≠ .failed → t.tank.volume = interpolate s.cfg.stage t.input.gauges.tank.level ∧
    t.tank.fill = t.tank.volume * 1000 / lastY s.cfg.stage ∧ t.tank.assumedFull = false
  failed : t.input.gauges.tank.status = .failed →
    t.tank.volume = s.tank.volume ∧ t.tank.fill = s.tank.fill ∧ t.tank.assumedFull = s.tank.assumedFull

theorem TankSampled.of_views {c : GaugeCounts} {s t s' t' : State} (h : TankSampled c s t) (hs : tankView s' = tankView s)
    (ht : tankView t' = tankView t) : TankSampled c s' t' := by
  have e : ∀ x y, TankSampled c x y ↔ TankSampled c (tankView x) (tankView y) := fun _ _ =>
    ⟨fun ⟨a, b, k, l⟩ => ⟨a, b, k, l⟩, fun ⟨a, b, k, l⟩ => ⟨a, b, k, l⟩⟩
  rw [e, hs, ht, ← e]
  exact h

/-- The two channels converted. -/
def tankConverted (c : GaugeCounts) (s : State) : State := convertGauge .tank c.tank (convertGauge .sewer c.sewer s)

theorem tankConverted_sets (c : GaugeCounts) (s : State) : ∃ p : Port, p.committed = s.port.committed ∧
    tankConverted c s = { s with
      input.gauges := { s.input.gauges with sewer := sampledGauge c .sewer s, tank := sampledGauge c .tank s }
      port := p } := by
  obtain ⟨p, committed, sewer⟩ := convertGauge_sets c .sewer s
  obtain ⟨q, committed', tank⟩ := convertGauge_sets c .tank { s with
    input.gauges := s.input.gauges.set .sewer (sampledGauge c .sewer s), port := p }
  have same : sampledGauge c .tank { s with
      input.gauges := s.input.gauges.set .sewer (sampledGauge c .sewer s), port := p } = sampledGauge c .tank s := by
    unfold sampledGauge State.cfg; rw [← committed]; rfl
  rw [same] at tank
  exact ⟨q, committed'.trans committed, (congrArg (convertGauge .tank (countOf c .tank)) sewer).trans tank⟩

theorem sampleTank_outside (c : GaugeCounts) (s : State) :
    outsideTank (sampleTank c s) = outsideTank (tankConverted c s) := by
  unfold sampleTank tankConverted
  exact tankTakesSample_tank _ _

theorem tankTakesSample_measured (f : Bool) (s : State) : measured (tankTakesSample f s) = measured (measureVolume s) := by
  unfold tankTakesSample; dsimp only; split
  · rw [inEitherOrder_measured drainTakesNotice_measured (tankEvaluate_measured true), updateRelease_measured]
  · rw [tankEvaluate_measured, updateRelease_measured]

theorem measured_tank {s t : State} (h : measured t = measured s) :
    t.tank.volume = s.tank.volume ∧ t.tank.fill = s.tank.fill ∧ t.tank.assumedFull = s.tank.assumedFull :=
  ⟨congrArg (fun u => u.tank.volume) h, congrArg (fun u => u.tank.fill) h, congrArg (fun u => u.tank.assumedFull) h⟩

theorem sampleTank_sampled (c : GaugeCounts) (s : State) : TankSampled c s (sampleTank c s) := by
  obtain ⟨p, committed, sets⟩ := tankConverted_sets c s
  have cfg : (tankConverted c s).cfg = s.cfg := by rw [sets]; exact committed
  have gauges : (sampleTank c s).input.gauges = (tankConverted c s).input.gauges :=
    gauges_of_tank (sampleTank_outside c s)
  have measure : measured (sampleTank c s) = measured (measureVolume (tankConverted c s)) := by
    unfold sampleTank tankConverted
    exact tankTakesSample_measured _ _
  obtain ⟨volume, fill, full⟩ := measured_tank measure
  refine ⟨by rw [gauges, sets], by rw [gauges, sets], fun usable => ?_, fun failed => ?_⟩
  · rw [gauges] at usable
    have measures : (tankConverted c s).tankGauge.usable = true := usable_iff.mpr usable
    unfold measureVolume at volume fill full
    rw [if_pos measures] at volume fill full
    rw [volume, fill, full, ← cfg, gauges]
    exact ⟨rfl, rfl, rfl⟩
  · rw [gauges] at failed
    have still : ¬ (tankConverted c s).tankGauge.usable = true := fun h => usable_iff.mp h failed
    unfold measureVolume at volume fill full
    rw [if_neg still] at volume fill full
    rw [volume, fill, full, sets]
    exact ⟨rfl, rfl, rfl⟩

theorem sampleTank_frame (c : GaugeCounts) (s : State) : sampleFrame (sampleTank c s) = sampleFrame s := by
  have e : ∀ x, sampleFrame x = sampleFrame (outsideTank x) := fun _ => rfl
  have converts : ∀ (g : Gauge) (r : BitVec 12) (u : State), sampleFrame (convertGauge g r u) = sampleFrame u :=
    fun g r u => by unfold convertGauge; dsimp only; split <;> rfl
  unfold sampleTank
  rw [e, tankTakesSample_tank, ← e, converts, converts]

theorem sampleTank_overflow (c : GaugeCounts) (s : State) : overflowView (sampleTank c s) = overflowView s := by
  have e : ∀ x, overflowView x = overflowView (outsideTank x) := fun _ => rfl
  have sewer : ∀ (r : BitVec 12) (u : State), overflowView (convertGauge .sewer r u) = overflowView u :=
    fun r u => by unfold convertGauge; dsimp only; split <;> rfl
  have tank : ∀ (r : BitVec 12) (u : State), overflowView (convertGauge .tank r u) = overflowView u :=
    fun r u => by unfold convertGauge; dsimp only; split <;> rfl
  unfold sampleTank
  rw [e, tankTakesSample_tank, ← e, tank, sewer]

theorem sampleTank_flag (c : GaugeCounts) (s : State) : (sampleTank c s).port.flags.getLsbD 12 = true ↔
    s.port.flags.getLsbD 12 = true ∨ runsOut c .sewer s ∨ runsOut c .tank s := by
  have port : (sampleTank c s).port = (tankConverted c s).port :=
    port_of_tank (sampleTank_outside c s)
  have second : runsOut c .tank (convertGauge .sewer (countOf c .sewer) s) ↔ runsOut c .tank s := by
    unfold runsOut; rw [convertGauge_input]; rfl
  have converts : (tankConverted c s).port.flags.getLsbD 12 = true ↔ _ :=
    convertGauge_flag c .tank (convertGauge .sewer (countOf c .sewer) s)
  rw [port, converts, convertGauge_flag, second, or_assoc]

/-! ### The Spill Monitor's event -/

/-- What of the Spill Monitor the head measures. -/
def headPart (p : Spill) : Spill := { Spill.reset with
  head := p.head, status := p.status, flow := p.flow, beyond := p.beyond, levelCond := p.levelCond
  levelInstant := p.levelInstant, floatCond := p.floatCond }

/-- R108, R114: the Spill Monitor with the head measured. -/
def headSampled (c : GaugeCounts) (s : State) : Spill :=
  (measureHead false { s with input.gauges := s.input.gauges.set .overflow (sampledGauge c .overflow s) }).spill

/-- R110 to R113: and its state evaluated. -/
def spillSampled (c : GaugeCounts) (s : State) : Spill :=
  spillAfter s ((headSampled c s).levelCond || s.spill.floatCond) s.now (headSampled c s)

/-- What the Spill Monitor's event leaves. -/
structure OverflowSampled (c : GaugeCounts) (s t : State) : Prop where
  gauge : t.input.gauges.overflow = sampledGauge c .overflow s
  head : headPart t.spill = headPart (headSampled c s)
  taken : SpillTaken s.spill.state s.counter s.elapsed (sampleInterval .overflow s) (spillSampled c s) t

theorem SpillTaken.of_same {state : SpillState} {counter : Counter} {elapsed interval : Nat} {v : Spill} {t t' : State}
    (h : SpillTaken state counter elapsed interval v t) (spill : t'.spill = t.spill) (same : t'.counter = t.counter) :
    SpillTaken state counter elapsed interval v t' := by
  obtain ⟨a, b, d, e, f, g, k⟩ := h
  rw [← spill] at a d f k
  rw [← same] at b e g k
  exact ⟨a, b, d, e, f, g, k⟩

theorem OverflowSampled.of_views {c : GaugeCounts} {s t s' t' : State} (h : OverflowSampled c s t)
    (hs : overflowView s' = overflowView s) (ht : overflowView t' = overflowView t) : OverflowSampled c s' t' := by
  have e : ∀ x y, OverflowSampled c x y ↔ OverflowSampled c (overflowView x) (overflowView y) := fun _ _ =>
    ⟨fun ⟨a, b, k⟩ => ⟨a, b, k.of_same rfl rfl⟩, fun ⟨a, b, k⟩ => ⟨a, b, k.of_same rfl rfl⟩⟩
  rw [e, hs, ht, ← e]
  exact h

/-- The channel converted and the head measured. -/
def overflowMeasured (c : GaugeCounts) (s : State) : State := measureHead false (convertGauge .overflow c.overflow s)

theorem overflowMeasured_sets (c : GaugeCounts) (s : State) : ∃ p : Port, p.committed = s.port.committed ∧
    overflowMeasured c s = { s with
      input.gauges := { s.input.gauges with overflow := sampledGauge c .overflow s }
      spill := headSampled c s, port := p } := by
  obtain ⟨p, committed, overflow⟩ := convertGauge_sets c .overflow s
  refine ⟨p, committed, (congrArg (measureHead false) overflow).trans ?_⟩
  unfold headSampled measureHead State.cfg
  rw [← committed]
  rfl

theorem sampleOverflow_eq (c : GaugeCounts) (s : State) : sampleOverflow c s =
    takeSpillSample (overflowMeasured c s).spill.state (sampleInterval .overflow s)
      (spillEvaluates s.now (overflowMeasured c s)) := by
  have now : (convertGauge .overflow c.overflow s).now = s.now := by unfold convertGauge; dsimp only; split <;> rfl
  have state : (convertGauge .overflow c.overflow s).spill.state = (overflowMeasured c s).spill.state := rfl
  unfold sampleOverflow spillTakesSample
  rw [now, state]
  rfl

theorem takeSpillSample_head (a : SpillState) (n : Nat) (s : State) :
    headPart (takeSpillSample a n s).spill = headPart s.spill := by
  have counted : ∀ (x : SampleNotice) (u : State), (counterTakesSample x u).spill = u.spill :=
    fun x u => (counterTakesSample_spill x u).1
  have integrated : ∀ p, headPart (integrateSample n p s).spill = headPart s.spill := fun _ => rfl
  unfold takeSpillSample; dsimp only; split_ifs
  · rfl
  · rw [counted]
  all_goals rw [counted, integrated]

theorem spillAfter_head (s : State) (c : Bool) (change : Stamped) (p : Spill) :
    headPart (spillAfter s c change p) = headPart p := by
  unfold spillAfter; split <;> rfl

/-- What the event leaves alone beyond the Spill Monitor and `outsideControl`. -/
def outsideSpill (s : State) : State := outsideControl { s with spill := .reset }

theorem spillEvaluates_outside (c : Stamped) (s : State) : outsideSpill (spillEvaluates c s) = outsideSpill s :=
  congrArg (fun u => { u with spill := Spill.reset }) (spillEvaluates_control c s)

theorem takeSpillSample_outside (a : SpillState) (n : Nat) (s : State) :
    outsideSpill (takeSpillSample a n s) = outsideSpill s := by
  have counted : ∀ (x : SampleNotice) (u : State), outsideSpill (counterTakesSample x u) = outsideSpill u := fun x u => by
    unfold counterTakesSample; split_ifs <;> rfl
  have integrated : ∀ p, outsideSpill (integrateSample n p s) = outsideSpill s := fun _ => rfl
  unfold takeSpillSample; dsimp only; split_ifs
  · rfl
  · exact counted _ s
  all_goals rw [counted, integrated]

theorem sampleOverflow_outside (c : GaugeCounts) (s : State) :
    outsideSpill (sampleOverflow c s) = outsideSpill (overflowMeasured c s) := by
  rw [sampleOverflow_eq, takeSpillSample_outside, spillEvaluates_outside]

theorem sampleOverflow_measured (c : GaugeCounts) (s : State) : measured (sampleOverflow c s) = measured s := by
  have head : measured (overflowMeasured c s) = measured s := convertGauge_measured .overflow c.overflow s
  rw [sampleOverflow_eq, takeSpillSample_measured, spillEvaluates_measured, head]

theorem sampleOverflow_sampled (c : GaugeCounts) (s : State) : OverflowSampled c s (sampleOverflow c s) := by
  obtain ⟨p, committed, sets⟩ := overflowMeasured_sets c s
  have cfg : (overflowMeasured c s).cfg = s.cfg := by rw [sets]; exact committed
  have evaluated : (spillEvaluates s.now (overflowMeasured c s)).spill = spillSampled c s := by
    rw [spillEvaluates_spill, spillAfter_congr cfg]
    unfold combined
    rw [sets]
    rfl
  have gauges : (sampleOverflow c s).input.gauges = (overflowMeasured c s).input.gauges :=
    congrArg (fun u => u.input.gauges) (sampleOverflow_outside c s)
  refine ⟨by rw [gauges, sets], ?_, ?_⟩
  · rw [sampleOverflow_eq, takeSpillSample_head, evaluated]
    exact spillAfter_head ..
  · have taken := takeSpillSample_taken s.now (sampleInterval .overflow s) (overflowMeasured c s)
    rw [← sampleOverflow_eq, evaluated] at taken
    rw [sets] at taken
    exact taken

theorem sampleOverflow_tank (c : GaugeCounts) (s : State) : tankView (sampleOverflow c s) = tankView s := by
  have e : ∀ x, tankView x = { tankView (outsideSpill x) with tank := (measured x).tank } := fun _ => rfl
  obtain ⟨p, committed, sets⟩ := overflowMeasured_sets c s
  have head : tankView (overflowMeasured c s) = tankView s := by
    unfold tankView
    rw [sets, ← committed]
  have tank : (measured (overflowMeasured c s)).tank = (measured s).tank :=
    (congrArg State.tank head : (tankView (overflowMeasured c s)).tank = (tankView s).tank)
  rw [e, sampleOverflow_outside, sampleOverflow_measured, ← tank, ← e, head]

theorem sampleOverflow_frame (c : GaugeCounts) (s : State) : sampleFrame (sampleOverflow c s) = sampleFrame s := by
  have e : ∀ x, sampleFrame x = { sampleFrame (outsideSpill x) with
      rain := (measured x).rain, counter := (measured x).counter } := fun _ => rfl
  have head : outsideSpill (overflowMeasured c s) = outsideSpill { s with
      input.gauges := { s.input.gauges with overflow := sampledGauge c .overflow s } } := by
    unfold overflowMeasured
    rw [show c.overflow = countOf c .overflow from rfl, convertGauge_eq]
    split <;> rfl
  rw [e, sampleOverflow_outside, sampleOverflow_measured, head]
  rfl

theorem sampleOverflow_flag (c : GaugeCounts) (s : State) : (sampleOverflow c s).port.flags.getLsbD 12 = true ↔
    s.port.flags.getLsbD 12 = true ∨ runsOut c .overflow s := by
  have kept := (spillEvaluates_keeps s.now (overflowMeasured c s)).trans
    (takeSpillSample_keeps (overflowMeasured c s).spill.state (sampleInterval .overflow s) _)
  rw [← sampleOverflow_eq] at kept
  have head : (overflowMeasured c s).port.flags.getLsbD 12 = true ↔ _ := convertGauge_flag c .overflow s
  rw [kept.flag, head]

/-! ### The claim -/

/-- The claim has been formed, or nothing that it is formed from has changed. -/
def Tracks (s t : State) : Prop := Formed t ∨
  (Formed s → Formed t) ∧ t.tank.fill = s.tank.fill ∧ t.tankGauge.usable = s.tankGauge.usable ∧
    t.tank.state = s.tank.state ∧ t.spill.state = s.spill.state

theorem Tracks.trans {s t u : State} (h : Tracks s t) (k : Tracks t u) : Tracks s u := by
  rcases k with formed | ⟨keeps, fill, usable, state, spill⟩
  · exact .inl formed
  · rcases h with formed | ⟨keeps', fill', usable', state', spill'⟩
    · exact .inl (keeps formed)
    · exact .inr ⟨keeps ∘ keeps', fill.trans fill', usable.trans usable', state.trans state', spill.trans spill'⟩

/-- R82, R83, R139: a changed fill, or TANK to or from FAILED, is told to the Drain Controller. -/
theorem sampleTank_tracks (c : GaugeCounts) (s : State) : Claims s (sampleTank c s) ∧ Tracks s (sampleTank c s) := by
  obtain ⟨p, committed, sets⟩ := tankConverted_sets c s
  have cfg : (tankConverted c s).cfg = s.cfg := by rw [sets]; exact committed
  obtain ⟨u, hu⟩ : ∃ u, u = updateRelease (measureVolume (tankConverted c s)) := ⟨_, rfl⟩
  have outside : outsideTank u = outsideTank (tankConverted c s) := by rw [hu, updateRelease_tank, measureVolume_tank]
  have same : ∀ {α : Type} (f : State → α), f (outsideTank u) = f (outsideTank (tankConverted c s)) :=
    fun f => congrArg f outside
  have drain : u.drain = s.drain := by
    rw [hu, (updateRelease_leaves _).1]
    unfold measureVolume
    split <;> (rw [sets])
  have trunk : u.trunk = s.trunk := by
    rw [hu, updateRelease_trunk]
    unfold measureVolume
    split <;> (rw [sets])
  have state : u.tank.state = s.tank.state := by
    rw [hu, (updateRelease_leaves _).2]
    unfold measureVolume
    split <;> (rw [sets])
  have found : Claims s u := .of_same ((same State.cfg).trans cfg) (by rw [drain]) (by rw [trunk])
  have taken : sampleTank c s = tankTakesSample (!s.tankGauge.usable) (tankConverted c s) := rfl
  have told : Formed (inEitherOrder drainTakesNotice (tankEvaluate true) u) := by
    rcases inEitherOrder_cases drainTakesNotice (tankEvaluate true) u with h | h
    · rw [h]; exact (tankEvaluate_reclaims true _).formed (drainTakesNotice_formed _)
    · rw [h]; exact drainTakesNotice_formed _
  unfold tankTakesSample at taken
  dsimp only at taken
  rw [← hu] at taken
  by_cases changed : u.tank.fill ≠ (tankConverted c s).tank.fill ∨ (!s.tankGauge.usable) = u.tankGauge.usable
  · rw [if_pos changed] at taken
    rw [taken]
    exact ⟨found.trans (inEitherOrder_reclaims drainTakesNotice_reclaims (tankEvaluate_reclaims true) u).claims, .inl told⟩
  · rw [if_neg changed] at taken
    rw [taken]
    refine ⟨found.trans (tankEvaluate_reclaims true u).claims, ?_⟩
    rcases tankCascade_formed 6 true false u with still | formed
    · rw [not_or, not_not] at changed
      have fill : u.tank.fill = s.tank.fill := changed.1.trans (by rw [sets])
      have usable : u.tankGauge.usable = s.tankGauge.usable := by
        revert changed; cases s.tankGauge.usable <;> cases u.tankGauge.usable <;> simp
      have running : u.asserted .pumpRunning = s.asserted .pumpRunning :=
        (same fun x => x.asserted .pumpRunning).trans (by unfold outsideTank outsideDrain; rw [sets]; rfl)
      have spill : u.spill.state = s.spill.state := (same fun x => x.spill.state).trans (by
        unfold outsideTank outsideDrain; rw [sets])
      unfold tankEvaluate
      rw [still]
      exact .inr ⟨fun formed => formed.of_same ⟨usable, running, spill, found.cfg⟩ (by rw [drain]) state fill, fill, usable,
        state, spill⟩
    · exact .inl formed

/-- Nothing that the claim is formed from, nor its slot, has changed. -/
structure ClaimUntouched (s t : State) : Prop where
  field : SameField s t
  drain : t.drain = s.drain
  tank : t.tank = s.tank
  trunk : t.trunk = s.trunk

theorem ClaimUntouched.refl (s : State) : ClaimUntouched s s := ⟨⟨rfl, rfl, rfl, rfl⟩, rfl, rfl, rfl⟩

theorem ClaimUntouched.trans {s t u : State} (h : ClaimUntouched s t) (k : ClaimUntouched t u) : ClaimUntouched s u :=
  ⟨⟨k.field.usable.trans h.field.usable, k.field.running.trans h.field.running, k.field.spill.trans h.field.spill,
    k.field.cfg.trans h.field.cfg⟩, k.drain.trans h.drain, k.tank.trans h.tank, k.trunk.trans h.trunk⟩

theorem ClaimUntouched.reclaims {s t : State} (h : ClaimUntouched s t) : Reclaims s t :=
  .of_same h.field (by rw [h.drain]) (by rw [h.tank]) (by rw [h.tank]) (by rw [h.trunk])

theorem ClaimUntouched.tracks {s t : State} (h : ClaimUntouched s t) : Tracks s t :=
  .inr ⟨h.reclaims.formed, by rw [h.tank], h.field.usable, by rw [h.tank], h.field.spill⟩

theorem counterTakesSample_untouched (n : SampleNotice) (s : State) : ClaimUntouched s (counterTakesSample n s) := by
  obtain ⟨_, trunk, _, _, input, tank, spill, _, drain, _, cfg, _⟩ := outsideCounter_fields (counterTakesSample_counter n s)
  exact ⟨⟨by unfold State.tankGauge; rw [input], by unfold State.asserted; rw [input], by rw [spill], cfg⟩, drain, tank, trunk⟩

theorem takeSpillSample_untouched (a : SpillState) (n : Nat) (s : State) : ClaimUntouched s (takeSpillSample a n s) := by
  have integrated : ∀ p, ClaimUntouched s (integrateSample n p s) := fun _ => ⟨⟨rfl, rfl, rfl, rfl⟩, rfl, rfl, rfl⟩
  unfold takeSpillSample; dsimp only; split_ifs
  · exact .refl s
  · exact counterTakesSample_untouched _ s
  all_goals exact (integrated _).trans (counterTakesSample_untouched _ _)

theorem overflowMeasured_untouched (c : GaugeCounts) (s : State) : ClaimUntouched s (overflowMeasured c s) := by
  obtain ⟨p, committed, sets⟩ := overflowMeasured_sets c s
  have cfg : (overflowMeasured c s).cfg = s.cfg := by rw [sets]; exact committed
  refine ⟨⟨?_, ?_, ?_, cfg⟩, ?_, ?_, ?_⟩ <;> rw [sets] <;> rfl

/-- R114a, R139: a changed spill state is told to the Drain Controller. -/
theorem sampleOverflow_tracks (c : GaugeCounts) (s : State) :
    Claims s (sampleOverflow c s) ∧ Tracks s (sampleOverflow c s) := by
  have head := overflowMeasured_untouched c s
  have evaluates : Tracks (overflowMeasured c s) (spillEvaluates s.now (overflowMeasured c s)) := by
    rcases spillEvaluates_formed s.now (overflowMeasured c s) with same | formed
    · rw [same]; exact (ClaimUntouched.refl _).tracks
    · exact .inl formed
  have sampled := takeSpillSample_untouched (overflowMeasured c s).spill.state (sampleInterval .overflow s)
    (spillEvaluates s.now (overflowMeasured c s))
  rw [sampleOverflow_eq]
  exact ⟨(head.reclaims.claims.trans (spillEvaluates_claims _ _)).trans sampled.reclaims.claims,
    (head.tracks.trans evaluates).trans sampled.tracks⟩

end Sys2Proof.Machine
end

section
/-! SUPPORT. A whole sample, its two events in either order (O39). -/

namespace Sys2Proof.Machine

/-! ### Both events -/

/-- What a sample leaves. -/
structure Sampled (c : GaugeCounts) (s t : State) : Prop where
  frame : sampleFrame t = sampleFrame s
  tank : TankSampled c s t
  overflow : OverflowSampled c s t
  flag : t.port.flags.getLsbD 12 = true ↔ s.port.flags.getLsbD 12 = true ∨ ∃ g : Gauge, runsOut c g s
  claims : Claims s t
  tracks : Tracks s t

theorem runsOut_any {c : GaugeCounts} {s : State} :
    (∃ g : Gauge, runsOut c g s) ↔ runsOut c .sewer s ∨ runsOut c .tank s ∨ runsOut c .overflow s := by
  refine ⟨fun ⟨g, out⟩ => ?_, fun out => ?_⟩
  · cases g with
    | sewer => exact .inl out
    | tank => exact .inr (.inl out)
    | overflow => exact .inr (.inr out)
  · rcases out with out | out | out <;> exact ⟨_, out⟩

theorem runsOut_of_overflowView {c : GaugeCounts} {s t : State} (h : overflowView t = overflowView s) :
    runsOut c .overflow t ↔ runsOut c .overflow s := by
  have gauge : t.input.gauges.get .overflow = s.input.gauges.get .overflow := congrArg (fun u => u.input.gauges.overflow) h
  unfold runsOut; rw [gauge]

theorem runsOut_of_tankView {c : GaugeCounts} {s t : State} (h : tankView t = tankView s) :
    (runsOut c .sewer t ↔ runsOut c .sewer s) ∧ (runsOut c .tank t ↔ runsOut c .tank s) := by
  have sewer : t.input.gauges.get .sewer = s.input.gauges.get .sewer := congrArg (fun u => u.input.gauges.sewer) h
  have tank : t.input.gauges.get .tank = s.input.gauges.get .tank := congrArg (fun u => u.input.gauges.tank) h
  unfold runsOut; rw [sewer, tank]; exact ⟨Iff.rfl, Iff.rfl⟩

/-- What the tank's event leaves. -/
structure TankEvent (c : GaugeCounts) (s t : State) : Prop where
  frame : sampleFrame t = sampleFrame s
  tank : TankSampled c s t
  overflow : overflowView t = overflowView s
  flag : t.port.flags.getLsbD 12 = true ↔ s.port.flags.getLsbD 12 = true ∨ runsOut c .sewer s ∨ runsOut c .tank s
  claims : Claims s t
  tracks : Tracks s t

theorem sampleTank_event (c : GaugeCounts) (s : State) : TankEvent c s (sampleTank c s) :=
  ⟨sampleTank_frame c s, sampleTank_sampled c s, sampleTank_overflow c s, sampleTank_flag c s, (sampleTank_tracks c s).1,
    (sampleTank_tracks c s).2⟩

/-- What the Spill Monitor's event leaves. -/
structure OverflowEvent (c : GaugeCounts) (s t : State) : Prop where
  frame : sampleFrame t = sampleFrame s
  tank : tankView t = tankView s
  overflow : OverflowSampled c s t
  flag : t.port.flags.getLsbD 12 = true ↔ s.port.flags.getLsbD 12 = true ∨ runsOut c .overflow s
  claims : Claims s t
  tracks : Tracks s t

theorem sampleOverflow_event (c : GaugeCounts) (s : State) : OverflowEvent c s (sampleOverflow c s) :=
  ⟨sampleOverflow_frame c s, sampleOverflow_tank c s, sampleOverflow_sampled c s, sampleOverflow_flag c s,
    (sampleOverflow_tracks c s).1, (sampleOverflow_tracks c s).2⟩

theorem TankEvent.overflows {c : GaugeCounts} {s t u : State} (h : TankEvent c s t) (k : OverflowEvent c t u) :
    Sampled c s u := by
  refine ⟨k.frame.trans h.frame, h.tank.of_views rfl k.tank, k.overflow.of_views h.overflow.symm rfl, ?_,
    h.claims.trans k.claims, h.tracks.trans k.tracks⟩
  rw [k.flag, h.flag, runsOut_of_overflowView h.overflow, runsOut_any, or_assoc, or_assoc]

theorem OverflowEvent.tanks {c : GaugeCounts} {s t u : State} (h : OverflowEvent c s t) (k : TankEvent c t u) :
    Sampled c s u := by
  obtain ⟨sewer, tank⟩ := runsOut_of_tankView (c := c) h.tank
  refine ⟨k.frame.trans h.frame, k.tank.of_views h.tank.symm rfl, h.overflow.of_views rfl k.overflow, ?_,
    h.claims.trans k.claims, h.tracks.trans k.tracks⟩
  rw [k.flag, h.flag, sewer, tank, runsOut_any]
  tauto

/-- A fresh choice of the order does not show. -/
theorem Sampled.of_orders {c : GaugeCounts} {s t : State} {n : Nat} (h : Sampled c { s with free.orders := n } t) :
    Sampled c s t :=
  have found : Tracks s { s with free.orders := n } := .inr ⟨id, rfl, rfl, rfl, rfl⟩
  have claims : Claims s { s with free.orders := n } := .of_same rfl rfl rfl
  ⟨h.frame, h.tank.of_views rfl rfl, h.overflow.of_views rfl rfl, h.flag, claims.trans h.claims, found.trans h.tracks⟩

/-- R69, log 5: neither event sees the other. -/
theorem inEitherOrder_sampled (c : GaugeCounts) (s : State) :
    Sampled c s (inEitherOrder (sampleTank c) (sampleOverflow c) s) := by
  rcases inEitherOrder_cases (sampleTank c) (sampleOverflow c) s with taken | taken
  · rw [taken]
    exact ((sampleTank_event c _).overflows (sampleOverflow_event c _)).of_orders
  · rw [taken]
    exact ((sampleOverflow_event c _).tanks (sampleTank_event c _)).of_orders

/-- R66: the next sample instant is set beforehand. -/
theorem takeSample_sampled (c : GaugeCounts) (s : State) :
    Sampled c { s with input.nextSample := some (s.elapsed + seconds s.cfg.samplePeriod) } (takeSample c s) :=
  inEitherOrder_sampled c _

/-! ### The head and the flow -/

/-- R114. -/
theorem weirFlow_spec (table : List Point) (usable : Bool) (level crest : Nat) :
    (usable = false ∨ level ≤ crest → weirFlow table usable ((level : Int) - crest) = (0, false)) ∧
    (usable = true → crest < level →
      (lastX table < level - crest → weirFlow table usable ((level : Int) - crest) = (lastY table, true)) ∧
      (level - crest ≤ lastX table →
        weirFlow table usable ((level : Int) - crest) = (interpolate table (level - crest), false))) := by
  have height : ((level : Int) - crest).toNat = level - crest := by omega
  unfold weirFlow
  refine ⟨fun none => if_pos (none.imp_right fun h => by omega), fun used above => ?_⟩
  have flows : ¬ (usable = false ∨ (level : Int) - crest ≤ 0) := fun none => by
    rcases none with failed | low
    · exact absurd (used.symm.trans failed) (by decide)
    · omega
  rw [if_neg flows, height]
  exact ⟨fun past => if_pos (by omega), fun within => if_neg (by omega)⟩

/-- R108, R114: the head, its level condition and the flow. -/
theorem headSampled_spec (c : GaugeCounts) (s : State) (g : GaugeChannel) (hg : g = sampledGauge c .overflow s) :
    headSampled c s = { s.spill with
      head := some ((g.level : Int) - s.cfg.crest), status := some g.status
      flow := (weirFlow s.cfg.weir g.usable ((g.level : Int) - s.cfg.crest)).1
      beyond := (weirFlow s.cfg.weir g.usable ((g.level : Int) - s.cfg.crest)).2
      levelCond := g.usable && decide ((s.cfg.spillDeadband : Int) ≤ (g.level : Int) - s.cfg.crest)
      levelInstant := if (g.usable && decide ((s.cfg.spillDeadband : Int) ≤ (g.level : Int) - s.cfg.crest)) != s.spill.levelCond
        then some s.now else s.spill.levelInstant } := by
  subst hg; rfl

/-! ### The obligation -/

theorem headPart_fields {p q : Spill} (h : headPart p = headPart q) : p.head = q.head ∧ p.status = q.status ∧
    p.flow = q.flow ∧ p.beyond = q.beyond ∧ p.levelCond = q.levelCond ∧ p.levelInstant = q.levelInstant ∧
    p.floatCond = q.floatCond :=
  have same : ∀ {α : Type} (f : Spill → α), f (headPart p) = f (headPart q) := fun f => congrArg f h
  ⟨same Spill.head, same Spill.status, same Spill.flow, same Spill.beyond, same Spill.levelCond, same Spill.levelInstant,
    same Spill.floatCond⟩

theorem sampleFrame_fields {s t : State} (h : sampleFrame t = sampleFrame s) : t.elapsed = s.elapsed ∧ t.peers = s.peers ∧
    t.time = s.time ∧ t.input.digital = s.input.digital ∧ t.input.nextSample = s.input.nextSample ∧
    t.rain.bins = s.rain.bins ∧ t.rain.total = s.rain.total ∧ t.counter.log.readPos = s.counter.log.readPos :=
  have same : ∀ {α : Type} (f : State → α), f (sampleFrame t) = f (sampleFrame s) := fun f => congrArg f h
  ⟨same State.elapsed, same State.peers, same State.time, same fun u => u.input.digital, same fun u => u.input.nextSample,
    same fun u => u.rain.bins, same fun u => u.rain.total, same fun u => u.counter.log.readPos⟩

/-- The Spill Monitor of a sample, from its head as it is found afterwards. -/
theorem OverflowSampled.evaluated {c : GaugeCounts} {s t : State} (h : OverflowSampled c s t) {v : Spill}
    (hv : v = spillAfter s (t.spill.levelCond || s.spill.floatCond) ⟨s.elapsed, s.time.t⟩ { s.spill with
      head := t.spill.head, status := t.spill.status, flow := t.spill.flow, beyond := t.spill.beyond
      levelCond := t.spill.levelCond, levelInstant := t.spill.levelInstant }) : v = spillSampled c s := by
  obtain ⟨head, status, flow, beyond, cond, instant_, _⟩ := headPart_fields h.head
  rw [hv, head, status, flow, beyond, cond, instant_]
  rfl

/-- A count in the band gives the level, any other a run. -/
theorem sampledGauge_spec (c : GaugeCounts) (g : Gauge) (s : State) :
    (600 ≤ (countOf c g).toNat ∧ (countOf c g).toNat ≤ 3800 → sampledGauge c g s =
      { level := s.cfg.datum.get g + ((countOf c g).toNat - 600) * s.cfg.span.get g / 3200
        status := .good, run := 0, proven := true, raw := countOf c g, previous := some s.elapsed }) ∧
    (¬ (600 ≤ (countOf c g).toNat ∧ (countOf c g).toNat ≤ 3800) → sampledGauge c g s =
      { level := (s.input.gauges.get g).level, run := min 255 ((s.input.gauges.get g).run + 1)
        status := if (s.input.gauges.get g).proven = true ∧ (s.input.gauges.get g).run + 1 ≤ 2 then .held else .failed
        proven := (s.input.gauges.get g).proven, raw := countOf c g, previous := some s.elapsed }) := by
  unfold sampledGauge converted
  exact ⟨fun band => if_pos band, fun band => if_neg band⟩

/-- What the head measured leaves of the Spill Monitor (R108, R114), from the channel as it is found afterwards. -/
theorem OverflowSampled.heads {c : GaugeCounts} {s t : State} (h : OverflowSampled c s t) :
    t.spill.head = some ((t.input.gauges.overflow.level : Int) - s.cfg.crest) ∧
    t.spill.status = some t.input.gauges.overflow.status ∧
    (t.spill.flow, t.spill.beyond) = weirFlow s.cfg.weir t.input.gauges.overflow.usable
      ((t.input.gauges.overflow.level : Int) - s.cfg.crest) ∧
    (t.spill.levelCond = true ↔ t.input.gauges.overflow.status ≠ .failed ∧
      s.cfg.crest + s.cfg.spillDeadband ≤ t.input.gauges.overflow.level) ∧
    t.spill.levelInstant = (if t.spill.levelCond = s.spill.levelCond then s.spill.levelInstant else some s.now) ∧
    t.spill.floatCond = s.spill.floatCond := by
  obtain ⟨head, status, flow, beyond, cond, instant_, float⟩ := headPart_fields h.head
  have spec := headSampled_spec c s _ h.gauge
  generalize t.input.gauges.overflow = g at spec ⊢
  rw [spec] at head status flow beyond cond instant_ float
  dsimp only at head status flow beyond cond instant_ float
  refine ⟨head, status, by rw [flow, beyond], ?_, ?_, float⟩
  · rw [cond, Bool.and_eq_true, usable_iff, decide_eq_true_eq]
    have above : (s.cfg.spillDeadband : Int) ≤ (g.level : Int) - s.cfg.crest ↔ s.cfg.crest + s.cfg.spillDeadband ≤ g.level := by
      omega
    rw [above]
  · rw [instant_, ← cond]
    by_cases same : t.spill.levelCond = s.spill.levelCond
    · rw [if_pos same, if_neg (by rw [same]; simp)]
    · rw [if_neg same, if_pos (bne_iff_ne.mpr same)]

/-- Settles O39: the sample's two events (`sampleTank_event`, `sampleOverflow_event`) leave the same in either order, the first the
gauges and the volume, the second the head and what the spill state and the Spill Counter make of it (`SpillTaken`); the claim is
formed where something that it is formed from has changed (`Tracks`). -/
theorem sampleConvertsGauges : Obligations.SampleConvertsGauges := by
  refine ⟨fun ps x chain => ?_, fun s x counts count next due named => ?_⟩
  · have rises := pointsRise_pairwise chain
    refine ⟨fun p head below => ?_, fun p last beyond => interpolate_last rises last beyond,
      fun before p q after shape lower upper => ?_⟩
    · cases ps with
      | nil => cases head
      | cons a ps => cases head; exact interpolate_first rises below
    · subst shape; exact interpolate_between rises lower upper
  have count_of : ∀ g, count g = countOf counts g := fun g => by
    obtain ⟨sewer, tank, overflow⟩ := named
    cases g <;> assumption
  obtain ⟨t, ht⟩ : ∃ t, t = takeSample counts s := ⟨_, rfl⟩
  have sampled := takeSample_sampled counts s
  rw [← ht] at sampled
  have taken : exec (.sample counts) s = .next t := by
    have ready : s.due s.input.nextSample = true := by rw [next]; exact due_some due
    rw [ht]
    exact congrArg Host.Outcome.next (if_pos ready)
  obtain ⟨frame, tank, overflow, flag, claims, tracks⟩ := sampled
  obtain ⟨elapsed, peers, time, digital, nextSample, bins, total, readPos⟩ := sampleFrame_fields frame
  have tank' : TankSampled counts s t := tank.of_views rfl rfl
  have overflow' : OverflowSampled counts s t := overflow.of_views rfl rfl
  have gauges : ∀ g, t.input.gauges.get g = sampledGauge counts g s := fun g => by
    cases g with
    | sewer => exact tank'.sewer
    | tank => exact tank'.tank
    | overflow => exact overflow'.gauge
  obtain ⟨head, status, flow, cond, instant_, float⟩ := overflow'.heads
  obtain ⟨dry, spills⟩ := weirFlow_spec s.cfg.weir t.input.gauges.overflow.usable t.input.gauges.overflow.level s.cfg.crest
  have taken' := overflow'.taken
  refine ⟨t, taken, fun g band => ?_, fun g band => ?_, ?_, ?_, digital, tank'.usable, tank'.failed, fun changed => ?_,
    head, status, cond, instant_, fun none => ?_, fun used above => ?_, float, peers, time, elapsed, bins, total, readPos,
    fun v hv => ?_, taken'.holds⟩
  · rw [count_of] at band ⊢
    rw [gauges]
    exact (sampledGauge_spec counts g s).1 band
  · rw [count_of] at band ⊢
    rw [gauges]
    exact (sampledGauge_spec counts g s).2 band
  · simp only [count_of]
    exact flag
  · rw [nextSample, Nat.mul_comm]; rfl
  · have scheduled : Claims s { s with input.nextSample := some (s.elapsed + seconds s.cfg.samplePeriod) } :=
      .of_same rfl rfl rfl
    refine claimReformed_of ?_ (scheduled.trans claims)
    rcases tracks with formed | ⟨_, fill, usable, state, spill⟩
    · exact formed
    · have toggled : ¬ (t.tankGauge.status = .failed ↔ s.tankGauge.status ≠ .failed) := fun toggles => by
        have same : t.tankGauge.status ≠ .failed ↔ s.tankGauge.status ≠ .failed := by
          rw [← usable_iff, ← usable_iff, usable]; exact Iff.rfl
        exact not_iff_self (same.trans toggles.symm)
      rcases changed with moved | toggles | moved | moved
      · exact absurd fill moved
      · exact absurd toggles toggled
      · exact absurd state moved
      · exact absurd spill moved
  · have unused : t.input.gauges.overflow.usable = false ∨ t.input.gauges.overflow.level ≤ s.cfg.crest :=
      none.imp_left fun failed => by rw [GaugeChannel.usable, failed]; rfl
    exact Prod.mk.inj (flow.trans (dry unused))
  · obtain ⟨past, within⟩ := spills (usable_iff.mpr used) above
    exact ⟨fun beyond => Prod.mk.inj (flow.trans (past beyond)), fun inside => Prod.mk.inj (flow.trans (within inside))⟩
  · obtain rfl := overflow'.evaluated hv
    refine ⟨taken'.clear, taken'.lapse, fun o volume spell onset hvolume => ?_⟩
    have spilt : spiltVolume (spillSampled counts s) (sampleInterval .overflow s) s.elapsed o = volume := by
      rw [hvolume]; rfl
    have provisional := taken'.provisional o spell onset
    have confirmed := taken'.confirmed o spell onset
    have event := fun ev b => taken'.event o ev b spell onset
    rw [spilt] at provisional confirmed
    simp only [spilt] at event
    refine ⟨fun which => ⟨provisional which, fun peak held hpeak => ?_⟩, fun arrival after => ⟨confirmed arrival after, ?_⟩⟩
    · subst hpeak; exact taken'.summary spell which held
    · exact fun ev b held open_ current => event ev b arrival after held open_ current

end Sys2Proof.Machine
end

section
/-! SUPPORT. A request's frame is taken as its code with its arguments, and the requests that the run state does not allow are
turned away (O11). -/

namespace Sys2Proof.Machine

/-! ### Frames -/

/-- R183: bytes with their check byte sum to 0. -/
theorem byteSum_withCheck (bs : List Byte) : byteSum (withCheck bs) = 0 := by
  have sum : byteSum (withCheck bs) = byteSum bs + (0 - byteSum bs) := by
    unfold byteSum withCheck; rw [List.foldl_append]; rfl
  rw [sum]; bv_omega

theorem withCheck_length (bs : List Byte) : (withCheck bs).length = bs.length + 1 := List.length_append

/-- R183, R185: a request frame, whatever bytes follow it, is its code with its arguments. -/
theorem parseFrame_requestFrame {code : Byte} {args : List Byte} (extra : List Byte) (short : args.length < 256)
    (takes : argumentLength code.toNat = some none ∨ argumentLength code.toNat = some (some args.length)) :
    parseFrame (requestFrame code args ++ extra) = some (code.toNat, args) := by
  obtain ⟨g, hg⟩ : ∃ g, g = requestFrame code args ++ extra := ⟨_, rfl⟩
  have cells : g = code :: BitVec.ofNat 8 args.length :: (args ++
      ([0 - byteSum (code :: BitVec.ofNat 8 args.length :: args)] ++ extra)) := by
    rw [hg]; simp [requestFrame, withCheck]
  have first : byteAt g 0 = code.toNat := by rw [cells]; rfl
  have second : byteAt g 1 = args.length := by
    rw [cells]
    exact (BitVec.toNat_ofNat args.length 8).trans (Nat.mod_eq_of_lt short)
  have frame : (requestFrame code args).length = args.length + 3 := withCheck_length _
  have whole : g.take (args.length + 3) = requestFrame code args := by rw [hg, ← frame, List.take_left]
  have long : ¬ (g.length < 3 ∨ g.length < args.length + 3) := by
    rw [hg, List.length_append, frame]; omega
  have sums : ¬ byteSum (g.take (args.length + 3)) ≠ 0 := by
    rw [whole]; exact not_not.mpr (byteSum_withCheck _)
  have body : (g.drop 2).take args.length = args := by rw [cells]; exact List.take_left
  rw [← hg]
  unfold parseFrame
  rw [first, second, if_neg long, if_neg sums, body]
  rcases takes with any | fixed
  · rw [any]
  · rw [fixed]; exact if_pos rfl

/-- R184 b: the transaction of a request's frame answers that request. -/
theorem transaction_requestFrame {code : Byte} {args : List Byte} (extra : List Byte) (short : args.length < 256)
    (takes : argumentLength code.toNat = some none ∨ argumentLength code.toNat = some (some args.length))
    (clocked : Nat) (counts : GaugeCounts) (s : State) :
    exec (.transaction (requestFrame code args ++ extra) clocked counts) s = .next (answer code.toNat
      (takeRequest counts code.toNat args { s with port.sent := sentBytes s.port.heldResponse clocked })) := by
  have gathered : (requestFrame code args ++ extra).isEmpty = false := rfl
  show Host.Outcome.next (takeTransaction (requestFrame code args ++ extra) clocked counts s) = _
  unfold takeTransaction takeFrame
  rw [gathered, parseFrame_requestFrame extra short takes]
  rfl

/-! ### The run state -/

theorem inRunOnly_config {s : State} (config : s.inRun = false) (f : State → Answer) :
    inRunOnly f s = turnedAway .refused s := if_neg (by rw [config]; decide)

theorem inRunOnly_run {s : State} (run : s.inRun = true) (f : State → Answer) : inRunOnly f s = f s := if_pos run

theorem inConfigOnly_run {s : State} (run : s.inRun = true) (f : State → Answer) :
    inConfigOnly f s = turnedAway .refused s := if_pos run

theorem inConfigOnly_config {s : State} (config : s.inRun = false) (f : State → Answer) : inConfigOnly f s = f s :=
  if_neg (by rw [config]; decide)

theorem answer_turnedAway (code : Nat) (st : Status) (s : State) :
    answer code (turnedAway st s) = onlyAnswered code st [] s := rfl

/-- R187: a request that is taken in the other run state is answered REFUSED. -/
theorem runOnly_refused {s : State} (config : s.inRun = false) (code : Nat) (f : State → Answer) :
    Host.Outcome.next (φ := Fault) (ρ := Refusal) (answer code (inRunOnly f s)) = .next (onlyAnswered code .refused [] s) := by
  rw [inRunOnly_config config, answer_turnedAway]

theorem configOnly_refused {s : State} (run : s.inRun = true) (code : Nat) (f : State → Answer) :
    Host.Outcome.next (φ := Fault) (ρ := Refusal) (answer code (inConfigOnly f s)) = .next (onlyAnswered code .refused [] s) := by
  rw [inConfigOnly_run run, answer_turnedAway]

/-- R102, R157: CLEAR_FAULT of an object other than the gate and the pump. -/
theorem reqClearFault_other {object : Nat} (other : 1 < object) :
    reqClearFault object = inRunOnly (turnedAway .badArgument) := by
  match object, other with
  | _ + 2, _ => rfl

/-- R187: in CONFIG a CLEAR_FAULT is turned away before its object is looked at. -/
theorem reqClearFault_config {s : State} (config : s.inRun = false) (object : Nat) :
    reqClearFault object s = turnedAway .refused s := by
  match object with
  | 0 => exact show reqClearFaultGate s = _ from inRunOnly_config config _
  | 1 => exact show reqClearFaultPump s = _ from inRunOnly_config config _
  | _ + 2 => exact inRunOnly_config config _

/-- R188 b: a LOAD_ITEM whose arguments give no item and place. -/
theorem takeRequest_loadShort {args : List Byte} (short : args.length < 2) (counts : GaugeCounts) :
    takeRequest counts 1 args = inConfigOnly (turnedAway .badArgument) := if_pos short

/-- The frame of a CLEAR_FAULT. -/
theorem transaction_clearFault (object : Byte) (clocked : Nat) (counts : GaugeCounts) (s : State) :
    exec (.transaction (requestFrame 20 [object]) clocked counts) s = .next (answer 20
      (reqClearFault object.toNat { s with port.sent := sentBytes s.port.heldResponse clocked })) := by
  have taken := transaction_requestFrame (code := 20) (args := [object]) [] (by simp) (.inr rfl) clocked counts s
  rw [List.append_nil] at taken
  exact taken

/-- The frame of a LOAD_ITEM whose arguments give no item and place. -/
theorem transaction_loadShort {args : List Byte} (short : args.length < 2) (clocked : Nat) (counts : GaugeCounts)
    (s : State) : exec (.transaction (requestFrame 1 args) clocked counts) s = .next (answer 1
      (inConfigOnly (turnedAway .badArgument) { s with port.sent := sentBytes s.port.heldResponse clocked })) := by
  have taken := transaction_requestFrame (code := 1) (args := args) [] (by omega) (.inl rfl) clocked counts s
  rw [List.append_nil, show (1 : Byte).toNat = 1 from rfl, takeRequest_loadShort short] at taken
  exact taken

/-- Settles O11: each request is wrapped in the run state that allows it (`inRunOnly`, `inConfigOnly`), and its frame is taken
as the request (`transaction_requestFrame`). -/
theorem runStateRefuses : Obligations.RunStateRefuses := by
  refine ⟨fun s run => ⟨fun _ _ _ => configOnly_refused run 1 _, fun _ => configOnly_refused run 2 _,
      configOnly_refused run 22 _, fun clocked counts u hu => ⟨fun object other => ?_, fun args short => ?_⟩⟩,
    fun s config => ⟨fun _ => runOnly_refused config 14 _, fun _ _ => runOnly_refused config 17 _,
      runOnly_refused config 18 _, runOnly_refused config 19 _, runOnly_refused config 20 _, runOnly_refused config 20 _,
      fun clocked counts u hu => ⟨fun object => ?_, fun args short => ?_⟩⟩⟩
  · have run' : u.inRun = true := by rw [hu]; exact run
    rw [transaction_clearFault, ← hu, reqClearFault_other other, inRunOnly_run run']
    rfl
  · have run' : u.inRun = true := by rw [hu]; exact run
    rw [transaction_loadShort short, ← hu]
    exact configOnly_refused run' 1 _
  · have config' : u.inRun = false := by rw [hu]; exact config
    rw [transaction_clearFault, ← hu, reqClearFault_config config']
    rfl
  · have config' : u.inRun = false := by rw [hu]; exact config
    rw [transaction_loadShort short, ← hu, inConfigOnly_config config']
    rfl

end Sys2Proof.Machine
end

section
/-! SUPPORT. The gate's own timers (O45): the end of a travel, of the wait of RETRY_WAIT and of the pause of REVERSING. -/

namespace Sys2Proof.Machine

/-- A gate that rests or travels neither waits nor pauses. -/
theorem travel_ne_waiting (d : GateDir) :
    some d.atLimit ≠ some GateState.retryWait ∧ some d.atLimit ≠ some GateState.reversing ∧
    some d.moving ≠ some GateState.retryWait ∧ some d.moving ≠ some GateState.reversing ∧
    some d.moving ≠ some GateState.fault := by
  cases d <;> decide

/-- R103: a change of gate state is evaluated by the tank state machine. -/
theorem afterGate_evaluates {s t : State} (changed : s.tank.gate ≠ t.tank.gate) : afterGate s t = tankEvaluate false t :=
  if_neg changed

/-- R95: a travel whose limit is asserted already has arrived. -/
theorem beginTravel_asserted {s : State} {d : GateDir} (h : s.asserted d.limit = true) (c : Nat) :
    beginTravel d c s = { s with
      tank := { s.tank with gate := some d.atLimit, gateDir := none, gateTimer := none, retries := 0 }
      input.gateDrive := .off } := if_pos h

/-- R95: a travel with its timer and its drive, and the retry count that it is given. -/
theorem beginTravel_unasserted {s : State} {d : GateDir} (h : s.asserted d.limit = false) (c : Nat) :
    beginTravel d c s = { s with
      tank := { s.tank with
        gate := some d.moving, gateDir := some d, gateTimer := some (s.elapsed + 1000 * s.cfg.gateTravel), retries := c }
      input.gateDrive := d.drive } := by
  rw [beginTravel, h, Nat.mul_comm]; rfl

/-- R95: neither outcome of a travel is a wait. -/
theorem beginTravel_gate_changes {s : State} (h : s.tank.gate = some .retryWait ∨ s.tank.gate = some .reversing)
    (d : GateDir) (c : Nat) : s.tank.gate ≠ (beginTravel d c s).tank.gate := by
  obtain ⟨wait, pause, wait', pause', _⟩ := travel_ne_waiting d
  cases limit : s.asserted d.limit with
  | true =>
    rw [beginTravel_asserted limit]
    rcases h with h | h <;> rw [h]
    · exact wait.symm
    · exact pause.symm
  | false =>
    rw [beginTravel_unasserted limit]
    rcases h with h | h <;> rw [h]
    · exact wait'.symm
    · exact pause'.symm

theorem travelling_of_moving {s : State} {d : GateDir} (h : s.tank.gate = some d.moving) : travelling s = true := by
  unfold travelling; rw [h]; cases d <;> rfl

/-- R97: the end of a travel is acted on. -/
theorem gateTravelExpiry_acts {s : State} {d : GateDir} {x : Nat} (gate : s.tank.gate = some d.moving)
    (timer : s.tank.gateTimer = some x) (due : x ≤ s.elapsed) :
    exec .gateTravelExpiry s = .next (afterGate s (travelExpires s)) := by
  have ready : s.due s.tank.gateTimer = true := by rw [timer]; exact due_some due
  exact congrArg _ (if_pos ⟨travelling_of_moving gate, ready⟩)

/-- R97, R98: the end of a wait or of a pause begins a travel in the direction held. -/
theorem gateWaitExpiry_acts {s : State} {c : Instr} {d : GateDir} {x retries : Nat}
    (which : (c = .retryWaitExpiry ∧ s.tank.gate = some .retryWait ∧ retries = s.tank.retries + 1) ∨
      (c = .reversalPauseExpiry ∧ s.tank.gate = some .reversing ∧ retries = 0))
    (dir : s.tank.gateDir = some d) (timer : s.tank.gateTimer = some x) (due : x ≤ s.elapsed) :
    exec c s = .next (tankEvaluate false (beginTravel d retries s)) := by
  have ready : s.due s.tank.gateTimer = true := by rw [timer]; exact due_some due
  rcases which with ⟨rfl, gate, rfl⟩ | ⟨rfl, gate, rfl⟩
  · have travels : retryWaitExpires s = beginTravel d (s.tank.retries + 1) s := by unfold retryWaitExpires; rw [dir]
    rw [← afterGate_evaluates (beginTravel_gate_changes (.inl gate) d _), ← travels]
    exact congrArg _ (if_pos ⟨gate, ready⟩)
  · have travels : pauseExpires s = beginTravel d 0 s := by unfold pauseExpires; rw [dir]
    rw [← afterGate_evaluates (beginTravel_gate_changes (.inr gate) d _), ← travels]
    exact congrArg _ (if_pos ⟨gate, ready⟩)

/-- R100: the gate in FAULT, its flag, and the mark in the open event. -/
theorem gateFaults_eq (s : State) : gateFaults s = { s with
    tank := { s.tank with gate := some .fault, gateDir := none, gateTimer := none, retries := 0 }
    input.gateDrive := .off
    port := s.port.withEvents (s.port.flags ||| BitVec.twoPow 15 10) s.port.mask
    counter.event := s.counter.event.map fun ev => { ev with flags.gateFault := true } } := rfl

/-- Settles O45: the end of a travel leaves RETRY_WAIT or FAULT, and that of a wait or a pause a travel or an arrival; each is
another gate state, which the tank evaluates (`afterGate_evaluates`). -/
theorem gateTimersMoveTheGate : Obligations.GateTimersMoveTheGate := by
  refine ⟨fun s d x gate timer due => ⟨fun more => ⟨_, gateTravelExpiry_acts gate timer due, ?_⟩,
    fun spent => ⟨_, gateTravelExpiry_acts gate timer due, ?_⟩⟩, fun s c d x retries which dir timer due =>
    ⟨fun limit => ⟨_, gateWaitExpiry_acts which dir timer due, ?_⟩,
      fun limit => ⟨_, gateWaitExpiry_acts which dir timer due, ?_⟩⟩⟩
  · have waits : travelExpires s = { s with
        tank.gate := some .retryWait, tank.gateTimer := some (s.elapsed + 10000), input.gateDrive := .off } := if_pos more
    rw [waits]
    obtain ⟨_, _, travels, _⟩ := travel_ne_waiting d
    exact afterGate_evaluates (by rw [gate]; exact travels)
  · have faults : travelExpires s = gateFaults s := if_neg (Nat.not_lt.mpr spent)
    rw [faults, gateFaults_eq]
    obtain ⟨_, _, _, _, travels⟩ := travel_ne_waiting d
    exact afterGate_evaluates (by rw [gate]; exact travels)
  · rw [beginTravel_asserted limit]
  · rw [beginTravel_unasserted limit]

end Sys2Proof.Machine
end

section
/-! SUPPORT. What the notices between the Drain Controller and the Tank Controller leave of the pump and its rest (`Onward`),
and the pump's own timers (O50). -/

namespace Sys2Proof.Machine

/-! ### The pump's rest -/

/-- A notice leaves the drain mode and the pump's rest alone, and a pump that is not STOPPED as it is or STOPPING. -/
structure Onward (s t : State) : Prop where
  mode : t.drain.mode = s.drain.mode
  restTimer : t.drain.restTimer = s.drain.restTimer
  restElapsed : t.drain.restElapsed = s.drain.restElapsed
  pump : s.drain.pump ≠ some .stopped → t.drain.pump = s.drain.pump ∨ t.drain.pump = some .stopping

theorem Onward.of_drain {s t : State} (h : t.drain = s.drain) : Onward s t :=
  ⟨by rw [h], by rw [h], by rw [h], fun _ => .inl (by rw [h])⟩

theorem Onward.refl (s : State) : Onward s s := .of_drain rfl

theorem Onward.trans {s t u : State} (h : Onward s t) (k : Onward t u) : Onward s u := by
  refine ⟨k.mode.trans h.mode, k.restTimer.trans h.restTimer, k.restElapsed.trans h.restElapsed, fun moving => ?_⟩
  rcases h.pump moving with same | stopping
  · rw [← same]; exact k.pump (same ▸ moving)
  · rcases k.pump (by rw [stopping]; decide) with same' | stopping'
    · exact .inr (same'.trans stopping)
    · exact .inr stopping'

theorem commandStop_onward (s : State) : Onward s (commandStop s) := by
  unfold commandStop; dsimp only; split
  · exact ⟨rfl, rfl, rfl, fun _ => .inr rfl⟩
  · exact ⟨rfl, rfl, rfl, fun _ => .inl rfl⟩

/-- R151: a start is made from STOPPED only. -/
theorem pumpStart_onward (s : State) : Onward s (pumpStart s) := by
  unfold pumpStart; split
  · next may => exact ⟨rfl, rfl, rfl, fun moving => absurd may.1 moving⟩
  · exact .refl s

theorem followShare_onward (s : State) : Onward s (followShare s) := by
  unfold followShare; split_ifs
  · exact commandStop_onward s
  all_goals exact ⟨rfl, rfl, rfl, fun _ => .inl rfl⟩

theorem formClaim_onward (s : State) : Onward s (formClaim s) := by
  refine ⟨?_, ?_, ?_, fun _ => .inl ?_⟩ <;> rw [formClaim_drain]

theorem shareAndSetpoint_onward (s : State) : Onward s (shareAndSetpoint s) := by
  have ran : Onward s (runShare s) := ⟨rfl, rfl, rfl, fun _ => .inl rfl⟩
  refine ran.trans ?_
  unfold shareAndSetpoint; dsimp only; split
  · exact followShare_onward _
  · exact (followShare_onward _).trans (formClaim_onward _)

theorem reformClaim_onward (s : State) : Onward s (reformClaim s) :=
  (formClaim_onward s).trans (shareAndSetpoint_onward _)

theorem tankEnters_onward (t : TankState) (s : State) : Onward s (tankEnters t s) := by
  have moved : Onward s (tankMoves t s) := .of_drain (tankMoves_moves t s).1
  refine moved.trans (Onward.trans ?_ (.of_drain (releaseDeferred_leaves _).1))
  unfold drainTakesTankState
  refine Onward.trans ?_ (reformClaim_onward _)
  split
  · exact pumpStart_onward _
  · exact commandStop_onward _

theorem tankTakesDrainNotice_onward (s : State) : Onward s (tankTakesDrainNotice s) :=
  Onward.trans (.of_drain (releaseDeferred_leaves s).1)
    (tankCascade_rel .refl (fun _ _ _ => .trans) (fun _ s t _ => tankEnters_onward t s) _ _ _)

theorem pumpChanges_onward (s t : State) : Onward t (pumpChanges s t) := by
  unfold pumpChanges afterDrain; split
  · exact (reformClaim_onward t).trans (tankTakesDrainNotice_onward _)
  · exact reformClaim_onward t

/-! ### An evaluation without a transition -/

theorem tankCascade_stays {a b : Bool} {s : State} (h : tankDecides a b s = none) (n : Nat) : tankCascade n a b s = s := by
  cases n with
  | zero => rfl
  | succ n => unfold tankCascade; rw [h]

theorem releaseDeferred_same {s : State} (h : s.tank.openDeferred = false) : releaseDeferred s = s :=
  if_neg fun waits => by rw [h] at waits; exact absurd waits.1 (by decide)

/-- R87: in OFF and ADMITTING, with no open command deferred, a notice of the Drain Controller changes nothing. -/
theorem tankTakesDrainNotice_same {s : State} (deferred : s.tank.openDeferred = false)
    (state : s.tank.state ∈ [.off, .admitting]) : tankTakesDrainNotice s = s := by
  have stays : tankDecides false false s = none := by
    simp only [List.mem_cons, List.not_mem_nil, or_false] at state
    rcases state with h | h <;> rw [tankDecides, h]
  unfold tankTakesDrainNotice tankEvaluate
  rw [releaseDeferred_same deferred, tankCascade_stays stays]

/-! ### The pump's timers -/

/-- R152 b, R154 b: the start and the stop timeout are acted on in their states. -/
theorem pumpTimeout_acts {s : State} {c : Instr} {x : Nat}
    (which : (c = .startTimeoutExpiry ∧ s.drain.pump = some .starting) ∨
      (c = .stopTimeoutExpiry ∧ s.drain.pump = some .stopping))
    (timer : s.drain.pumpTimer = some x) (due : x ≤ s.elapsed) :
    exec c s = .next (pumpChanges s (pumpFaults s)) := by
  have ready : s.due s.drain.pumpTimer = true := by rw [timer]; exact due_some due
  rcases which with ⟨rfl, pump⟩ | ⟨rfl, pump⟩
  · exact congrArg _ (if_pos ⟨pump, ready⟩)
  · exact congrArg _ (if_pos ⟨pump, ready⟩)

/-- R155 a: the pump rested, and the tank told. -/
theorem restTimerExpiry_acts {s : State} {x : Nat} (timer : s.drain.restTimer = some x) (due : x ≤ s.elapsed) :
    exec .restTimerExpiry s =
      .next (tankTakesDrainNotice { s with drain.restTimer := none, drain.restElapsed := true }) := by
  have ready : s.due s.drain.restTimer = true := by rw [timer]; exact due_some due
  exact congrArg _ (if_pos ready)

/-- The contact of a pump as it stands. -/
theorem pumpRecognised_self (s : State) : PumpRecognised (s.asserted .pumpRunning) s s :=
  ⟨rfl, rfl, rfl, rfl, rfl, rfl, rfl⟩

/-- Settles O50: a timeout faults the pump (`PumpRecognised.faults`), which then stays idle (`pumpChanges_idle`); the end of the
rest is a notice to the tank, which leaves the rest alone (`tankTakesDrainNotice_onward`). -/
theorem pumpTimersFaultAndRest : Obligations.PumpTimersFaultAndRest := by
  refine ⟨fun s c x which timer due => ⟨_, pumpTimeout_acts which timer due, ?_⟩, fun s x timer due => ?_⟩
  · have was : s.drain.pump ≠ some .fault := by rcases which with ⟨_, pump⟩ | ⟨_, pump⟩ <;> rw [pump] <;> decide
    obtain ⟨fault, setpoint, run, rate, requested, drawn, state, flags, claim, deferral⟩ :=
      (pumpRecognised_self s).faults was rfl
    have kept := pumpChanges_idle (s := s) (t := pumpFaults s) (.inl rfl)
    have outside := pumpChanges_tank s (pumpFaults s)
    refine ⟨fault, setpoint, run, rate, kept.pumpTimer, kept.restTimer, kept.restElapsed, requested, kept.lastNonzero, drawn,
      state, claim, deferral, flags, ?_⟩
    rw [port_of_tank outside]
    exact outside
  · obtain ⟨u, hu⟩ : ∃ u, u = { s with drain.restTimer := none, drain.restElapsed := true } := ⟨_, rfl⟩
    obtain ⟨mode, restTimer, restElapsed, pump⟩ := tankTakesDrainNotice_onward u
    have outside : outsideTank u = outsideTank s := by rw [hu]; rfl
    refine ⟨_, restTimerExpiry_acts timer due, ?_⟩
    rw [← hu]
    refine ⟨rfl, ?_, ?_, ?_, fun moving starting => ?_, fun none state => ?_,
      (tankTakesDrainNotice_tank u).trans outside⟩
    · rw [restTimer, hu]
    · rw [restElapsed, hu]
    · rw [mode, hu]
    · have before : u.drain.pump = s.drain.pump := by rw [hu]
      rw [before, starting] at pump
      rcases pump moving with same | stopping
      · exact same.symm
      · exact absurd (Option.some.inj stopping) (by decide)
    · exact tankTakesDrainNotice_same (by rw [hu]; exact none) (by rw [hu]; exact state)

end Sys2Proof.Machine
end

section
/-! SUPPORT. The gate as its target moves it (R94), and that an evaluation of the tank leaves the gate alone while the target
stays (`Steers`); GATE_MODE (O24). -/

namespace Sys2Proof.Machine

/-! ### What the gate makes of a target -/

/-- What of the gate the table of R94 sets: its state, direction, timer, retry count and drive. -/
def gatePart (s : State) : Option GateState × Option GateDir × Option Nat × Nat × GateDrive :=
  (s.tank.gate, s.tank.gateDir, s.tank.gateTimer, s.tank.retries, s.input.gateDrive)

theorem gatePart_eq {s : State} {g : Option GateState} {d : Option GateDir} {x : Option Nat} {n : Nat} {r : GateDrive} :
    gatePart s = (g, d, x, n, r) ↔
      s.tank.gate = g ∧ s.tank.gateDir = d ∧ s.tank.gateTimer = x ∧ s.tank.retries = n ∧ s.input.gateDrive = r := by
  simp only [gatePart, Prod.mk.injEq]

theorem gatePart_same {s t : State} : gatePart t = gatePart s ↔
    t.tank.gate = s.tank.gate ∧ t.tank.gateDir = s.tank.gateDir ∧ t.tank.gateTimer = s.tank.gateTimer ∧
    t.tank.retries = s.tank.retries ∧ t.input.gateDrive = s.input.gateDrive := gatePart_eq

theorem gatePart_of_drain {s t : State} (h : outsideDrain t = outsideDrain s) : gatePart t = gatePart s :=
  (congrArg gatePart h : gatePart (outsideDrain t) = gatePart (outsideDrain s))

/-- R94: the gate that a target leaves as it is. -/
def Untouched (d : GateDir) (s : State) : Prop :=
  s.tank.gate ∈ [none, some .fault, some d.atLimit, some d.moving] ∨ s.tank.gate = some .retryWait ∧ s.tank.gateDir = some d

/-- R94: the table of the gate's actions on a target that has become d, from s to t. -/
structure GateActs (d : GateDir) (s t : State) : Prop where
  arrives : s.tank.gate = some d.reverse.atLimit ∨ s.tank.gate = some .stopped → s.asserted d.limit = true →
    gatePart t = (some d.atLimit, none, none, 0, .off)
  travels : s.tank.gate = some d.reverse.atLimit ∨ s.tank.gate = some .stopped → s.asserted d.limit = false →
    gatePart t = (some d.moving, some d, some (s.elapsed + 1000 * s.cfg.gateTravel), 0, d.drive)
  reverses : s.tank.gate = some d.reverse.moving ∨ s.tank.gate = some .retryWait ∧ s.tank.gateDir ≠ some d →
    gatePart t = (some .reversing, some d, some (s.elapsed + 2000), s.tank.retries, .off)
  turns : s.tank.gate = some .reversing →
    gatePart t = (some .reversing, some d, s.tank.gateTimer, s.tank.retries, s.input.gateDrive)
  stays : Untouched d s → gatePart t = gatePart s

theorem gateActsOn_reverses {s : State} {d : GateDir}
    (h : s.tank.gate = some d.reverse.moving ∨ s.tank.gate = some .retryWait ∧ s.tank.gateDir ≠ some d) :
    gateActsOn d s = reverseGate d s := by
  unfold gateActsOn
  rcases h with h | ⟨h, other⟩
  · rw [h]; cases d <;> rfl
  · rw [h]; exact if_neg other

theorem gateActsOn_untouched {s : State} {d : GateDir} (h : Untouched d s) : gateActsOn d s = s := by
  simp only [Untouched, List.mem_cons, List.not_mem_nil, or_false] at h
  unfold gateActsOn
  rcases h with (h | h | h | h) | ⟨h, same⟩
  · rw [h]
  · rw [h]
  · rw [h]; cases d <;> rfl
  · rw [h]; cases d <;> rfl
  · rw [h]; exact if_pos same

theorem gateActsOn_acts (d : GateDir) (s : State) : GateActs d s (gateActsOn d s) := by
  refine ⟨fun rests limit => ?_, fun rests limit => ?_, fun away => ?_, fun pauses => ?_, fun still => ?_⟩
  · rw [gateActsOn_travels rests.symm, beginTravel_asserted limit]; rfl
  · rw [gateActsOn_travels rests.symm, beginTravel_unasserted limit]; rfl
  · rw [gateActsOn_reverses away]; rfl
  · have turned : gateActsOn d s = { s with tank.gateDir := some d } := by unfold gateActsOn; rw [pauses]
    rw [turned, ← pauses]; rfl
  · rw [gateActsOn_untouched still]

/-! ### The target derived anew -/

/-- The tank out of OFF with the target that its state and the gate mode give. -/
structure Steered (s : State) : Prop where
  on : s.tank.state ≠ .off
  target : s.tank.target = some (targetAtEntry s)

theorem retarget_same {s : State} (h : Steered s) : retarget s = s :=
  if_pos ((derivedTarget_eq h.on).trans h.target.symm)

theorem retarget_acts {s : State} (on : s.tank.state ≠ .off) (changed : s.tank.target ≠ some (targetAtEntry s)) :
    retarget s = gateActsOn (targetAtEntry s) (targeted (targetAtEntry s) s) := by
  unfold retarget
  rw [derivedTarget_eq on, if_neg changed.symm]
  rfl

/-- R94: the target is read off the tank state, the deferral and the gate mode. -/
theorem targetAtEntry_congr {s t : State} (state : t.tank.state = s.tank.state)
    (deferred : t.tank.openDeferred = s.tank.openDeferred) (mode : t.tank.mode = s.tank.mode) :
    targetAtEntry t = targetAtEntry s := by
  unfold targetAtEntry; rw [state, deferred, mode]

theorem retarget_steered {s : State} (on : s.tank.state ≠ .off) : Steered (retarget s) := by
  obtain ⟨_, _, _, _, _, state, _, deferred, _, _, mode, _⟩ := outsideGate_fields (retarget_gate s)
  refine ⟨by rw [state]; exact on, ?_⟩
  rw [retarget_target, derivedTarget_eq on, targetAtEntry_congr state deferred mode]

theorem Steered.of_tank {s t : State} (h : Steered s) (tank : t.tank = s.tank) : Steered t := by
  refine ⟨by rw [tank]; exact h.on, ?_⟩
  rw [targetAtEntry_congr (s := s) (by rw [tank]) (by rw [tank]) (by rw [tank]), tank]
  exact h.target

/-- Outside ADMITTING the gate is to open only where it is forced to. -/
theorem targetAtEntry_closed {s : State} (h : s.tank.state ≠ .admitting) :
    targetAtEntry s = if s.tank.mode = .forceOpen then .toOpen else .toClose := by
  unfold targetAtEntry
  cases s.tank.mode with
  | auto => rw [if_neg fun admits => h admits.1]; rfl
  | forceOpen => rfl
  | forceClosed => rfl

/-! ### An evaluation -/

/-- A target that stays leaves the gate alone, and one that is OPEN stays. -/
structure Steers (s t : State) : Prop where
  steered : Steered t
  mode : t.tank.mode = s.tank.mode
  opens : s.tank.target = some .toOpen → t.tank.target = some .toOpen
  gate : t.tank.target = s.tank.target → gatePart t = gatePart s

theorem Steers.refl {s : State} (h : Steered s) : Steers s s := ⟨h, rfl, id, fun _ => rfl⟩

theorem Steers.trans {s t u : State} (start : Steered s) (h : Steers s t) (k : Steers t u) : Steers s u := by
  refine ⟨k.steered, k.mode.trans h.mode, k.opens ∘ h.opens, fun same => ?_⟩
  have between : t.tank.target = s.tank.target := by
    cases before : targetAtEntry s with
    | toOpen =>
      have opens := start.target.trans (congrArg some before)
      rw [opens, h.opens opens]
    | toClose =>
      cases middle : targetAtEntry t with
      | toOpen =>
        have opens := h.steered.target.trans (congrArg some middle)
        rw [opens, ← same, k.opens opens]
      | toClose => rw [start.target, h.steered.target, before, middle]
  exact (k.gate (same.trans between.symm)).trans (h.gate between)

theorem tankDecides_from {a b : Bool} {s : State} {t : TankState} (h : tankDecides a b s = some t) :
    s.tank.state ≠ .admitting ∧ t ≠ .off := by
  unfold tankDecides at h
  split at h
  · cases h
  · cases h
  all_goals
    next state =>
    refine ⟨by rw [state]; decide, ?_⟩
    rintro rfl
    split_ifs at h <;> cases h

/-- R90: with the open command deferred only while the pump may draw, no notice of the entry releases it. -/
theorem tankEnters_eq (t : TankState) (s : State) : tankEnters t s = drainTakesTankState (tankMoves t s) := by
  obtain ⟨drain, _, _, state, _, deferred⟩ := tankMoves_moves t s
  obtain ⟨_, _, _, tank, _⟩ := outsideDrain_fields (drainTakesTankState_outside (tankMoves t s))
  refine if_neg fun released => ?_
  obtain ⟨waits, rests⟩ := released
  rw [tank, deferred, Bool.and_eq_true, decide_eq_true_iff] at waits
  obtain ⟨rfl, draws⟩ := waits
  refine rests ?_
  rw [drainTakesTankState_draws (by rw [state]; decide), pumpMayDraw_of_drain (s := s) (by rw [drain])]
  exact draws

/-- R87, R94: a transition's target; while it stays the gate is left alone. -/
theorem tankEnters_steers {a b : Bool} {s : State} {t : TankState} (h : tankDecides a b s = some t) (start : Steered s) :
    Steers s (tankEnters t s) := by
  obtain ⟨closed, on⟩ := tankDecides_from h
  have outside := drainTakesTankState_outside (tankMoves t s)
  obtain ⟨_, _, _, tank, _⟩ := outsideDrain_fields outside
  obtain ⟨u, hu⟩ : ∃ u, u = { s with tank := { s.tank with
      state := t, releaseTimer := none, openDeferred := decide (t = TankState.admitting) && pumpMayDraw s } } := ⟨_, rfl⟩
  have moved : tankMoves t s = retarget u := by rw [hu]; rfl
  have on' : u.tank.state ≠ .off := by rw [hu]; exact on
  have steered := retarget_steered on'
  obtain ⟨_, _, _, _, _, _, _, _, _, _, mode, _⟩ := outsideGate_fields (retarget_gate u)
  rw [tankEnters_eq]
  rw [moved] at outside tank ⊢
  refine ⟨steered.of_tank tank, ?_, fun opens => ?_, fun same => ?_⟩
  · rw [tank, mode, hu]
  · have forced : s.tank.mode = .forceOpen := by
      by_contra other
      have target := start.target
      rw [opens, targetAtEntry_closed closed, if_neg other] at target
      exact absurd (Option.some.inj target) (by decide)
    rw [tank, retarget_target, derivedTarget_eq on', targetAtEntry, hu]
    dsimp only
    rw [forced]
  · rw [tank, retarget_target, derivedTarget_eq on'] at same
    have still : retarget u = u := retarget_same ⟨on', by rw [same, hu]⟩
    rw [gatePart_of_drain outside, still, hu]
    rfl

theorem tankEvaluate_steers {s : State} (start : Steered s) : Steers s (tankEvaluate false s) :=
  tankCascade_rel (R := fun s t => Steered s → Steers s t) (fun _ start => .refl start)
    (fun _ _ _ h k start => (h start).trans start (k (h start).steered))
    (fun _ _ _ decides start => tankEnters_steers decides start) 6 false s start

theorem afterGate_steers {t : State} (start : Steered t) (s : State) : Steers t (afterGate s t) := by
  unfold afterGate; split
  · exact .refl start
  · exact tankEvaluate_steers start

theorem afterGate_admitting {t : State} (h : t.tank.state = .admitting) (s : State) : afterGate s t = t := by
  unfold afterGate; split
  · rfl
  · exact tankCascade_admitting h _ _ _

end Sys2Proof.Machine
end

section
/-! SUPPORT. GATE_MODE (O24): the mode's target, what the gate makes of it, and that the evaluation that follows leaves both. -/

namespace Sys2Proof.Machine

theorem gateModeOf_known {n : Nat} {m : GateMode} (h : [GateMode.auto, .forceOpen, .forceClosed][n]? = some m) :
    gateModeOf n = some m := by
  match n with
  | 0 => exact h
  | 1 => exact h
  | 2 => exact h
  | _ + 3 => exact absurd h (by simp)

theorem gateModeOf_unknown {n : Nat} (h : 2 < n) : gateModeOf n = none := by
  match n, h with
  | _ + 3, _ => rfl

/-- R94: the state in which the mode has been stored, the one in which the gate has acted on its target, and the one that the
tank's evaluation leaves. -/
structure GateModeSet (m : GateMode) (s u v t : State) : Prop where
  stored : u = { s with tank.mode := m }
  on : u.tank.state ≠ .off
  acted : v = retarget u
  evaluated : t = afterGate s v

theorem GateModeSet.steers {m : GateMode} {s u v t : State} (h : GateModeSet m s u v t) : Steers v t := by
  obtain ⟨_, on, acted, rfl⟩ := h
  exact afterGate_steers (acted ▸ retarget_steered on) s

theorem GateModeSet.mode {m : GateMode} {s u v t : State} (h : GateModeSet m s u v t) : t.tank.mode = m := by
  have steers := h.steers
  obtain ⟨stored, _, acted, _⟩ := h
  obtain ⟨_, _, _, _, _, _, _, _, _, _, mode, _⟩ := outsideGate_fields (retarget_gate u)
  rw [steers.mode, acted, mode, stored]

theorem GateModeSet.target {m : GateMode} {s u v t : State} (h : GateModeSet m s u v t) :
    v.tank.target = some (targetAtEntry u) := by
  rw [h.acted, retarget_target, derivedTarget_eq h.on]

/-- R94: a forced mode's target stays, and AUTO's where the tank's state does. -/
theorem GateModeSet.keeps {m : GateMode} {s u v t : State} (h : GateModeSet m s u v t)
    (same : m ≠ .auto ∨ t.tank.state = s.tank.state) : t.tank.target = some (targetAtEntry u) := by
  have target := h.target
  have steered := h.steers.steered
  have mode := h.mode
  obtain ⟨stored, on, acted, evaluated⟩ := h
  obtain ⟨_, _, _, _, _, state, _⟩ := outsideGate_fields (retarget_gate u)
  have stored' : u.tank.mode = m ∧ u.tank.state = s.tank.state := by rw [stored]; exact ⟨rfl, rfl⟩
  obtain ⟨mode', state'⟩ := stored'
  rcases same with forced | stays
  · rw [steered.target, targetAtEntry, targetAtEntry, mode, mode']
    cases m with
    | auto => exact absurd rfl forced
    | forceOpen => rfl
    | forceClosed => rfl
  · by_cases admitting : u.tank.state = .admitting
    · rw [evaluated, afterGate_admitting (by rw [acted, state]; exact admitting), target]
    · rw [steered.target, targetAtEntry_closed admitting,
        targetAtEntry_closed (by rw [stays, ← state']; exact admitting), mode, mode']

/-- R94: what becomes of the gate where the target that the mode gives stays. -/
theorem GateModeSet.gate {m : GateMode} {s u v t : State} (h : GateModeSet m s u v t) {d : GateDir}
    (hd : d = targetAtEntry u) (kept : t.tank.target = some d) :
    (s.tank.target ≠ some d → GateActs d s t) ∧ (s.tank.target = some d → gatePart t = gatePart s) := by
  have after : gatePart t = gatePart v := h.steers.gate (by rw [kept, h.target, hd])
  obtain ⟨stored, on, acted, _⟩ := h
  refine ⟨fun changed => ?_, fun same => ?_⟩
  · have acts : v = gateActsOn d (targeted d u) := by
      rw [acted, hd]
      exact retarget_acts on (by rw [← hd, stored]; exact changed)
    obtain ⟨arrives, travels, reverses, turns, stays⟩ := gateActsOn_acts d (targeted d u)
    rw [← acts, ← after, stored] at arrives travels reverses turns stays
    exact ⟨arrives, travels, reverses, turns, stays⟩
  · have still : v = u := by
      rw [acted]
      exact retarget_same ⟨on, by rw [← hd, stored]; exact same⟩
    rw [after, still, stored]; rfl

/-- R100: a gate in FAULT stays so, whatever the target. -/
theorem GateModeSet.fault {m : GateMode} {s u v t : State} (h : GateModeSet m s u v t) (fault : s.tank.gate = some .fault) :
    t.tank.gate = some .fault ∧ t.input.gateDrive = s.input.gateDrive := by
  obtain ⟨stored, on, acted, evaluated⟩ := h
  have still : gatePart v = gatePart u := by
    rw [acted]
    by_cases same : u.tank.target = some (targetAtEntry u)
    · rw [retarget_same ⟨on, same⟩]
    · rw [retarget_acts on same, gateActsOn_stays (.inl (by rw [stored]; exact fault))]; rfl
  obtain ⟨gate, _, _, _, drive⟩ := gatePart_same.mp still
  have gate' : v.tank.gate = s.tank.gate := by rw [gate, stored]
  have unmoved : t = v := by rw [evaluated]; exact if_pos gate'.symm
  rw [unmoved]
  exact ⟨gate'.trans fault, by rw [drive, stored]⟩

theorem GateModeSet.outside {m : GateMode} {s u v t : State} (h : GateModeSet m s u v t) : outsideTank t = outsideTank s := by
  obtain ⟨stored, _, acted, evaluated⟩ := h
  rw [evaluated, afterGate_tank, acted, retarget_tank, stored]
  rfl

theorem setGateMode_sets {s : State} (run : s.inRun = true) (on : s.tank.state ≠ .off) (m : GateMode) :
    ∃ u v, GateModeSet m s u v (setGateMode m s) :=
  ⟨_, _, rfl, on, rfl, if_pos run⟩

theorem gateMode_answers {mode : Byte} {m : GateMode} (h : gateModeOf mode.toNat = some m) (s : State) :
    exec (.gateMode mode) s = .next (holding (responseFrame 15 .done []) (setGateMode m s)) := by
  show Host.Outcome.next (answer 15 (reqGateMode mode.toNat s)) = _
  unfold reqGateMode
  rw [h]
  rfl

theorem gateMode_refuses {mode : Byte} (h : gateModeOf mode.toNat = none) (s : State) :
    exec (.gateMode mode) s = .next (onlyAnswered 15 .badArgument [] s) := by
  show Host.Outcome.next (answer 15 (reqGateMode mode.toNat s)) = _
  unfold reqGateMode
  rw [h]
  rfl

/-- Settles O24: the mode gives the target (`GateModeSet.keeps`), the gate acts on it by the table of R94
(`GateModeSet.gate`), and the evaluation leaves the gate while the target stays (`tankEvaluate_steers`). -/
theorem gateModeMovesTheGate : Obligations.GateModeMovesTheGate := by
  refine fun s mode => ⟨fun unknown => ⟨_, gateMode_refuses (gateModeOf_unknown unknown) s, rfl⟩, fun m known =>
    ⟨fun config => ⟨_, gateMode_answers (gateModeOf_known known) s, ?_⟩,
      fun run on => ⟨_, gateMode_answers (gateModeOf_known known) s, ?_⟩⟩⟩
  · have stored : setGateMode m s = { s with tank.mode := m } := if_neg (by rw [config]; decide)
    rw [stored]; rfl
  · obtain ⟨u, v, set⟩ := setGateMode_sets run on m
    obtain ⟨t, ht⟩ : ∃ t, t = setGateMode m s := ⟨_, rfl⟩
    rw [← ht] at set ⊢
    have steered := set.steers.steered
    have moded := set.mode
    refine ⟨rfl, moded, steered.on, fun force => ?_, fun force => ?_, fun auto => ?_, fun force closed before free => ?_,
      set.fault, fun d turned turns hd same => ?_, outsideTank_holding _ set.outside⟩
    · exact steered.target.trans (by rw [targetAtEntry, moded, force])
    · exact steered.target.trans (by rw [targetAtEntry, moded, force])
    · refine steered.target.trans ?_
      rw [targetAtEntry, moded, auto]
      exact apply_ite some _ _ _
    · have opens : GateDir.toOpen = targetAtEntry u := by rw [set.stored, force]; rfl
      have acts := (set.gate opens (by rw [opens]; exact set.keeps (.inl (by rw [force]; decide)))).1
        (by rw [before]; decide)
      obtain ⟨gate, dir, timer, retries, drive⟩ := gatePart_eq.mp (acts.travels (.inl closed) free)
      exact ⟨gate, dir, retries, timer, drive⟩
    · have other : turned = d.reverse := by
        simp only [List.mem_cons, Prod.mk.injEq, List.not_mem_nil, or_false] at turns
        rcases turns with ⟨rfl, rfl⟩ | ⟨rfl, rfl⟩ <;> rfl
      subst other
      have target : d = targetAtEntry u := by rw [hd, set.stored]; cases m <;> rfl
      have kept : t.tank.target = some d := by rw [target]; exact set.keeps same
      obtain ⟨acts, still⟩ := set.gate target kept
      refine ⟨kept, fun changed => ⟨fun rests => ⟨fun limit => ?_, fun limit => ?_⟩, fun away => ?_, fun pauses => ?_⟩,
        fun leaves => gatePart_same.mp ?_⟩
      · exact gatePart_eq.mp ((acts changed).arrives rests limit)
      · exact gatePart_eq.mp ((acts changed).travels rests limit)
      · exact gatePart_eq.mp ((acts changed).reverses away)
      · exact gatePart_eq.mp ((acts changed).turns pauses)
      · by_cases same' : s.tank.target = some d
        · exact still same'
        · exact (acts same').stays (leaves.resolve_left same')

end Sys2Proof.Machine
end

section
/-! SUPPORT. CLEAR_FAULT of the gate and of the pump (O26). -/

namespace Sys2Proof.Machine

/-! ### The gate -/

/-- R102 a: a gate that leaves FAULT, at rest by its limits, before it acts on its target. -/
def gateFreed (s : State) : State :=
  { s with tank := { s.tank with gate := some (gateFromLimits s), gateDir := none, retries := 0 } }

theorem gateFromLimits_apart {s : State}
    (apart : ¬ (s.asserted .gateOpenLimit = true ∧ s.asserted .gateClosedLimit = true)) : gateFromLimits s ≠ .fault := by
  unfold gateFromLimits
  split
  case h_4 opened closed => exact absurd ⟨opened, closed⟩ apart
  all_goals decide

/-- R88: with its limits apart, the gate is at the limit of a direction exactly where that is asserted. -/
theorem gateFromLimits_atLimit {s : State} {d : GateDir}
    (apart : ¬ (s.asserted .gateOpenLimit = true ∧ s.asserted .gateClosedLimit = true)) (h : s.asserted d.limit = true) :
    gateFromLimits s = d.atLimit := by
  unfold gateFromLimits
  cases d with
  | toOpen =>
    have closed : s.asserted .gateClosedLimit = false := by simpa [show s.asserted .gateOpenLimit = true from h] using apart
    rw [show s.asserted .gateOpenLimit = true from h, closed]; rfl
  | toClose =>
    have opened : s.asserted .gateOpenLimit = false := by simpa [show s.asserted .gateClosedLimit = true from h] using apart
    rw [show s.asserted .gateClosedLimit = true from h, opened]; rfl

theorem gateFromLimits_away {s : State} {d : GateDir} (h : s.asserted d.limit = false) :
    gateFromLimits s = .stopped ∨ gateFromLimits s = d.reverse.atLimit := by
  unfold gateFromLimits
  cases d with
  | toOpen =>
    rw [show s.asserted .gateOpenLimit = false from h]
    cases s.asserted .gateClosedLimit
    · exact .inl rfl
    · exact .inr rfl
  | toClose =>
    rw [show s.asserted .gateClosedLimit = false from h]
    cases s.asserted .gateOpenLimit
    · exact .inl rfl
    · exact .inr rfl

theorem gateClears_apart {s : State} (sound : gateFromLimits s ≠ .fault) :
    gateClears s = gateActsOnTarget (gateFreed s) := by
  unfold gateClears gateFreed
  cases limits : gateFromLimits s
  case fault => exact absurd limits sound
  all_goals rfl

/-- R102 a: no target, or the gate at its limit. -/
theorem gateClears_rests {s : State} (sound : gateFromLimits s ≠ .fault)
    (h : ∀ d, s.tank.target = some d → gateFromLimits s = d.atLimit) : gateClears s = gateFreed s := by
  rw [gateClears_apart sound, gateActsOnTarget]
  split
  · rfl
  · next d target => exact gateActsOn_stays (.inr (congrArg some (h d target)))

/-- R102 a, R95: a travel towards the target. -/
theorem gateClears_travels {s : State} {d : GateDir} (sound : gateFromLimits s ≠ .fault) (target : s.tank.target = some d)
    (free : s.asserted d.limit = false) : gateClears s = { s with
      tank := { s.tank with
        gate := some d.moving, gateDir := some d, gateTimer := some (s.elapsed + 1000 * s.cfg.gateTravel), retries := 0 }
      input.gateDrive := d.drive } := by
  have acts : gateActsOnTarget (gateFreed s) = gateActsOn d (gateFreed s) := by
    have target' : (gateFreed s).tank.target = some d := target
    rw [gateActsOnTarget, target']
  have travels : gateActsOn d (gateFreed s) = beginTravel d 0 (gateFreed s) :=
    gateActsOn_travels ((gateFromLimits_away free).imp (congrArg some) (congrArg some))
  rw [gateClears_apart sound, acts, travels, beginTravel_unasserted (s := gateFreed s) free]
  rfl

/-- R102: what a gate that leaves FAULT becomes, before the tank's evaluation. -/
structure GateCleared (s u : State) : Prop where
  sound : u.tank.gate ≠ some .fault
  gate : u.tank.gate = match s.asserted .gateOpenLimit, s.asserted .gateClosedLimit, s.tank.target with
    | true, _, some .toClose => some .closing
    | true, _, _ => some .opened
    | _, true, some .toOpen => some .opening
    | _, true, _ => some .closed
    | _, _, some .toOpen => some .opening
    | _, _, some .toClose => some .closing
    | _, _, none => some .stopped
  retries : u.tank.retries = 0
  travels : u.tank.gate ∈ [some .opening, some .closing] →
    u.tank.gateTimer = some (s.elapsed + 1000 * s.cfg.gateTravel) ∧ u.input.gateDrive = driveOf u.tank.gate
  frame : u = { s with
    tank := { s.tank with
      gate := u.tank.gate, gateDir := u.tank.gateDir, gateTimer := u.tank.gateTimer, retries := u.tank.retries }
    input.gateDrive := u.input.gateDrive }

theorem GateCleared.of_rests {s : State} (sound : gateFromLimits s ≠ .fault)
    (h : ∀ d, s.tank.target = some d → gateFromLimits s = d.atLimit) : GateCleared s (gateClears s) := by
  rw [gateClears_rests sound h]
  refine ⟨fun fault => sound (Option.some.inj fault), ?_, rfl, fun moves => ?_, rfl⟩
  · show some (gateFromLimits s) = _
    unfold gateFromLimits at sound h ⊢
    cases target : s.tank.target with
    | none => revert sound; cases s.asserted .gateOpenLimit <;> cases s.asserted .gateClosedLimit <;> simp
    | some d =>
      have atLimit := h d target
      revert sound atLimit
      cases s.asserted .gateOpenLimit <;> cases s.asserted .gateClosedLimit <;> cases d <;> simp [GateDir.atLimit]
  · have driven : driveOf (some (gateFromLimits s)) ≠ .off := by
      simp only [List.mem_cons, List.not_mem_nil, or_false] at moves
      rcases moves with h | h <;> rw [show some (gateFromLimits s) = _ from h] <;> decide
    exact absurd (driveOf_gateFromLimits s) driven

theorem GateCleared.of_travels {s : State} {d : GateDir} (sound : gateFromLimits s ≠ .fault)
    (target : s.tank.target = some d) (free : s.asserted d.limit = false) : GateCleared s (gateClears s) := by
  rw [gateClears_travels sound target free]
  obtain ⟨_, _, _, _, moves⟩ := travel_ne_waiting d
  refine ⟨moves, ?_, rfl, fun _ => ⟨rfl, (driveOf_moving d).symm⟩, rfl⟩
  show some d.moving = _
  rw [target]
  cases d with
  | toOpen =>
    rw [show s.asserted .gateOpenLimit = false from free]
    cases s.asserted .gateClosedLimit <;> rfl
  | toClose =>
    rw [show s.asserted .gateClosedLimit = false from free]
    cases s.asserted .gateOpenLimit <;> rfl

theorem gateClears_cleared {s : State}
    (apart : ¬ (s.asserted .gateOpenLimit = true ∧ s.asserted .gateClosedLimit = true)) : GateCleared s (gateClears s) := by
  have sound := gateFromLimits_apart apart
  cases target : s.tank.target with
  | none => exact .of_rests sound fun d some_ => by rw [target] at some_; cases some_
  | some d =>
    cases limit : s.asserted d.limit with
    | true =>
      refine .of_rests sound fun e same => ?_
      obtain rfl := Option.some.inj (target.symm.trans same)
      exact gateFromLimits_atLimit apart limit
    | false => exact .of_travels sound target limit

theorem gateClears_faults {s : State} (opened : s.asserted .gateOpenLimit = true)
    (closed : s.asserted .gateClosedLimit = true) : gateClears s = gateFaults s := by
  have limits : gateFromLimits s = .fault := by rw [gateFromLimits, opened, closed]
  unfold gateClears
  rw [limits]

theorem clearFaultGate_clears {s : State} (run : s.inRun = true) (fault : s.tank.gate = some .fault) :
    exec .clearFaultGate s = .next (holding (responseFrame 20 .done []) (afterGate s (gateClears s))) := by
  have taken : reqClearFaultGate s = doneWith (afterGate s (gateClears s)) := (inRunOnly_run run _).trans (if_pos fault)
  show Host.Outcome.next (answer 20 (reqClearFaultGate s)) = _
  rw [taken]; rfl

theorem clearFaultGate_refuses {s : State} (run : s.inRun = true) (sound : s.tank.gate ≠ some .fault) :
    exec .clearFaultGate s = .next (onlyAnswered 20 .refused [] s) := by
  have turned : reqClearFaultGate s = turnedAway .refused s := (inRunOnly_run run _).trans (if_neg sound)
  show Host.Outcome.next (answer 20 (reqClearFaultGate s)) = _
  rw [turned]; rfl

/-! ### The pump -/

theorem clearFaultPump_clears {s : State} (run : s.inRun = true) (fault : s.drain.pump = some .fault)
    (still : s.asserted .pumpRunning = false) :
    exec .clearFaultPump s = .next (holding (responseFrame 20 .done []) (pumpChanges s (pumpStops s))) := by
  have taken : reqClearFaultPump s = doneWith (pumpClears s) :=
    (inRunOnly_run run _).trans (if_pos ⟨fault, by rw [still]; decide⟩)
  show Host.Outcome.next (answer 20 (reqClearFaultPump s)) = _
  rw [taken]; rfl

theorem clearFaultPump_refuses {s : State} (run : s.inRun = true)
    (h : ¬ (s.drain.pump = some .fault ∧ s.asserted .pumpRunning = false)) :
    exec .clearFaultPump s = .next (onlyAnswered 20 .refused [] s) := by
  have turned : reqClearFaultPump s = turnedAway .refused s :=
    (inRunOnly_run run _).trans (if_neg fun may => h ⟨may.1, by simpa using may.2⟩)
  show Host.Outcome.next (answer 20 (reqClearFaultPump s)) = _
  rw [turned]; rfl

/-- R157 a: a pump that is STOPPED and rests, with the claim formed anew and an open command that waited for it given. -/
theorem pumpClears_rests {s t : State} (fault : s.drain.pump = some .fault) (ht : t = pumpChanges s (pumpStops s)) :
    t.drain.pump = some .stopped ∧ t.drain.restElapsed = false ∧
    t.drain.restTimer = some (s.elapsed + 1000 * s.cfg.pumpRest) ∧ t.drain.mode = s.drain.mode ∧
    claimReformed s t ∧ deferralEnds s t ∧ outsideTank t = outsideTank s := by
  have idle : PumpIdle (pumpStops s) := .inr ⟨rfl, rfl⟩
  have kept := pumpChanges_idle (s := s) idle
  have moved : PumpMoved s (pumpStops s) := (pumpRecognised_self s).moved rfl rfl rfl rfl rfl rfl
  have rest : (pumpStops s).drain.restTimer = some (s.elapsed + 1000 * s.cfg.pumpRest) := by rw [Nat.mul_comm]; rfl
  have changed : s.drain.pump ≠ (pumpStops s).drain.pump := by
    rw [fault]
    exact fun same => absurd (Option.some.inj same) (by decide)
  subst ht
  exact ⟨kept.pump, kept.restElapsed, kept.restTimer.trans rest, (pumpChanges_onward s (pumpStops s)).mode,
    moved.reformed s, moved.defers idle changed, pumpClears_tank s⟩

/-- Settles O26: the gate leaves FAULT by its limits and its target (`gateClears_cleared`) into another state, which the tank
evaluates, or is in FAULT anew (`gateClears_faults`); the pump comes to rest (`pumpClears_rests`). -/
theorem clearFaultClears : Obligations.ClearFaultClears := by
  refine fun s run => ⟨fun sound => ⟨_, clearFaultGate_refuses run sound, rfl⟩, fun fault opened closed =>
    ⟨_, clearFaultGate_clears run fault, ?_⟩, fun fault apart => ⟨_, clearFaultGate_clears run fault, ?_⟩,
    fun h => ⟨_, clearFaultPump_refuses run h, rfl⟩, fun fault still => ⟨_, clearFaultPump_clears run fault still, ?_⟩⟩
  · have faults : afterGate s (gateClears s) = gateFaults s := by
      rw [gateClears_faults opened closed]; exact if_pos fault
    rw [faults]
    exact ⟨rfl, rfl, rfl, rfl, rfl, rfl⟩
  · have cleared := gateClears_cleared apart
    have evaluates : afterGate s (gateClears s) = tankEvaluate false (gateClears s) :=
      afterGate_evaluates (by rw [fault]; exact cleared.sound.symm)
    rw [evaluates]
    exact ⟨rfl, gateClears s, rfl, cleared.gate, cleared.retries, cleared.travels, cleared.frame⟩
  · obtain ⟨pump, rested, timer, mode, claim, deferral, outside⟩ := pumpClears_rests fault rfl
    exact ⟨rfl, pump, rested, timer, mode, claim, deferral, outsideTank_holding _ outside⟩

end Sys2Proof.Machine
end

section
/-! SUPPORT. The end of the release timer (O44): the tank leaves ADMITTING, and with the admission condition A false no evaluation
brings it back. -/

namespace Sys2Proof.Machine

/-! ### The end of ADMITTING -/

/-- The tank out of ADMITTING with condition A false: no release timer, nothing deferred, and DRY only where it is empty. -/
structure Released (s : State) : Prop where
  shut : admitCondition s = false
  state : s.tank.state ∈ [.holding, .dry, .draining]
  timer : s.tank.releaseTimer = none
  deferred : s.tank.openDeferred = false
  dry : s.tank.state = .dry → s.tank.volume ≤ s.cfg.emptyVolume

theorem volume_of_measured {s t : State} (h : measured t = measured s) :
    t.tank.volume = s.tank.volume ∧ t.tank.fill = s.tank.fill :=
  ⟨congrArg (fun u => u.tank.volume) h, congrArg (fun u => u.tank.fill) h⟩

/-- R89, R91, R92: with the admission condition A false a transition leads to another state than ADMITTING, and to DRY only where the
volume is at or below EMPTY_VOLUME. -/
theorem tankDecides_shut {b : Bool} {s : State} {t : TankState} (shut : admitCondition s = false)
    (h : tankDecides false b s = some t) :
    t ∈ [.holding, .dry, .draining] ∧ (t = .dry → s.tank.volume ≤ s.cfg.emptyVolume) := by
  unfold tankDecides at h
  rw [shut] at h
  simp only [Bool.false_and, Bool.false_eq_true, if_false] at h
  split at h
  · cases h
  · cases h
  · cases h
  all_goals
    split_ifs at h with empty
    · cases h; exact ⟨by simp, fun _ => empty⟩
    · cases h; exact ⟨by simp, nofun⟩

theorem tankEnters_leaves (t : TankState) (s : State) : (tankEnters t s).tank.state = t ∧
    (tankEnters t s).tank.releaseTimer = none ∧
    (tankEnters t s).tank.openDeferred = (decide (t = .admitting) && pumpMayDraw s) := by
  obtain ⟨_, _, _, state, timer, deferred⟩ := tankMoves_moves t s
  obtain ⟨_, _, _, tank, _⟩ := outsideDrain_fields (drainTakesTankState_outside (tankMoves t s))
  rw [tankEnters_eq, tank]
  exact ⟨state, timer, deferred⟩

/-- An entry to a state other than ADMITTING. -/
theorem tankEnters_released {s : State} {t : TankState} (shut : admitCondition s = false)
    (state : t ∈ [.holding, .dry, .draining]) (dry : t = .dry → s.tank.volume ≤ s.cfg.emptyVolume) :
    Released (tankEnters t s) := by
  obtain ⟨entered, timer, deferred⟩ := tankEnters_leaves t s
  have other : t ≠ .admitting := by rintro rfl; simp at state
  refine ⟨(admitCondition_of_tank (tankEnters_tank t s)).trans shut, by rw [entered]; exact state, timer, ?_, fun empty => ?_⟩
  · rw [deferred, decide_eq_false other, Bool.false_and]
  · rw [(volume_of_measured (tankEnters_measured t s)).1, (standing_cfg_of_tank (tankEnters_tank t s)).2]
    exact dry (entered ▸ empty)

theorem tankEvaluate_released {s : State} (h : Released s) : Released (tankEvaluate false s) := by
  have enters : ∀ b s t, tankDecides false b s = some t → Released s → Released (tankEnters t s) := fun b s t decides h =>
    tankEnters_released h.shut (tankDecides_shut h.shut decides).1 (tankDecides_shut h.shut decides).2
  exact tankCascade_rel (R := fun s t => Released s → Released t) (fun _ => id) (fun _ _ _ h k => k ∘ h) enters 6 false s h

/-- R90: the tank leaves ADMITTING for HOLDING, evaluated where something else has changed by it. -/
structure ReleaseEnds (s v t : State) : Prop where
  entered : v = tankEnters .holding s
  evaluated : t = v ∨ t = tankEvaluate false v

theorem releaseTimerExpiry_ends {s : State} {x : Nat} (timer : s.tank.releaseTimer = some x) (due : x ≤ s.elapsed)
    (admitting : s.tank.state = .admitting) : exec .releaseTimerExpiry s = .next (releaseExpires s) ∧
    ReleaseEnds s (tankEnters .holding s) (releaseExpires s) := by
  have ready : s.due s.tank.releaseTimer = true := by rw [timer]; exact due_some due
  refine ⟨congrArg _ (if_pos ready), rfl, ?_⟩
  unfold releaseExpires
  rw [if_pos admitting]
  dsimp only
  split
  · exact .inr rfl
  · exact .inl rfl

theorem ReleaseEnds.released {s v t : State} (h : ReleaseEnds s v t) (shut : admitCondition s = false) : Released t := by
  obtain ⟨rfl, rfl | rfl⟩ := h
  · exact tankEnters_released shut (by decide) nofun
  · exact tankEvaluate_released (tankEnters_released shut (by decide) nofun)

theorem ReleaseEnds.measured {s v t : State} (h : ReleaseEnds s v t) : measured t = Machine.measured s := by
  obtain ⟨rfl, rfl | rfl⟩ := h
  · exact tankEnters_measured .holding s
  · exact (tankEvaluate_measured false _).trans (tankEnters_measured .holding s)

theorem ReleaseEnds.outside {s v t : State} (h : ReleaseEnds s v t) : outsideTank t = outsideTank s := by
  obtain ⟨rfl, rfl | rfl⟩ := h
  · exact tankEnters_tank .holding s
  · exact (tankEvaluate_tank false _).trans (tankEnters_tank .holding s)

/-- The tank in HOLDING before its target is derived anew (R87). -/
def heldBack (s : State) : State :=
  { s with tank := { s.tank with state := .holding, releaseTimer := none, openDeferred := false } }

theorem heldBack_on (s : State) : (heldBack s).tank.state ≠ .off := show TankState.holding ≠ .off by decide

/-- R87, R94: the entry to HOLDING as the gate sees it. -/
theorem tankEnters_holding_gate (s : State) :
    (tankEnters .holding s).tank = (retarget (heldBack s)).tank ∧
    gatePart (tankEnters .holding s) = gatePart (retarget (heldBack s)) := by
  have outside : outsideDrain (tankEnters .holding s) = outsideDrain (retarget (heldBack s)) := by
    rw [tankEnters_eq]; exact drainTakesTankState_outside _
  obtain ⟨_, _, _, tank, _⟩ := outsideDrain_fields outside
  exact ⟨tank, gatePart_of_drain outside⟩

theorem ReleaseEnds.steers {s v t : State} (h : ReleaseEnds s v t) : Steered v ∧ Steers v t := by
  have steered : Steered v := by
    rw [h.entered]
    exact (retarget_steered (heldBack_on s)).of_tank (tankEnters_holding_gate s).1
  refine ⟨steered, ?_⟩
  rcases h.evaluated with rfl | rfl
  · exact .refl steered
  · exact tankEvaluate_steers steered

theorem ReleaseEnds.mode {s v t : State} (h : ReleaseEnds s v t) : t.tank.mode = s.tank.mode := by
  obtain ⟨_, _, _, _, _, _, _, _, _, _, mode, _⟩ := outsideGate_fields (retarget_gate (heldBack s))
  rw [h.steers.2.mode, h.entered, (tankEnters_holding_gate s).1, mode]
  rfl

/-- R87, R94: under AUTO the gate is to close. -/
theorem ReleaseEnds.target {s v t : State} (h : ReleaseEnds s v t) (shut : admitCondition s = false)
    (auto : s.tank.mode = .auto) : v.tank.target = some .toClose ∧ t.tank.target = some .toClose := by
  have closes : ∀ u : State, Steered u → u.tank.state ≠ .admitting → u.tank.mode = .auto →
      u.tank.target = some .toClose := fun u steered state mode => by
    rw [steered.target, targetAtEntry_closed state, mode]; rfl
  obtain ⟨steered, steers⟩ := h.steers
  have state : t.tank.state ≠ .admitting := fun same => by
    have := (h.released shut).state
    rw [same] at this
    simp at this
  refine ⟨closes v steered ?_ ?_, closes t steers.steered state (h.mode.trans auto)⟩
  · rw [h.entered, (tankEnters_leaves .holding s).1]; decide
  · rw [← steers.mode, h.mode, auto]

/-- R94, R95: a gate that was OPEN begins to close. -/
theorem ReleaseEnds.closes {s v t : State} (h : ReleaseEnds s v t) (shut : admitCondition s = false)
    (auto : s.tank.mode = .auto) (before : s.tank.target = some .toOpen) (opened : s.tank.gate = some .opened)
    (free : s.asserted .gateClosedLimit = false) :
    gatePart t = (some .closing, some .toClose, some (s.elapsed + 1000 * s.cfg.gateTravel), 0, .driveClose) := by
  obtain ⟨target, target'⟩ := h.target shut auto
  have entry : targetAtEntry (heldBack s) = .toClose := by unfold targetAtEntry heldBack; dsimp only; rw [auto]; rfl
  have acts : retarget (heldBack s) = gateActsOn .toClose (targeted .toClose (heldBack s)) := by
    have moved := retarget_acts (heldBack_on s)
    rw [entry] at moved
    exact moved (by rw [show (heldBack s).tank.target = _ from before]; decide)
  have travels := (gateActsOn_acts .toClose (targeted .toClose (heldBack s))).travels (.inl opened) free
  rw [h.steers.2.gate (target'.trans target.symm), h.entered, (tankEnters_holding_gate s).2, acts]
  exact travels

end Sys2Proof.Machine
end

section
/-! SUPPORT. A sample in ADMITTING: which events leave the tank there and its release timer as it runs (`AdmittingStays`,
`AdmittingKept`), and the timer after both of a sample's events (O44). -/

namespace Sys2Proof.Machine

/-! ### ADMITTING and its release timer -/

/-- A tank in ADMITTING stays there with its release timer, and the branch alert stays. -/
structure AdmittingStays (s t : State) : Prop where
  branch : t.rain.branch = s.rain.branch
  stays : s.tank.state = .admitting → t.tank.state = .admitting ∧ t.tank.releaseTimer = s.tank.releaseTimer

/-- A tank in ADMITTING stays there, and with the branch alert kept its release timer stays. -/
structure AdmittingKept (s t : State) : Prop where
  state : s.tank.state = .admitting → t.tank.state = .admitting
  timer : s.tank.state = .admitting → t.rain.branch = s.rain.branch → t.tank.releaseTimer = s.tank.releaseTimer

theorem AdmittingStays.of_same {s t : State} (branch : t.rain.branch = s.rain.branch)
    (tank : t.tank.state = s.tank.state ∧ t.tank.releaseTimer = s.tank.releaseTimer) : AdmittingStays s t :=
  ⟨branch, fun admitting => ⟨tank.1.trans admitting, tank.2⟩⟩

theorem AdmittingStays.kept {s t : State} (h : AdmittingStays s t) : AdmittingKept s t :=
  ⟨fun a => (h.stays a).1, fun a _ => (h.stays a).2⟩

theorem AdmittingStays.before {s t u : State} (h : AdmittingStays s t) (k : AdmittingKept t u) : AdmittingKept s u :=
  ⟨fun a => k.state (h.stays a).1, fun a same =>
    (k.timer (h.stays a).1 (same.trans h.branch.symm)).trans (h.stays a).2⟩

theorem AdmittingKept.before_stays {s t u : State} (h : AdmittingKept s t) (k : AdmittingStays t u) : AdmittingKept s u :=
  ⟨fun a => (k.stays (h.state a)).1, fun a same =>
    (k.stays (h.state a)).2.trans (h.timer a (k.branch.symm.trans same))⟩

theorem AdmittingStays.of_counter {s t : State} (h : outsideCounter t = outsideCounter s) : AdmittingStays s t := by
  obtain ⟨_, _, _, _, _, tank, _, rain, _⟩ := outsideCounter_fields h
  exact .of_same (by rw [rain]) (by rw [tank]; exact ⟨rfl, rfl⟩)

/-- R90, R159: the Drain Controller's notice may release the open command, and no more. -/
theorem drainTakesNotice_admitting (s : State) : AdmittingStays s (drainTakesNotice s) := by
  obtain ⟨_, _, _, _, rain, _⟩ := outsideTank_fields (drainTakesNotice_tank s)
  obtain ⟨_, _, _, tank, _⟩ := outsideDrain_fields (reformClaim_outside s)
  refine ⟨by rw [rain], fun admitting => ?_⟩
  unfold drainTakesNotice afterDrain
  split
  · obtain ⟨_, _, state, timer, _⟩ := releaseDeferred_leaves (reformClaim s)
    rw [tank] at state timer
    have still : tankTakesDrainNotice (reformClaim s) = releaseDeferred (reformClaim s) :=
      tankCascade_admitting (state.trans admitting) _ _ _
    rw [still]
    exact ⟨state.trans admitting, timer⟩
  · rw [tank]; exact ⟨admitting, rfl⟩

/-- R134: a changed branch alert leaves the tank in ADMITTING; one that stays has sent no notice. -/
theorem formBranchAlert_admitting (s : State) : AdmittingKept s (formBranchAlert s) := by
  by_cases same : highestAlert s = s.rain.branch
  · rw [formBranchAlert_same same]
    exact ⟨id, fun _ _ => rfl⟩
  · have changed : (formBranchAlert s).rain.branch ≠ s.rain.branch := by rw [formBranchAlert_rain]; exact same
    obtain ⟨_, _, stays, _⟩ := formBranchAlert_notified s changed
    exact ⟨fun a => (stays a).1, fun _ kept => absurd kept changed⟩

theorem evaluateAlert_admitting (s : State) : AdmittingKept s (evaluateAlert s) := by
  have queued : ∀ u : State, AdmittingStays u (queueRain u) := fun u => by
    unfold queueRain
    rw [queueBody_sets]
    exact .of_same rfl ⟨rfl, rfl⟩
  unfold evaluateAlert; dsimp only; split
  · unfold alertRises
    have risen : AdmittingStays s { evaluateConditions s with
        rain.own := (evaluateConditions s).rain.targetLevel, rain.lastRise := some s.elapsed, rain.hold := none } :=
      .of_same rfl ⟨rfl, rfl⟩
    exact risen.before ((queued _).before (formBranchAlert_admitting _))
  · unfold updateHold
    split_ifs
    all_goals exact AdmittingStays.kept (.of_same rfl ⟨rfl, rfl⟩)

theorem notifySpill_admitting (s : State) : AdmittingKept s (notifySpill s) := by
  have counted : AdmittingStays s (evaluateLamp (counterTakesSpillState s)) := by
    obtain ⟨_, _, _, _, _, tank, _, rain, _⟩ := outsideCounter_fields (counterTakesSpillState_counter s)
    exact .of_same (congrArg Rain.branch rain) ⟨congrArg Tank.state tank, congrArg Tank.releaseTimer tank⟩
  have ordered : AdmittingStays (evaluateLamp (counterTakesSpillState s)) { evaluateLamp (counterTakesSpillState s) with
      free.orders := (evaluateLamp (counterTakesSpillState s)).free.orders + 1 } := .of_same rfl ⟨rfl, rfl⟩
  refine counted.before (ordered.before ?_)
  unfold notifySpill
  rcases inEitherOrder_cases drainTakesNotice evaluateAlert (evaluateLamp (counterTakesSpillState s)) with h | h
  · rw [h]; exact (drainTakesNotice_admitting _).before (evaluateAlert_admitting _)
  · rw [h]; exact (evaluateAlert_admitting _).before_stays (drainTakesNotice_admitting _)

theorem spillEvaluates_admitting (c : Stamped) (s : State) : AdmittingKept s (spillEvaluates c s) := by
  have changed : ∀ p, AdmittingKept s (notifySpill { s with spill := p }) := fun p =>
    AdmittingStays.before (t := { s with spill := p }) (.of_same rfl ⟨rfl, rfl⟩) (notifySpill_admitting _)
  unfold spillEvaluates enterOnset lapseSpell enterSubsiding resumeSpilling
  split
  case h_5 => exact ⟨id, fun _ _ => rfl⟩
  all_goals exact changed _

theorem takeSpillSample_admitting (a : SpillState) (n : Nat) (s : State) : AdmittingStays s (takeSpillSample a n s) := by
  have counted : ∀ (x : SampleNotice) (u : State), u.tank = s.tank → u.rain = s.rain →
      AdmittingStays s (counterTakesSample x u) := fun x u tank rain => by
    have h := AdmittingStays.of_counter (counterTakesSample_counter x u)
    exact ⟨by rw [h.branch, rain], by rw [← tank]; exact h.stays⟩
  unfold takeSpillSample; dsimp only; split_ifs
  · exact .of_same rfl ⟨rfl, rfl⟩
  all_goals exact counted _ _ rfl rfl

/-- R108, R117: the Spill Monitor's event. -/
theorem sampleOverflow_admitting (c : GaugeCounts) (s : State) : AdmittingKept s (sampleOverflow c s) := by
  obtain ⟨p, _, sets⟩ := overflowMeasured_sets c s
  have head : AdmittingStays s (overflowMeasured c s) := by rw [sets]; exact .of_same rfl ⟨rfl, rfl⟩
  rw [sampleOverflow_eq]
  exact (head.before (spillEvaluates_admitting _ _)).before_stays (takeSpillSample_admitting ..)

/-! ### The tank's event -/

/-- R82, R83: in ADMITTING neither notice of a sample goes beyond the release timer that the sample has set. -/
theorem tankTakesSample_admitting {s : State} (admitting : s.tank.state = .admitting) (f : Bool) :
    AdmittingStays (updateRelease (measureVolume s)) (tankTakesSample f s) := by
  obtain ⟨v, hv⟩ : ∃ v, v = updateRelease (measureVolume s) := ⟨_, rfl⟩
  have admits : v.tank.state = .admitting := by
    rw [hv, (updateRelease_leaves _).2]
    unfold measureVolume
    split <;> exact admitting
  have same : ∀ x : State, x.tank.state = .admitting → tankEvaluate true x = x := fun x h => tankCascade_admitting h _ _ _
  unfold tankTakesSample
  dsimp only
  rw [← hv]
  split
  · obtain ⟨branch, stays⟩ := drainTakesNotice_admitting { v with free.orders := v.free.orders + 1 }
    have told : inEitherOrder drainTakesNotice (tankEvaluate true) v =
        drainTakesNotice { v with free.orders := v.free.orders + 1 } := by
      rcases inEitherOrder_cases drainTakesNotice (tankEvaluate true) v with h | h
      · rw [h]; exact same _ (stays admits).1
      · rw [h, same { v with free.orders := v.free.orders + 1 } admits]
    rw [told]
    exact ⟨branch, stays⟩
  · rw [same v admits]
    exact .of_same rfl ⟨rfl, rfl⟩

/-- R85: the tank's event in ADMITTING sets the release timer by the sample of SEWER. -/
theorem sampleTank_releases {s : State} (c : GaugeCounts) (admitting : s.tank.state = .admitting) :
    (sampleTank c s).tank.state = .admitting ∧ (sampleTank c s).rain.branch = s.rain.branch ∧
    releaseFollows s (sampleTank c s) := by
  obtain ⟨p, committed, sets⟩ := tankConverted_sets c s
  have converted : (tankConverted c s).tank.state = .admitting := by rw [sets]; exact admitting
  obtain ⟨u, hu⟩ : ∃ u, u = measureVolume (tankConverted c s) := ⟨_, rfl⟩
  have found : u.tank.state = s.tank.state ∧ u.tank.releaseTimer = s.tank.releaseTimer ∧ u.elapsed = s.elapsed ∧
      u.cfg = s.cfg ∧ u.rain = s.rain := by
    rw [hu]
    unfold measureVolume
    split <;> (rw [sets]; exact ⟨rfl, rfl, rfl, committed, rfl⟩)
  obtain ⟨state, timer, elapsed, cfg, rain⟩ := found
  have follows := (tankTakesAlert_admitting (state.trans admitting)).2
  have stays : AdmittingStays (updateRelease u) (sampleTank c s) := by
    rw [hu]; exact tankTakesSample_admitting converted (!s.tankGauge.usable)
  have released : (updateRelease u).tank.state = .admitting := by
    rw [(updateRelease_leaves u).2]; exact state.trans admitting
  obtain ⟨state', timer'⟩ := stays.stays released
  have outside : outsideTank (sampleTank c s) = outsideTank (updateRelease u) := by
    rw [sampleTank_outside, updateRelease_tank, hu, measureVolume_tank]
  obtain ⟨_, sewer, cfg', rain'⟩ := sewer_of_tank outside
  obtain ⟨_, _, _, kept⟩ := sewer_of_tank (updateRelease_tank u)
  exact ⟨state', by rw [rain', kept, rain],
    releaseFollows_congr follows timer.symm elapsed.symm cfg.symm timer' sewer cfg' (by rw [rain'])⟩

/-- What the tank's event and `releaseFollows` read, the Spill Monitor's event leaves. -/
theorem sampleOverflow_leaves (c : GaugeCounts) (s : State) : (sampleOverflow c s).sewer = s.sewer ∧
    (sampleOverflow c s).cfg = s.cfg ∧ (sampleOverflow c s).elapsed = s.elapsed := by
  have same : ∀ {α : Type} (f : State → α), f (tankView (sampleOverflow c s)) = f (tankView s) :=
    fun f => congrArg f (sampleOverflow_tank c s)
  exact ⟨same State.sewer, same State.cfg, same State.elapsed⟩

/-- R85: a sample in ADMITTING, the tank's event first. -/
theorem tankThenOverflow_releases {s t : State} {c : GaugeCounts} (admitting : s.tank.state = .admitting)
    (ht : t = sampleOverflow c (sampleTank c s)) :
    t.tank.state = .admitting ∧ (t.rain.branch = s.rain.branch → releaseFollows s t) := by
  obtain ⟨state, branch, follows⟩ := sampleTank_releases c admitting
  have kept := sampleOverflow_admitting c (sampleTank c s)
  obtain ⟨sewer, cfg, _⟩ := sampleOverflow_leaves c (sampleTank c s)
  rw [← ht] at kept sewer cfg
  refine ⟨kept.state state, fun same => ?_⟩
  have same' := same.trans branch.symm
  exact releaseFollows_congr follows rfl rfl rfl (kept.timer state same') sewer cfg same'

/-- R85: a sample in ADMITTING, the Spill Monitor's event first. -/
theorem overflowThenTank_releases {s t : State} {c : GaugeCounts} (admitting : s.tank.state = .admitting)
    (ht : t = sampleTank c (sampleOverflow c s)) :
    t.tank.state = .admitting ∧ (t.rain.branch = s.rain.branch → releaseFollows s t) := by
  have kept := sampleOverflow_admitting c s
  obtain ⟨state, branch, follows⟩ := sampleTank_releases c (kept.state admitting)
  obtain ⟨_, cfg, elapsed⟩ := sampleOverflow_leaves c s
  rw [← ht] at state branch follows
  refine ⟨state, fun same => ?_⟩
  have timer := kept.timer admitting (branch.symm.trans same)
  exact releaseFollows_congr follows timer.symm elapsed.symm cfg.symm rfl rfl rfl rfl

/-- R66, R69: its two events in either order. -/
theorem takeSample_releases {s : State} (c : GaugeCounts) (admitting : s.tank.state = .admitting) :
    (takeSample c s).tank.state = .admitting ∧
    ((takeSample c s).rain.branch = s.rain.branch → releaseFollows s (takeSample c s)) := by
  unfold takeSample
  rcases inEitherOrder_cases (sampleTank c) (sampleOverflow c)
    { s with input.nextSample := some (s.elapsed + seconds s.cfg.samplePeriod) } with h | h
  · exact tankThenOverflow_releases (s := { s with
      input.nextSample := some (s.elapsed + seconds s.cfg.samplePeriod), free.orders := s.free.orders + 1 }) admitting h
  · exact overflowThenTank_releases (s := { s with
      input.nextSample := some (s.elapsed + seconds s.cfg.samplePeriod), free.orders := s.free.orders + 1 }) admitting h

theorem sample_acts {s : State} {x : Nat} (next : s.input.nextSample = some x) (due : x ≤ s.elapsed) (counts : GaugeCounts) :
    exec (.sample counts) s = .next (takeSample counts s) := by
  have ready : s.due s.input.nextSample = true := by rw [next]; exact due_some due
  exact congrArg _ (if_pos ready)

/-- Settles O44: a sample sets the timer by the tank's event alone (`takeSample_releases`); at its end the tank leaves ADMITTING
(`ReleaseEnds.released`), under AUTO with its gate to close (`ReleaseEnds.target`, `ReleaseEnds.closes`). -/
theorem releaseTimerEndsAdmitting : Obligations.ReleaseTimerEndsAdmitting := by
  refine ⟨fun s x counts next due admitting => ⟨_, sample_acts next due counts, takeSample_releases counts admitting⟩,
    fun s x timer due admitting low => ?_⟩
  have shut : admitCondition s = false := Bool.eq_false_iff.mpr (mt admitCondition_iff.mp low)
  obtain ⟨expires, ends⟩ := releaseTimerExpiry_ends timer due admitting
  refine ⟨_, expires, ?_⟩
  obtain ⟨_, state, timer', deferred, dry⟩ := ends.released shut
  obtain ⟨volume, fill⟩ := volume_of_measured ends.measured
  rw [volume, (standing_cfg_of_tank ends.outside).2] at dry
  refine ⟨state, timer', deferred, dry, fun auto => (ends.target shut auto).2, fun auto before opened free => ?_, volume,
    fill, ends.mode, ends.outside⟩
  obtain ⟨gate, dir, timer'', retries, drive⟩ := gatePart_eq.mp (ends.closes shut auto before opened free)
  exact ⟨gate, dir, drive, timer'', retries⟩

end Sys2Proof.Machine
end

section
/-! SUPPORT. The pump's start, its stop command and the setpoint's following of the share as equations (R150 to R153), the
tank's decision by its three conditions (R84, R86, R92), and the transitions out of DRAINING and into ADMITTING (O43). -/

namespace Sys2Proof.Machine

/-! ### The pump -/

theorem driven_iff {s : State} : s.drain.pump ∈ [some .starting, some .running] ↔
    s.drain.pump = some .starting ∨ s.drain.pump = some .running := by
  simp

theorem pumpStart_eq {s : State} (stopped : s.drain.pump = some .stopped) (share : s.cfg.pumpMin ≤ s.drain.share)
    (some_ : 0 < s.drain.share) : pumpStart s = { s with
      drain := { s.drain with
        pump := some .starting, setpoint := s.drain.share, lastNonzero := some s.drain.share
        pumpTimer := some (s.elapsed + 1000 * s.cfg.pumpStartTimeout) }
      input.pumpRun := true, input.pumpRate := s.drain.share * 1000 / s.cfg.pumpMax } := by
  unfold pumpStart setSetpoint
  rw [if_pos ⟨stopped, share⟩, if_neg (Nat.pos_iff_ne_zero.mp some_), Nat.mul_comm 1000]
  rfl

theorem pumpStart_same {s : State} (h : s.drain.pump ≠ some .stopped ∨ s.drain.share < s.cfg.pumpMin) : pumpStart s = s :=
  if_neg fun may => h.elim (fun moving => moving may.1) (Nat.not_lt.mpr may.2)

theorem commandStop_driven {s : State} (driven : s.drain.pump = some .starting ∨ s.drain.pump = some .running) :
    commandStop s = { s with
      drain := { s.drain with
        pump := some .stopping, setpoint := 0, pumpTimer := some (s.elapsed + 1000 * s.cfg.pumpStopTimeout) }
      input.pumpRun := false, input.pumpRate := 0 } := by
  unfold commandStop setSetpoint
  rw [if_pos driven, Nat.mul_comm 1000]
  dsimp only
  rw [Nat.zero_mul, Nat.zero_div]
  rfl

theorem commandStop_undriven {s : State} (still : ¬ (s.drain.pump = some .starting ∨ s.drain.pump = some .running)) :
    commandStop s = { s with drain.setpoint := 0, input.pumpRate := 0 } := by
  unfold commandStop setSetpoint
  rw [if_neg still]
  dsimp only
  rw [Nat.zero_mul, Nat.zero_div]
  rfl

theorem followShare_low {s : State} (draining : s.tank.state = .draining)
    (driven : s.drain.pump = some .starting ∨ s.drain.pump = some .running) (low : s.drain.share < s.cfg.pumpMin) :
    followShare s = commandStop s := by
  rw [followShare, if_pos ⟨draining, driven⟩, if_pos low]

/-- R150 b: down at once, and up by SETPOINT_DEADBAND. -/
theorem followShare_follows {s : State} (draining : s.tank.state = .draining)
    (driven : s.drain.pump = some .starting ∨ s.drain.pump = some .running) (share : s.cfg.pumpMin ≤ s.drain.share)
    (some_ : 0 < s.drain.share) : followShare s =
      if s.drain.share < s.drain.setpoint ∨ s.drain.setpoint + s.cfg.setpointDeadband ≤ s.drain.share then { s with
        drain := { s.drain with setpoint := s.drain.share, lastNonzero := some s.drain.share }
        input.pumpRate := s.drain.share * 1000 / s.cfg.pumpMax } else s := by
  have set : setSetpoint s.drain.share s = { s with
      drain := { s.drain with setpoint := s.drain.share, lastNonzero := some s.drain.share }
      input.pumpRate := s.drain.share * 1000 / s.cfg.pumpMax } := by
    rw [setSetpoint, if_neg (Nat.pos_iff_ne_zero.mp some_)]
  rw [followShare, if_pos ⟨draining, driven⟩, if_neg (Nat.not_lt.mpr share), ← set]
  by_cases down : s.drain.share < s.drain.setpoint
  · rw [if_pos down, if_pos (.inl down)]
  · rw [if_neg down]
    by_cases up : s.drain.setpoint + s.cfg.setpointDeadband ≤ s.drain.share
    · rw [if_pos up, if_pos (.inr up)]
    · rw [if_neg up, if_neg (not_or.mpr ⟨down, up⟩)]

theorem followShare_same {s : State}
    (h : s.tank.state ≠ .draining ∨ ¬ (s.drain.pump = some .starting ∨ s.drain.pump = some .running)) : followShare s = s :=
  if_neg fun follows => h.elim (fun other => other follows.1) fun still => still follows.2

/-- What of the pump a notice may set: its state, setpoint, timer, last nonzero setpoint and drives. -/
def pumpPart (s : State) : Option PumpState × Nat × Option Nat × Option Nat × Bool × Nat :=
  (s.drain.pump, s.drain.setpoint, s.drain.pumpTimer, s.drain.lastNonzero, s.input.pumpRun, s.input.pumpRate)

theorem pumpPart_eq {s : State} {p : Option PumpState} {n : Nat} {x y : Option Nat} {run : Bool} {rate : Nat} :
    pumpPart s = (p, n, x, y, run, rate) ↔ s.drain.pump = p ∧ s.drain.setpoint = n ∧ s.drain.pumpTimer = x ∧
      s.drain.lastNonzero = y ∧ s.input.pumpRun = run ∧ s.input.pumpRate = rate := by
  simp only [pumpPart, Prod.mk.injEq]

theorem formClaim_pumpPart (s : State) : pumpPart (formClaim s) = pumpPart s := by
  have input : (formClaim s).input = s.input := by
    unfold formClaim queueClaim
    dsimp only
    split
    · rw [queueBody_input]
    · rfl
  unfold pumpPart
  rw [formClaim_drain, input]

theorem runShare_pumpPart (s : State) : pumpPart (runShare s) = pumpPart s := rfl

/-- R139, log 35: beyond the claim and the CLAIM queued, a run of the computation leaves what the setpoint's following does. -/
theorem shareAndSetpoint_follows (s : State) : pumpPart (shareAndSetpoint s) = pumpPart (followShare (runShare s)) := by
  unfold shareAndSetpoint
  dsimp only
  split
  · rfl
  · exact formClaim_pumpPart _

/-- R150 b: outside DRAINING no setpoint follows. -/
theorem shareAndSetpoint_still {s : State} (h : s.tank.state ≠ .draining) : shareAndSetpoint s = runShare s := by
  have still : followShare (runShare s) = runShare s := followShare_same (.inl h)
  unfold shareAndSetpoint
  dsimp only
  rw [still, if_pos ⟨rfl, rfl⟩]

theorem reformClaim_still {s : State} (h : s.tank.state ≠ .draining) : reformClaim s = runShare (formClaim s) := by
  obtain ⟨_, _, _, tank, _⟩ := outsideDrain_fields (formClaim_outside s)
  exact shareAndSetpoint_still (by rw [tank]; exact h)

/-! ### The conditions -/

theorem usable_failed {g : GaugeChannel} : ¬ g.usable = true ↔ g.status = .failed := by
  rw [usable_iff, not_not]

/-- R86. -/
theorem drainPermission_iff {s : State} : drainPermission s = true ↔
    s.tank.gate = some .closed ∧ s.sewer.status ≠ .failed ∧ s.sewer.level ≤ s.cfg.returnLevel ∧
    s.tankGauge.status ≠ .failed ∧ s.drain.pump = some .stopped ∧ s.drain.restElapsed = true ∧ s.drain.mode = .auto ∧
    s.cfg.pumpMin ≤ s.drain.share := by
  unfold drainPermission
  rw [decide_eq_true_iff, usable_iff, usable_iff]

/-- R92 c. -/
theorem drainBarred_iff {s : State} : drainBarred s = true ↔
    s.drain.share < s.cfg.pumpMin ∨ s.sewer.status = .failed ∨ s.cfg.returnLevel + s.cfg.returnHyst < s.sewer.level ∨
    s.tankGauge.status = .failed ∨ s.tank.gate ≠ some .closed ∨ s.drain.mode = .hold ∨ s.drain.pump = some .fault := by
  unfold drainBarred
  rw [decide_eq_true_iff, usable_failed, usable_failed]

/-- R89, R91, R92: the decision by the three conditions. -/
theorem tankDecides_by {s : State} {isSample left admits permit barred : Bool} (ha : admits = admitCondition s)
    (hp : permit = drainPermission s) (hb : barred = drainBarred s) :
    tankDecides isSample left s = match s.tank.state with
      | .off => none
      | .admitting => none
      | .dry => if admits then some .admitting
          else if isSample = true ∧ s.cfg.emptyVolume + lastY s.cfg.stage / 100 < s.tank.volume then some .holding else none
      | .holding => if admits then some .admitting
          else if s.tank.volume ≤ s.cfg.emptyVolume then some .dry
          else if permit = true ∧ left = false then some .draining else none
      | .draining => if admits then some .admitting
          else if s.tank.volume ≤ s.cfg.emptyVolume then some .dry
          else if barred then some .holding else none := by
  subst ha hp hb
  unfold tankDecides
  cases s.tank.state with
  | off => rfl
  | admitting => rfl
  | dry => simp only [Bool.and_eq_true, decide_eq_true_iff]
  | holding => simp only [Bool.and_eq_true, Bool.not_eq_true']
  | draining => rfl

/-! ### A single transition -/

/-- An evaluation whose transition calls for no other. -/
theorem tankCascade_once {n : Nat} {a b : Bool} {s : State} {t : TankState} (decides : tankDecides a b s = some t)
    (stays : tankDecides false (b || s.tank.state == .draining) (tankEnters t s) = none) :
    tankCascade (n + 1) a b s = tankEnters t s := by
  unfold tankCascade
  rw [decides]
  dsimp only
  split
  · exact tankCascade_stays stays n
  · rfl

theorem tankEvaluate_once {a : Bool} {s : State} {t : TankState} (decides : tankDecides a false s = some t)
    (stays : tankDecides false (s.tank.state == .draining) (tankEnters t s) = none) :
    tankEvaluate a s = tankEnters t s := by
  unfold tankEvaluate
  exact tankCascade_once (n := 5) decides (by rw [Bool.false_or]; exact stays)

/-- R84, R86, R92: what a decision reads beside the tank and the pump is not the tank's to change. -/
theorem tankEnters_admits (t : TankState) (s : State) : admitCondition (tankEnters t s) = admitCondition s :=
  admitCondition_of_tank (tankEnters_tank t s)

theorem tankEnters_volume (t : TankState) (s : State) :
    (tankEnters t s).tank.volume = s.tank.volume ∧ (tankEnters t s).cfg = s.cfg :=
  ⟨(volume_of_measured (tankEnters_measured t s)).1, (standing_cfg_of_tank (tankEnters_tank t s)).2⟩

theorem tankEnters_admitting_stays (a b : Bool) (s : State) : tankDecides a b (tankEnters .admitting s) = none := by
  rw [tankDecides, (tankEnters_state .admitting s).1]

/-- R92: a departure from DRAINING calls for no further transition, as the tank may not return within the event. -/
theorem tankDecides_left {a b : Bool} {s : State} {t : TankState} (draining : s.tank.state = .draining)
    (decides : tankDecides a b s = some t) : tankDecides false true (tankEnters t s) = none := by
  obtain ⟨state, _⟩ := tankEnters_state t s
  obtain ⟨volume, cfg⟩ := tankEnters_volume t s
  unfold tankDecides at decides ⊢
  rw [draining] at decides
  rw [state, tankEnters_admits, volume, cfg]
  dsimp only at decides
  split_ifs at decides with admits empty barred
  · cases decides; rfl
  · cases decides
    dsimp only
    rw [if_neg admits]
    rfl
  · cases decides
    dsimp only
    rw [if_neg admits, if_neg empty, Bool.not_true, Bool.and_false]
    rfl

/-- R150 c: a state other than DRAINING is entered with the stop command. -/
theorem tankEnters_stops {t : TankState} (other : t ≠ .draining) (s : State) :
    pumpPart (tankEnters t s) = pumpPart (commandStop (tankMoves t s)) := by
  obtain ⟨_, _, _, state, _⟩ := tankMoves_moves t s
  obtain ⟨_, _, _, tank, _⟩ := outsideDrain_fields (commandStop_outside (tankMoves t s))
  have entered : tankEnters t s = runShare (formClaim (commandStop (tankMoves t s))) := by
    rw [tankEnters_eq, drainTakesTankState, if_neg (by rw [state]; exact other)]
    exact reformClaim_still (by rw [tank, state]; exact other)
  rw [entered, runShare_pumpPart, formClaim_pumpPart]

/-- R152 c, R153 a: what the stop command makes of the pump, from the state before the transition. -/
theorem tankEnters_pump {t : TankState} (other : t ≠ .draining) (s : State) :
    (tankEnters t s).drain.setpoint = 0 ∧ (tankEnters t s).input.pumpRate = 0 ∧
    (s.drain.pump = some .starting ∨ s.drain.pump = some .running →
      (tankEnters t s).drain.pump = some .stopping ∧ (tankEnters t s).input.pumpRun = false ∧
      (tankEnters t s).drain.pumpTimer = some (s.elapsed + 1000 * s.cfg.pumpStopTimeout)) ∧
    (¬ (s.drain.pump = some .starting ∨ s.drain.pump = some .running) →
      (tankEnters t s).drain.pump = s.drain.pump ∧ (tankEnters t s).input.pumpRun = s.input.pumpRun ∧
      (tankEnters t s).drain.pumpTimer = s.drain.pumpTimer) := by
  obtain ⟨drain, _⟩ := tankMoves_moves t s
  obtain ⟨elapsed, _, cfg, _⟩ := sewer_of_tank (tankMoves_tank t s)
  have run := (tankMoves_idle t s).pumpRun
  have stops := tankEnters_stops other s
  by_cases driven : s.drain.pump = some .starting ∨ s.drain.pump = some .running
  · rw [commandStop_driven (by rw [drain]; exact driven), elapsed, cfg] at stops
    obtain ⟨pump, setpoint, timer, _, run', rate⟩ := pumpPart_eq.mp stops
    exact ⟨setpoint, rate, fun _ => ⟨pump, run', timer⟩, fun still => absurd driven still⟩
  · rw [commandStop_undriven (by rw [drain]; exact driven), drain] at stops
    obtain ⟨pump, setpoint, timer, _, run', rate⟩ := pumpPart_eq.mp stops
    exact ⟨setpoint, rate, fun driven' => absurd driven' driven, fun _ => ⟨pump, run'.trans run, timer⟩⟩

/-- R139 a: nothing is asked for in ADMITTING. -/
theorem requestedRate_admitting {s : State} (h : s.tank.state = .admitting) : requestedRate s = 0 := by
  unfold requestedRate
  rw [h]
  exact if_neg fun asks => absurd asks.1 (by decide)

theorem claimNow_requested (s : State) : (claimNow s).requested = requestedRate s := rfl

/-- R90, R139: an entry to ADMITTING ends the evaluation, with nothing drawn or asked for. -/
theorem tankEvaluate_admitting {a : Bool} {s : State} (decides : tankDecides a false s = some .admitting) :
    tankEvaluate a s = tankEnters .admitting s ∧ (tankEnters .admitting s).drain.claim.requested = 0 := by
  refine ⟨tankEvaluate_once decides (tankEnters_admitting_stays ..), ?_⟩
  have formed : (tankEnters .admitting s).drain.claim = claimNow (tankEnters .admitting s) := tankEnters_formed .admitting s
  rw [formed, claimNow_requested, requestedRate_admitting (tankEnters_state .admitting s).1]

/-- R92: a departure from DRAINING ends the evaluation. -/
theorem tankEvaluate_leaves {a : Bool} {s : State} {t : TankState} (draining : s.tank.state = .draining)
    (decides : tankDecides a false s = some t) : tankEvaluate a s = tankEnters t s ∧ t ≠ .draining := by
  refine ⟨tankEvaluate_once decides ?_, ?_⟩
  · rw [draining]; exact tankDecides_left draining decides
  · rintro rfl
    have holding := (tankDecides_draining decides).1
    rw [draining] at holding
    cases holding

/-- R83: an evaluation with a transition forms the claim anew. -/
theorem tankEvaluate_formed {a : Bool} {s : State} {t : TankState} (decides : tankDecides a false s = some t) :
    Formed (tankEvaluate a s) := by
  unfold tankEvaluate tankCascade
  rw [decides]
  dsimp only
  split
  · rcases tankCascade_formed 5 false (false || s.tank.state == .draining) (tankEnters t s) with same | formed
    · rw [same]; exact tankEnters_formed t s
    · exact formed
  · exact tankEnters_formed t s

end Sys2Proof.Machine
end

section
/-! SUPPORT. The entry to DRAINING (O43): the pump STARTING at the share, the share that the claim formed anew gives, and what
the evaluation makes of a share below PUMP_MIN. -/

namespace Sys2Proof.Machine

/-! ### The share of a claim that asks -/

/-- R139 a: the own claim asks for PUMP_MAX. -/
structure Asks (s : State) : Prop where
  state : s.tank.state = .holding ∨ s.tank.state = .draining
  mode : s.drain.mode = .auto
  pump : s.drain.pump ≠ some .fault
  gauge : s.tankGauge.status ≠ .failed

theorem Asks.requests {s : State} (h : Asks s) : requestedRate s = s.cfg.pumpMax := if_pos ⟨h.state, h.mode, h.pump, h.gauge⟩

/-- R139: two claims that ask differ in what is drawn alone. -/
theorem Asks.claims {s t : State} (h : Asks s) (k : Asks t) (outside : outsideTank t = outsideTank s)
    (fill : t.tank.fill = s.tank.fill) : claimNow t = { claimNow s with drawn := drawnRate t } := by
  obtain ⟨_, _, spill, cfg⟩ := SameField.of_control (outsideControl_of outside)
  unfold claimNow
  rw [h.requests, k.requests, fill, spill, cfg]

/-- R143 to R149: the share reads neither the tank, the pump nor what is drawn. -/
theorem runShare_share {s t : State} (outside : outsideTank t = outsideTank s) {n : Nat}
    (claim : t.drain.claim = { s.drain.claim with drawn := n }) : (runShare t).drain.share = (runShare s).drain.share := by
  obtain ⟨_, peers, _, _, rain, _⟩ := outsideTank_fields outside
  obtain ⟨standing, cfg⟩ := standing_cfg_of_tank outside
  calc (runShare t).drain.share = (runShare { s with
        peers := t.peers, drain.claim := t.drain.claim, rain := t.rain, trunk.standing := t.trunk.standing
        port.committed := t.cfg }).drain.share := rfl
    _ = (runShare s).drain.share := by rw [peers, claim, rain, standing, cfg]; rfl

theorem tankGauge_of_tank {s t : State} (h : outsideTank t = outsideTank s) : t.tankGauge = s.tankGauge :=
  congrArg PerGauge.tank (gauges_of_tank h)

/-- Claims that ask, formed anew, give one share. -/
theorem Asks.share {s t : State} (h : Asks s) (k : Asks t) (outside : outsideTank t = outsideTank s)
    (fill : t.tank.fill = s.tank.fill) :
    (runShare (formClaim t)).drain.share = (runShare (formClaim s)).drain.share := by
  refine runShare_share (n := drawnRate t) (by rw [formClaim_tank, formClaim_tank, outside]) ?_
  rw [formClaim_drain, formClaim_drain]
  exact h.claims k outside fill

/-! ### The entry -/

/-- R86, R91: what the decision for DRAINING says of the state. -/
structure DrainDecided (s : State) : Prop where
  state : s.tank.state = .holding
  shut : admitCondition s = false
  full : ¬ s.tank.volume ≤ s.cfg.emptyVolume
  permission : drainPermission s = true

theorem tankDecides_permits {a b : Bool} {s : State} (h : tankDecides a b s = some .draining) : DrainDecided s := by
  have state := (tankDecides_draining h).1
  rw [tankDecides, state] at h
  dsimp only at h
  split_ifs at h with admits empty may
  · cases h
  · cases h
  · exact ⟨state, Bool.eq_false_iff.mpr admits, empty, (Bool.and_eq_true_iff.mp may).1⟩

/-- R151: the tank in DRAINING with the pump started. -/
def drainStarted (s : State) : State := pumpStart (tankMoves .draining s)

theorem tankEnters_draining (s : State) : tankEnters .draining s = reformClaim (drainStarted s) := by
  obtain ⟨_, _, _, state, _⟩ := tankMoves_moves .draining s
  rw [tankEnters_eq, drainTakesTankState, if_pos state]
  rfl

/-- What the tank has moved to, the Drain Controller leaves. -/
theorem tankMoves_drained {t : TankState} {s u : State} (h : outsideDrain u = outsideDrain (tankMoves t s)) :
    u.tank.state = t ∧ u.tank.fill = s.tank.fill ∧ outsideTank u = outsideTank s := by
  obtain ⟨_, _, _, state, _⟩ := tankMoves_moves t s
  obtain ⟨_, _, _, tank, _⟩ := outsideDrain_fields h
  have moved : measured (tankMoves t s) = measured s := by unfold tankMoves; rw [retarget_measured]; rfl
  rw [tank]
  exact ⟨state, (volume_of_measured moved).2, (outsideTank_of h).trans (tankMoves_tank t s)⟩

theorem drainStarted_leaves (s : State) : (drainStarted s).tank.state = .draining ∧
    (drainStarted s).tank.fill = s.tank.fill ∧ outsideTank (drainStarted s) = outsideTank s :=
  tankMoves_drained (pumpStart_outside _)

/-- R151: the pump as it is started. -/
theorem drainStarted_pump {s : State} (stopped : s.drain.pump = some .stopped) (share : s.cfg.pumpMin ≤ s.drain.share)
    (positive : 1 ≤ s.cfg.pumpMin) : pumpPart (drainStarted s) = (some .starting, s.drain.share,
      some (s.elapsed + 1000 * s.cfg.pumpStartTimeout), some s.drain.share, true,
      s.drain.share * 1000 / s.cfg.pumpMax) := by
  obtain ⟨drain, _⟩ := tankMoves_moves .draining s
  obtain ⟨elapsed, _, cfg, _⟩ := sewer_of_tank (tankMoves_tank .draining s)
  unfold drainStarted
  rw [pumpStart_eq (by rw [drain]; exact stopped) (by rw [drain, cfg]; exact share) (by rw [drain]; omega), drain, elapsed,
    cfg]
  rfl

/-- R150 b: the setpoint that has followed a share from the one at which the pump was started. -/
def followed (s : State) (share : Nat) : Nat :=
  if share < s.drain.share ∨ s.drain.share + s.cfg.setpointDeadband ≤ share then share else s.drain.share

/-- R150, R151: the entry to DRAINING, by the share that the claim formed anew gives. -/
structure DrainEntered (s t : State) : Prop where
  state : t.tank.state = .draining
  share : t.drain.share = (runShare (formClaim (drainStarted s))).drain.share
  low : t.drain.share < s.cfg.pumpMin → t.drain.pump = some .stopping
  high : s.cfg.pumpMin ≤ t.drain.share → pumpPart t = (some .starting, followed s t.drain.share,
    some (s.elapsed + 1000 * s.cfg.pumpStartTimeout), some (followed s t.drain.share), true,
    followed s t.drain.share * 1000 / s.cfg.pumpMax)

theorem tankEnters_drains {a b : Bool} {s : State} (decides : tankDecides a b s = some .draining)
    (positive : 1 ≤ s.cfg.pumpMin) : DrainEntered s (tankEnters .draining s) := by
  obtain ⟨_, stopped, share⟩ := tankDecides_draining decides
  obtain ⟨state, _, outside⟩ := drainStarted_leaves s
  obtain ⟨r, hr⟩ : ∃ r, r = runShare (formClaim (drainStarted s)) := ⟨_, rfl⟩
  have shared : (tankEnters .draining s).drain.share = r.drain.share := by
    obtain ⟨_, share, _⟩ := shareAndSetpoint_share (formClaim (drainStarted s))
    rw [tankEnters_draining, hr]; exact share
  have follows : pumpPart (tankEnters .draining s) = pumpPart (followShare r) := by
    rw [tankEnters_draining, hr]; exact shareAndSetpoint_follows _
  have draining : r.tank.state = .draining := by
    obtain ⟨_, _, _, tank, _⟩ := outsideDrain_fields (formClaim_outside (drainStarted s))
    have ran : (runShare (formClaim (drainStarted s))).tank = (formClaim (drainStarted s)).tank := rfl
    rw [hr, ran, tank, state]
  have cfg : r.cfg = s.cfg := by
    have same : outsideTank r = outsideTank s := by rw [hr, outsideTank_of (runShare_outside _), formClaim_tank, outside]
    exact (standing_cfg_of_tank same).2
  have started := drainStarted_pump stopped share positive
  rw [← formClaim_pumpPart, ← runShare_pumpPart, ← hr] at started
  obtain ⟨pump, setpoint, timer, last, run, rate⟩ := pumpPart_eq.mp started
  refine ⟨(tankEnters_state .draining s).1, by rw [shared, hr], fun low => ?_, fun high => ?_⟩
  · rw [shared, ← cfg] at low
    rw [followShare_low draining (.inl pump) low, commandStop_driven (.inl pump)] at follows
    exact (pumpPart_eq.mp follows).1
  · rw [shared] at high ⊢
    rw [follows, followShare_follows draining (.inl pump) (by rw [cfg]; exact high) (by omega), setpoint, cfg, followed]
    split
    · exact pumpPart_eq.mpr ⟨pump, rfl, timer, rfl, run, rfl⟩
    · exact started

theorem DrainEntered.pump {s t : State} (h : DrainEntered s t) :
    t.drain.pump = some .starting ∨ t.drain.pump = some .stopping := by
  rcases Nat.lt_or_ge t.drain.share s.cfg.pumpMin with low | high
  · exact .inr (h.low low)
  · exact .inl (pumpPart_eq.mp (h.high high)).1

/-- R92 c: the tank that has entered DRAINING leaves it for HOLDING, or the evaluation ends. -/
theorem DrainDecided.decides {s : State} (decided : DrainDecided s) :
    tankDecides false false (tankEnters .draining s) =
      if drainBarred (tankEnters .draining s) then some .holding else none := by
  obtain ⟨state, _⟩ := tankEnters_state .draining s
  obtain ⟨volume, cfg⟩ := tankEnters_volume .draining s
  rw [tankDecides, state, tankEnters_admits, volume, cfg]
  dsimp only
  rw [if_neg (by rw [decided.shut]; decide), if_neg decided.full]

/-- R87, R159: the entry is evaluated, since the pump has left STOPPED. -/
theorem tankEvaluate_drains {a : Bool} {s : State} (decides : tankDecides a false s = some .draining)
    (positive : 1 ≤ s.cfg.pumpMin) :
    (drainBarred (tankEnters .draining s) = false → tankEvaluate a s = tankEnters .draining s) ∧
    (drainBarred (tankEnters .draining s) = true →
      tankEvaluate a s = tankEnters .holding (tankEnters .draining s)) := by
  obtain ⟨t, ht⟩ : ∃ t, t = tankEnters .draining s := ⟨_, rfl⟩
  have entered := tankEnters_drains decides positive
  have decision := (tankDecides_permits decides).decides
  obtain ⟨holding, stopped, _⟩ := tankDecides_draining decides
  rw [← ht] at entered decision
  have changed : drainChanged s t = true := by
    have pump : (s.drain.pump != t.drain.pump) = true := by
      rw [stopped]
      rcases entered.pump with h | h <;> rw [h] <;> rfl
    unfold drainChanged
    rw [pump, Bool.or_true, Bool.true_or]
  have evaluates : tankEvaluate a s = tankCascade 5 false false t := by
    unfold tankEvaluate
    rw [tankCascade, decides]
    dsimp only
    rw [← ht, reevaluates, changed, Bool.true_or, Bool.true_or, if_pos rfl, holding]
    rfl
  rw [← ht, evaluates]
  refine ⟨fun free => ?_, fun barred => ?_⟩
  · rw [free] at decision
    exact tankCascade_stays decision 5
  · rw [barred, if_pos rfl] at decision
    refine tankCascade_once (n := 4) decision ?_
    rw [entered.state]
    exact tankDecides_left entered.state decision

/-- R139 a: the claim asks while the pump starts. -/
theorem DrainDecided.asks {s : State} (h : DrainDecided s) : Asks (drainStarted s) := by
  obtain ⟨_, _, _, gauge, stopped, _, auto, share⟩ := drainPermission_iff.mp h.permission
  obtain ⟨state, _, outside⟩ := drainStarted_leaves s
  obtain ⟨drain, port, _⟩ := tankMoves_moves .draining s
  have cfg : (tankMoves .draining s).cfg = s.cfg := by unfold State.cfg; rw [port]
  have mode : (drainStarted s).drain.mode = .auto := (pumpStart_onward _).mode.trans (by rw [drain]; exact auto)
  have pump : (drainStarted s).drain.pump = some .starting :=
    pumpStart_starts (by rw [drain]; exact stopped) (by rw [drain, cfg]; exact share)
  exact ⟨.inr state, mode, by rw [pump]; decide, by rw [tankGauge_of_tank outside]; exact gauge⟩

/-- R150 c: the tank back in HOLDING with the pump told to stop. -/
def drainStopped (s : State) : State := commandStop (tankMoves .holding s)

theorem drainStopped_leaves (s : State) : (drainStopped s).tank.state = .holding ∧
    (drainStopped s).tank.fill = s.tank.fill ∧ outsideTank (drainStopped s) = outsideTank s :=
  tankMoves_drained (commandStop_outside _)

theorem tankEnters_holding (s : State) : tankEnters .holding s = runShare (formClaim (drainStopped s)) := by
  obtain ⟨_, _, _, state, _⟩ := tankMoves_moves .holding s
  rw [tankEnters_eq, drainTakesTankState, if_neg (by rw [state]; decide)]
  exact reformClaim_still (by rw [show commandStop _ = drainStopped s from rfl, (drainStopped_leaves s).1]; decide)

/-- R139 a: the claim asks again once the tank is back in HOLDING. -/
theorem DrainEntered.asks {s t : State} (h : DrainEntered s t) (decided : DrainDecided s)
    (ht : t = tankEnters .draining s) : Asks (drainStopped t) := by
  obtain ⟨_, _, _, gauge, _, _, auto, _⟩ := drainPermission_iff.mp decided.permission
  obtain ⟨state, _, outside⟩ := drainStopped_leaves t
  obtain ⟨drain, _⟩ := tankMoves_moves .holding t
  have entered : outsideTank t = outsideTank s := by rw [ht]; exact tankEnters_tank .draining s
  have mode : (drainStopped t).drain.mode = s.drain.mode := by
    rw [drainStopped, (commandStop_onward _).mode, drain, ht, (tankEnters_onward .draining s).mode]
  have pump : (drainStopped t).drain.pump ≠ some .fault := by
    rw [drainStopped, commandStop_pump, drain]
    rcases h.pump with p | p <;> rw [p] <;> decide
  exact ⟨.inl state, mode.trans auto, pump, by rw [tankGauge_of_tank (outside.trans entered)]; exact gauge⟩

/-- R139, R143: back in HOLDING the claim asks as before, and the share is the one that barred draining. -/
theorem DrainEntered.barredShare {s t : State} (h : DrainEntered s t) (decided : DrainDecided s)
    (ht : t = tankEnters .draining s) : (tankEnters .holding t).drain.share = t.drain.share := by
  obtain ⟨_, fill, outside⟩ := drainStarted_leaves s
  obtain ⟨_, fill', outside'⟩ := drainStopped_leaves t
  have entered : outsideTank t = outsideTank s := by rw [ht]; exact tankEnters_tank .draining s
  have filled : t.tank.fill = s.tank.fill := by rw [ht]; exact (volume_of_measured (tankEnters_measured .draining s)).2
  rw [tankEnters_holding, h.share]
  exact decided.asks.share (h.asks decided ht) ((outside'.trans entered).trans outside.symm)
    ((fill'.trans filled).trans fill.symm)

/-- R92 c: with the gate's target as it was, nothing but the share bars the tank that has just entered DRAINING. -/
theorem drainBarred_low {s t : State} (decided : DrainDecided s) (entered : DrainEntered s t)
    (ht : t = tankEnters .draining s) (steered : Steered s) {a b : Bool} (decides : tankDecides a b s = some .draining)
    (barred : drainBarred t = true) : t.drain.share < s.cfg.pumpMin := by
  obtain ⟨closed, sewer, level, gauge, _, _, auto, _⟩ := drainPermission_iff.mp decided.permission
  have outside : outsideTank t = outsideTank s := by rw [ht]; exact tankEnters_tank .draining s
  obtain ⟨_, sewer', cfg, _⟩ := sewer_of_tank outside
  have gauge' : t.tankGauge.status ≠ .failed := by rw [tankGauge_of_tank outside]; exact gauge
  have mode : t.drain.mode = .auto := by rw [ht, (tankEnters_onward .draining s).mode]; exact auto
  have steers : Steers s t := by rw [ht]; exact tankEnters_steers decides steered
  have target : t.tank.target = s.tank.target := by
    rw [steers.steered.target, steered.target, targetAtEntry_closed (s := s) (by rw [decided.state]; decide),
      targetAtEntry_closed (s := t) (by rw [entered.state]; decide), steers.mode]
  have gate : t.tank.gate = some .closed := (gatePart_same.mp (steers.gate target)).1.trans closed
  rcases drainBarred_iff.mp barred with low | failed | high | failed | open_ | hold | fault
  · rw [← cfg]; exact low
  · rw [sewer'] at failed; exact absurd failed sewer
  · rw [sewer', cfg] at high; omega
  · exact absurd failed gauge'
  · exact absurd gate open_
  · rw [mode] at hold; cases hold
  · rcases entered.pump with p | p <;> rw [p] at fault <;> cases fault

/-- R150, R151, R92: what the evaluation leaves of an entry to DRAINING. -/
theorem tankEvaluate_entry {a : Bool} {s u : State} (decides : tankDecides a false s = some .draining)
    (hu : u = tankEvaluate a s) (positive : 1 ≤ s.cfg.pumpMin) :
    (Steered s → s.cfg.pumpMin ≤ u.drain.share → u.tank.state = .draining) ∧
    (u.tank.state = .draining → pumpPart u = (some .starting, followed s u.drain.share,
      some (s.elapsed + 1000 * s.cfg.pumpStartTimeout), some (followed s u.drain.share), true,
      followed s u.drain.share * 1000 / s.cfg.pumpMax) ∧ s.cfg.pumpMin ≤ u.drain.share) := by
  obtain ⟨t, ht⟩ : ∃ t, t = tankEnters .draining s := ⟨_, rfl⟩
  have decided := tankDecides_permits decides
  have entered := tankEnters_drains decides positive
  obtain ⟨ends, returns⟩ := tankEvaluate_drains decides positive
  rw [← hu, ← ht] at ends returns
  rw [← ht] at entered
  cases barred : drainBarred t with
  | false =>
    have share : s.cfg.pumpMin ≤ t.drain.share := by
      by_contra low
      have cfg : t.cfg = s.cfg := by rw [ht]; exact (tankEnters_volume .draining s).2
      have bars : drainBarred t = true := drainBarred_iff.mpr (.inl (by rw [cfg]; omega))
      rw [barred] at bars
      cases bars
    rw [ends barred]
    exact ⟨fun _ _ => entered.state, fun _ => ⟨entered.high share, share⟩⟩
  | true =>
    have state : u.tank.state = .holding := by rw [returns barred]; exact (tankEnters_state .holding t).1
    refine ⟨fun steered share => ?_, fun draining => ?_⟩
    · have low := drainBarred_low decided entered ht steered decides barred
      rw [returns barred, entered.barredShare decided ht] at share
      omega
    · rw [state] at draining; cases draining

/-! ### The obligation -/

/-- Settles O43: the pump's commands as equations, the decision by its three conditions (`tankDecides_by`), and what the
evaluation leaves of each transition (`tankEvaluate_admitting`, `tankEvaluate_leaves`, `tankEvaluate_entry`). -/
theorem tankTransitions : Obligations.TankTransitions := by
  refine ⟨fun s => ⟨pumpStart_eq, pumpStart_same, fun driven => commandStop_driven (driven_iff.mp driven),
    fun still => commandStop_undriven (mt driven_iff.mpr still), fun draining driven =>
      ⟨followShare_low draining (driven_iff.mp driven), followShare_follows draining (driven_iff.mp driven)⟩,
    fun h => followShare_same (h.imp_right (mt driven_iff.mpr)), ?_⟩,
    fun s isSample left admits permit barred ha hp hb => ?_⟩
  · obtain ⟨pump, setpoint, _⟩ := pumpPart_eq.mp (shareAndSetpoint_follows s)
    exact ⟨setpoint, pump⟩
  · have decision := tankDecides_by (isSample := isSample) (left := left)
      (Bool.eq_iff_iff.mpr (ha.trans admitCondition_iff.symm)) (Bool.eq_iff_iff.mpr (hp.trans drainPermission_iff.symm))
      (Bool.eq_iff_iff.mpr (hb.trans drainBarred_iff.symm))
    refine ⟨decision, ?_, ?_, fun next u decides draining hu => ?_, fun u decides hu positive => ?_, fun next decides => ?_,
      tankEvaluate_tank isSample s⟩
    · rintro stays rfl
      exact tankCascade_stays stays 6
    · rintro decides rfl
      obtain ⟨enters, requested⟩ := tankEvaluate_admitting decides
      obtain ⟨state, timer, deferred, _⟩ := tankEnters_admitted s
      rw [enters]
      exact ⟨state, timer, (tankEnters_pump (by decide) s).1, requested, by rw [deferred]; exact pumpMayDraw_iff⟩
    · obtain ⟨enters, other⟩ := tankEvaluate_leaves draining decides
      obtain ⟨setpoint, rate, driven, still⟩ := tankEnters_pump other s
      rw [hu, enters]
      exact ⟨(tankEnters_state next s).1, setpoint, rate, fun h => driven (driven_iff.mp h),
        fun h => still (mt driven_iff.mpr h)⟩
    · obtain ⟨stays, starts⟩ := tankEvaluate_entry decides hu positive
      have holding := (tankDecides_draining decides).1
      have share := (tankDecides_draining decides).2.2
      refine ⟨fun target => stays ⟨by rw [holding]; decide, ?_⟩, fun draining => ?_⟩
      · rw [target, targetAtEntry_closed (by rw [holding]; decide)]
        exact (apply_ite some _ _ _).symm
      · obtain ⟨part, enough⟩ := starts draining
        obtain ⟨pump, setpoint, timer, last, run, rate⟩ := pumpPart_eq.mp part
        have least : s.cfg.pumpMin ≤ followed s u.drain.share := by unfold followed; split <;> assumption
        rw [setpoint, last, rate]
        exact ⟨pump, run, timer, rfl, rfl, rfl, least⟩
    · exact claimReformed_of (tankEvaluate_formed decides) (tankEvaluate_reclaims isSample s).claims

end Sys2Proof.Machine
end

section
/-! SUPPORT. A record handed to the log (R176; `recordPlaced`), an event that closes (R169, R170) and one that is split at its
60th entry (R170). -/

namespace Sys2Proof.Machine

/-! ### A record handed to the log -/

/-- What of the Counter a record handed to the log can change. -/
def logPart (c : Counter) : Counter := { Counter.reset with
  log := c.log, pendingRecords := c.pendingRecords
  totals := { Counter.reset.totals with
    droppedRecords := c.totals.droppedRecords, droppedBlocks := c.totals.droppedBlocks } }

theorem logPart_fields {c d : Counter} (h : logPart c = logPart d) : c.log = d.log ∧ c.pendingRecords = d.pendingRecords ∧
    c.totals.droppedRecords = d.totals.droppedRecords ∧ c.totals.droppedBlocks = d.totals.droppedBlocks := by
  have same : ∀ {α : Type} (f : Counter → α), f (logPart c) = f (logPart d) := fun f => congrArg f h
  exact ⟨same Counter.log, same Counter.pendingRecords, same fun x => x.totals.droppedRecords,
    same fun x => x.totals.droppedBlocks⟩

/-- Where a record stands is said of the log, and its flag stays once raised. -/
theorem recordPlaced_congr {r : SpillRecord} {flag : Nat} {s t s' t' : State} (h : recordPlaced r flag s t)
    (before : logPart s'.counter = logPart s.counter) (after : logPart t'.counter = logPart t.counter)
    (flags : t.port.flags.getLsbD flag = true → t'.port.flags.getLsbD flag = true) : recordPlaced r flag s' t' := by
  obtain ⟨log, waiting, dropped, blocks⟩ := logPart_fields before
  obtain ⟨log', waiting', dropped', blocks'⟩ := logPart_fields after
  obtain ⟨raised, clauses⟩ := h
  refine ⟨flags raised, ?_⟩
  unfold placedAtOnce LogOk at clauses ⊢
  rw [log, waiting, dropped, blocks, log', waiting', dropped', blocks']
  exact clauses

/-- The state after a record has been handed to the log, as far as it can differ. -/
def afterPlacing (flag : Nat) (s t : State) : State := { s with
  counter := { s.counter with
    log := t.counter.log, pendingRecords := t.counter.pendingRecords
    totals := { s.counter.totals with
      droppedRecords := t.counter.totals.droppedRecords, droppedBlocks := t.counter.totals.droppedBlocks } }
  port := s.port.withEvents (s.port.flags ||| BitVec.twoPow 15 flag) s.port.mask }

/-- R176: a record handed to the log stands in it, waits or is dropped, and nothing else changes. -/
theorem placeRecord_placed (r : SpillRecord) (s : State) :
    ∃ flag, recordPlaced r flag s (placeRecord r s) ∧ placeRecord r s = afterPlacing flag s (placeRecord r s) := by
  have atOnce : placedAtOnce r s ↔ (s.counter.pendingRecords.isEmpty && s.counter.log.fits r) = true := by
    rw [Bool.and_eq_true, List.isEmpty_iff, SpillLog.fits, decide_eq_true_eq, slotCount_eq]
    rfl
  by_cases fits : (s.counter.pendingRecords.isEmpty && s.counter.log.fits r) = true
  · have placed : placeRecord r s = raise .recordReady { s with counter.log := s.counter.log.writeRecord r } := if_pos fits
    have now := atOnce.mpr fits
    have few : s.counter.pendingRecords.length < 2 := by rw [now.1]; decide
    rw [placed]
    refine ⟨2, ⟨raise_flag_self .recordReady _, fun _ => ⟨rfl, now.1, putSlots_readPos _ _ _, rfl, fun ok => ?_⟩,
      fun later => absurd now later, fun later => absurd now later, fun _ => ⟨rfl, rfl⟩, fun many => by omega⟩, rfl⟩
    have count : slotCount r ≤ 48 := now.2.trans (List.count_le_length.trans_eq ok.1)
    obtain ⟨stands, others⟩ := writeRecord_stands ok count
    refine ⟨stands, fun i inside outside => ?_⟩
    obtain ⟨owner, bytes⟩ := others i inside
    rw [if_neg (not_lt.mpr outside)] at owner
    have same := bytes outside
    rw [slotBytes_eq, slotBytes_eq] at same
    exact ⟨owner, fun j inSlot => List.map_inj_left.mp same j (List.mem_range.mpr inSlot)⟩
  · have later : ¬ placedAtOnce r s := mt atOnce.mp fits
    by_cases few : s.counter.pendingRecords.length < 2
    · have placed : placeRecord r s = raise .logFull
          { s with counter.pendingRecords := s.counter.pendingRecords ++ [r] } := by
        unfold placeRecord; dsimp only; rw [if_neg fits, if_pos few]
      rw [placed]
      exact ⟨3, ⟨raise_flag_self .logFull _, fun now => absurd now later, fun _ => rfl, fun _ _ => ⟨rfl, rfl⟩,
        fun _ => ⟨rfl, rfl⟩, fun many => by omega⟩, rfl⟩
    · have placed : placeRecord r s = raise .recordDropped { s with
          counter.totals.droppedBlocks := wrap32 (s.counter.totals.droppedBlocks + r.entries.length)
          counter.totals.droppedRecords := wrap32 (s.counter.totals.droppedRecords + 1) } := by
        unfold placeRecord; dsimp only; rw [if_neg fits, if_neg few]
      rw [placed]
      exact ⟨4, ⟨raise_flag_self .recordDropped _, fun now => absurd now later, fun _ => rfl, fun _ few' => absurd few' few,
        fun few' => absurd few' few, fun _ => ⟨rfl, rfl, rfl, rfl⟩⟩, rfl⟩

/-! ### An event that closes -/

/-- The state without an open event. -/
def withoutEvent (s : State) : State :=
  { s with counter := { s.counter with event := none, current := none, deferred := none, spillSince := none } }

theorem closeEvent_open {s : State} {ev : SpillEvent} (open_ : s.counter.event = some ev) (finish : Nat)
    (mark : RecordFlags → RecordFlags) : closeEvent finish mark s =
      placeRecord (composeRecord ev finish (mark ev.flags) s.rain.total) (withoutEvent s) := by
  unfold closeEvent; rw [open_]; rfl

theorem eventFull_open {s : State} {ev : SpillEvent} (open_ : s.counter.event = some ev) :
    eventFull s = decide (60 ≤ ev.entries.length) := by
  unfold eventFull; rw [open_]

/-- R170: with no spill going on the event closes with SPLIT. -/
theorem splitEvent_ends {s : State} {ev : SpillEvent} (open_ : s.counter.event = some ev)
    (ended : s.counter.spill.inSpill = false) (start : Stamped) (peak : Nat) : splitEvent start peak s =
      placeRecord (composeRecord ev (closingEnd s ev) { ev.flags with split := true } s.rain.total) (withoutEvent s) := by
  rw [← closeEvent_open open_ _ fun f => { f with split := true }]
  unfold splitEvent
  rw [open_]
  dsimp only
  rw [ended]
  rfl

/-- R170: the record of an event that is split while the spill goes on. -/
def splitRecord (ev : SpillEvent) (s : State) : SpillRecord :=
  composeRecord ev (closingEnd s ev)
    { ev.flags with split := true, switchOnly := ev.flags.switchOnly || !s.counter.levelSeen } s.rain.total

/-- R170 b: while a spill goes on a continued event opens after the one that closes with SPLIT. -/
theorem splitEvent_continues {s : State} {ev : SpillEvent} (open_ : s.counter.event = some ev)
    (going : s.counter.spill.inSpill = true) (start : Stamped) (peak : Nat) : splitEvent start peak s =
      openEvent start (continuedFlags s) 0 peak false (placeRecord (splitRecord ev s) (withoutEvent s)) := by
  have decided : (decideSwitchOnly s).counter.event =
      some { ev with flags.switchOnly := ev.flags.switchOnly || !s.counter.levelSeen } := by
    rw [decideSwitchOnly, (onEvent_sets _ s).1, open_]; rfl
  have closed : closeEvent (closingEnd s ev) (fun f => { f with split := true }) (decideSwitchOnly s) =
      placeRecord (splitRecord ev s) (withoutEvent s) := closeEvent_open decided _ _
  obtain ⟨_, _, _, time, _, tank, spill, _⟩ :=
    outsideCounter_fields (placeRecord_counter (splitRecord ev s) (withoutEvent s))
  have flags : continuedFlags (placeRecord (splitRecord ev s) (withoutEvent s)) = continuedFlags s := by
    unfold continuedFlags openingFlags; rw [time, tank, spill]; rfl
  unfold splitEvent
  rw [open_]
  dsimp only
  rw [going, if_pos rfl, if_pos rfl, closed, flags]

end Sys2Proof.Machine
end

section
/-! SUPPORT. What the notices of a changed spill state leave beyond the Spill Counter's own: the lamp shows its condition
(R76), SPILLING gives the own alert WATCH (R127, R128), and no flag raised falls. -/

namespace Sys2Proof.Machine

/-! ### The lamp -/

/-- R76: the lamp shows its condition. -/
def LampShown (s : State) : Prop := s.input.lamp = lampCondition s

theorem LampShown.of_same {s t : State} (h : LampShown s) (lamp : t.input.lamp = s.input.lamp)
    (branch : t.rain.branch = s.rain.branch) (state : t.spill.state = s.spill.state) : LampShown t := by
  unfold LampShown lampCondition
  rw [lamp, branch, state]
  exact h

theorem LampShown.of_tank {s t : State} (h : LampShown s) (outside : outsideTank t = outsideTank s) : LampShown t := by
  obtain ⟨_, _, _, spill, rain, _, _, _, input, _⟩ := outsideTank_fields outside
  exact h.of_same (by rw [input]) (by rw [rain]) (by rw [spill])

theorem inEitherOrder_lamp {f g : State → State} (hf : ∀ t, LampShown t → LampShown (f t))
    (hg : ∀ t, LampShown t → LampShown (g t)) {s : State} (h : LampShown s) : LampShown (inEitherOrder f g s) :=
  inEitherOrder_holds LampShown (fun t k => hg _ (hf t k)) (fun t k => hf _ (hg t k)) (h.of_same rfl rfl rfl)

theorem evaluateLamp_shown (s : State) : LampShown (evaluateLamp s) := evaluateLamp_lamp s

/-- R134: a changed branch alert has the lamp evaluated. -/
theorem formBranchAlert_lamp {s : State} (h : LampShown s) : LampShown (formBranchAlert s) := by
  unfold formBranchAlert; dsimp only; split
  · exact h
  · exact inEitherOrder_lamp (fun t k => k.of_tank (drainTakesShareNotice_tank t))
      (fun t k => k.of_tank (tankTakesAlert_tank t)) (evaluateLamp_shown _)

theorem evaluateAlert_lamp {s : State} (h : LampShown s) : LampShown (evaluateAlert s) := by
  have queued : ∀ u : State, LampShown u → LampShown (queueRain u) := fun u k => by
    unfold queueRain; rw [queueBody_sets]; exact k.of_same rfl rfl rfl
  unfold evaluateAlert; dsimp only; split
  · exact formBranchAlert_lamp (queued _ (h.of_same rfl rfl rfl))
  · unfold updateHold; split_ifs <;> exact h.of_same rfl rfl rfl

theorem notifySpill_lamp (s : State) : (notifySpill s).input.lamp = lampCondition (notifySpill s) :=
  inEitherOrder_lamp (fun t k => k.of_tank (drainTakesNotice_tank t)) (fun _ k => evaluateAlert_lamp k) (evaluateLamp_shown _)

/-! ### The own alert -/

/-- R128: an evaluation leaves the own alert at its target or above. -/
theorem evaluateAlert_target (s : State) :
    (evaluateConditions s).rain.targetLevel.code ≤ (evaluateAlert s).rain.own.code := by
  have queued : ∀ u : State, (queueRain u).rain.own = u.rain.own := fun u => by unfold queueRain; rw [queueBody_sets]
  unfold evaluateAlert
  dsimp only
  split
  · rw [alertRises, formBranchAlert_rain]
    dsimp only
    rw [queued]
  · next above =>
    refine (not_lt.mp above).trans_eq (congrArg AlertLevel.code ?_)
    unfold updateHold
    split_ifs <;> rfl

/-- R127: SPILLING is a condition of WATCH. -/
theorem evaluateAlert_watch {s : State} (spilling : s.spill.state = .spilling) : 1 ≤ (evaluateAlert s).rain.own.code := by
  have watch : (evaluateConditions s).rain.condWatch = true := by
    unfold evaluateConditions; rw [spilling]; exact Bool.or_true _
  refine le_trans ?_ (evaluateAlert_target s)
  unfold Rain.targetLevel
  rw [if_pos watch]
  split_ifs <;> decide

theorem drainTakesNotice_rain (s : State) : (drainTakesNotice s).rain = s.rain ∧ (drainTakesNotice s).spill = s.spill := by
  obtain ⟨_, _, _, spill, rain, _⟩ := outsideTank_fields (drainTakesNotice_tank s)
  exact ⟨rain, spill⟩

theorem notifySpill_watch {s : State} (spilling : s.spill.state = .spilling) : 1 ≤ (notifySpill s).rain.own.code := by
  have told : (evaluateLamp (counterTakesSpillState s)).spill.state = .spilling := by
    obtain ⟨_, _, _, _, _, _, spill, _⟩ := outsideCounter_fields (counterTakesSpillState_counter s)
    exact (congrArg Spill.state spill).trans spilling
  unfold notifySpill
  rcases inEitherOrder_cases drainTakesNotice evaluateAlert (evaluateLamp (counterTakesSpillState s)) with h | h
  · rw [h]
    exact evaluateAlert_watch (by rw [(drainTakesNotice_rain _).2]; exact told)
  · rw [h, (drainTakesNotice_rain _).1]
    exact evaluateAlert_watch told

/-! ### The flags and the open event -/

theorem notifySpill_flags {s : State} {i : Nat} (raised : (counterTakesSpillState s).port.flags.getLsbD i = true) :
    (notifySpill s).port.flags.getLsbD i = true :=
  (inEitherOrder_evolves drainTakesNotice_evolves evaluateAlert_evolves
    (evaluateLamp (counterTakesSpillState s))).flags i raised

/-- R173 c, with the Counter written out. -/
theorem AlertNoted.counter_eq {s t : State} {c : Counter} {ev : SpillEvent} (h : AlertNoted s t) (counter : s.counter = c)
    (open_ : c.event = Option.some ev) : ∃ alert, ev.peakAlert.code ≤ alert.code ∧
      t.counter = { c with event := Option.some { ev with peakAlert := alert } } := by
  obtain ⟨alert, rises, told⟩ := h.some ev (counter ▸ open_)
  exact ⟨alert, rises, by rw [h.counter, told, counter]⟩

end Sys2Proof.Machine
end

section
/-! SUPPORT. What the Spill Counter makes of a spell that is confirmed, that lapses and that ends (R164, R165, R167, R168,
R170), the Counter written out for each. -/

namespace Sys2Proof.Machine

/-! ### A spell confirmed -/

/-- R167, R168: the instant from which a confirmed spell is credited to a block of the open event. -/
def creditSince (o : Stamped) (b : Block) (ev : SpillEvent) : Nat :=
  max (max o.instant b.start.instant) (ev.lastCredit.getD 0)

theorem afterLastCredit_onset {s : State} {o : Stamped} {ev : SpillEvent} (onset : s.spill.onset = some o)
    (open_ : s.counter.event = some ev) (b : Block) :
    afterLastCredit (max (onsetOf s).instant b.start.instant) s = creditSince o b ev := by
  unfold afterLastCredit onsetOf creditSince
  rw [onset, open_]
  cases credited : ev.lastCredit <;> simp [credited]

/-- R164 g and h, R167, R168: the open event with the litres and the marks of a spell. -/
def confirmedEvent (ev : SpillEvent) (p : Spill) : SpillEvent := { ev with
  litres := min (2 ^ 32 - 1) (ev.litres + p.provisional)
  flags := { ev.flags with
    sensorHeld := ev.flags.sensorHeld || p.marks.held, headBeyondTable := ev.flags.headBeyondTable || p.marks.beyond } }

/-- R164: with no event open. -/
theorem counterConfirms_opens {s : State} {o : Stamped} (onset : s.spill.onset = some o) (none_ : s.counter.event = none) :
    (counterConfirms s).counter = { s.counter with
      eventNumber := (s.counter.eventNumber + 1) % 2 ^ 32
      event := some
        { number := (s.counter.eventNumber + 1) % 2 ^ 32, start := o, rainAtOpen := s.rain.total
          peakAlert := s.rain.branch, litres := s.spill.provisional, entries := [], lastEnd := none, lastCredit := none
          flags := { openingFlags s with
            timeSet := s.counter.summary.stepped, sensorHeld := s.spill.marks.held
            headBeyondTable := s.spill.marks.beyond } }
      current := some ⟨1, o, o.instant + hours s.cfg.blockFirst, true, 0, s.counter.summary.before⟩
      deferred := none, spillSince := some o.instant, levelSeen := s.spill.marks.level, summary := noSummary
      totals := { s.counter.totals with opened := (s.counter.totals.opened + 1) % 2 ^ 32 } } := by
  unfold counterConfirms openAtConfirmation onsetOf
  rw [none_, onset]
  rfl

/-- R168: within an open event. -/
theorem counterConfirms_within {s : State} {o : Stamped} {ev : SpillEvent} {c : Block} (onset : s.spill.onset = some o)
    (open_ : s.counter.event = some ev) (current : s.counter.current = some c) (deferred : s.counter.deferred = none) :
    (counterConfirms s).counter = { s.counter with
      event := some (confirmedEvent ev s.spill)
      current := some { c with
        credited := c.credited + (s.elapsed - creditSince o c ev), containsSpill := true
        peak := max c.peak s.counter.summary.before }
      spillSince := some s.elapsed, levelSeen := s.spill.marks.level, summary := noSummary } := by
  have confirms : counterConfirms s = confirmInEvent c s := by unfold counterConfirms; rw [open_, deferred, current]
  rw [confirms]
  unfold confirmInEvent
  rw [afterLastCredit_onset onset open_]
  unfold takeMarks addLitres onEvent
  dsimp only
  rw [open_]
  rfl

/-- R166, R167 a: the deferred block as a confirmation counts it. -/
def deferralEntry (o : Stamped) (d : Block) (ev : SpillEvent) (before : Nat) : BlockEntry :=
  ⟨d.index, d.start.stamp, (d.credited + (d.nominalEnd - creditSince o d ev)) / 1000, max d.peak before⟩

/-- R167 a: the deferred block counted, and the spell taken by the current one. -/
def deferralCounted (o : Stamped) (ev : SpillEvent) (d c : Block) (s : State) : State := { s with
  counter := { s.counter with
    event := some { confirmedEvent ev s.spill with entries := ev.entries ++ [deferralEntry o d ev s.counter.summary.before] }
    current := some { c with containsSpill := true, peak := max c.peak s.counter.summary.after }
    deferred := none, spillSince := some c.start.instant, levelSeen := s.spill.marks.level
    totals := { s.counter.totals with
      counted := (s.counter.totals.counted + 1) % 2 ^ 32
      seconds := (s.counter.totals.seconds + (deferralEntry o d ev s.counter.summary.before).seconds) % 2 ^ 32 } } }

theorem deferralCounted_full (o : Stamped) (ev : SpillEvent) (d c : Block) (s : State) :
    eventFull (deferralCounted o ev d c s) = decide (60 ≤ ev.entries.length + 1) := by
  rw [eventFull_open (ev := { confirmedEvent ev s.spill with
    entries := ev.entries ++ [deferralEntry o d ev s.counter.summary.before] }) rfl, List.length_append]
  rfl

/-- R167 a: with a block deferred, the event is split where that block gives it its 60th entry. -/
theorem counterConfirms_deferred {s : State} {o : Stamped} {ev : SpillEvent} {c d : Block} (onset : s.spill.onset = some o)
    (open_ : s.counter.event = some ev) (current : s.counter.current = some c) (deferred : s.counter.deferred = some d) :
    counterConfirms s = clearSummary (if eventFull (deferralCounted o ev d c s)
      then splitEvent c.start (max c.peak s.counter.summary.after) (deferralCounted o ev d c s)
      else deferralCounted o ev d c s) := by
  have confirms : counterConfirms s = confirmDeferred d c s := by unfold counterConfirms; rw [open_, deferred, current]
  rw [confirms]
  unfold confirmDeferred
  rw [afterLastCredit_onset onset open_]
  unfold takeMarks addLitres countBlock onEvent
  dsimp only
  rw [open_]
  rfl

theorem counterConfirms_counts {s : State} {o : Stamped} {ev : SpillEvent} {c d : Block} (onset : s.spill.onset = some o)
    (open_ : s.counter.event = some ev) (current : s.counter.current = some c) (deferred : s.counter.deferred = some d)
    (few : ev.entries.length < 59) : counterConfirms s = clearSummary (deferralCounted o ev d c s) := by
  have room : ¬ decide (60 ≤ ev.entries.length + 1) = true := by rw [decide_eq_true_eq]; omega
  rw [counterConfirms_deferred onset open_ current deferred, deferralCounted_full, if_neg room]

/-- R170: the event split by the confirmation, and the continued one with the spell marks. -/
theorem counterConfirms_splits {s : State} {o : Stamped} {ev : SpillEvent} {c d : Block} (onset : s.spill.onset = some o)
    (open_ : s.counter.event = some ev) (current : s.counter.current = some c) (deferred : s.counter.deferred = some d)
    (last : 59 ≤ ev.entries.length) (spilling : s.counter.spill = .spilling) :
    (∃ flag, recordPlaced (splitRecord { confirmedEvent ev s.spill with
        entries := ev.entries ++ [deferralEntry o d ev s.counter.summary.before] } (deferralCounted o ev d c s))
      flag s (counterConfirms s)) ∧
    (counterConfirms s).counter = { s.counter with
      eventNumber := (s.counter.eventNumber + 1) % 2 ^ 32
      event := some
        { number := (s.counter.eventNumber + 1) % 2 ^ 32, start := c.start, rainAtOpen := s.rain.total
          peakAlert := s.rain.branch, litres := 0, entries := [], lastEnd := none, lastCredit := none
          flags := continuedFlags s }
      current := some ⟨1, c.start, c.start.instant + hours s.cfg.blockFirst, true, 0, max c.peak s.counter.summary.after⟩
      deferred := none, spillSince := some c.start.instant, levelSeen := false, summary := noSummary
      log := (counterConfirms s).counter.log, pendingRecords := (counterConfirms s).counter.pendingRecords
      totals := { (counterConfirms s).counter.totals with
        opened := (s.counter.totals.opened + 1) % 2 ^ 32, released := s.counter.totals.released
        counted := (s.counter.totals.counted + 1) % 2 ^ 32
        seconds := (s.counter.totals.seconds + (deferralEntry o d ev s.counter.summary.before).seconds) % 2 ^ 32 } } := by
  have going : (deferralCounted o ev d c s).counter.spill.inSpill = true := by
    rw [show (deferralCounted o ev d c s).counter.spill = .spilling from spilling]; rfl
  rw [counterConfirms_deferred onset open_ current deferred, deferralCounted_full, if_pos (decide_eq_true (by omega)),
    splitEvent_continues rfl going]
  obtain ⟨flag, placed, eq⟩ := placeRecord_placed (splitRecord { confirmedEvent ev s.spill with
    entries := ev.entries ++ [deferralEntry o d ev s.counter.summary.before] } (deferralCounted o ev d c s))
    (withoutEvent (deferralCounted o ev d c s))
  refine ⟨⟨flag, recordPlaced_congr placed rfl rfl id⟩, ?_⟩
  rw [eq]
  rfl

/-! ### A spell that lapses or ends -/

/-- R165 a: the end of a spill within an open event. -/
theorem counterEndsInterval_within {s : State} {ev : SpillEvent} {b : Block} {since : Nat} {sub : Stamped}
    (open_ : s.counter.event = some ev) (current : s.counter.current = some b) (from_ : s.counter.spillSince = some since)
    (subsided : s.spill.subsiding = some sub) : (counterEndsInterval s).counter = { s.counter with
      event := some { ev with
        lastEnd := some sub, lastCredit := some s.elapsed
        flags.switchOnly := ev.flags.switchOnly || !s.counter.levelSeen }
      current := some { b with credited := b.credited + (s.elapsed - since) }
      spillSince := none } := by
  unfold counterEndsInterval decideSwitchOnly onCurrent onEvent
  dsimp only
  rw [open_, current, from_, subsided]
  rfl

/-- R167 b: the event closed by a lapse, the totals aside. -/
def closedByLapse (totals : Totals) (s : State) : State := { s with
  counter := { s.counter with
    spill := .clear, event := none, current := none, deferred := none, spillSince := none, summary := noSummary
    totals := totals } }

/-- R167 b, R176: the record of that event stands in the log, waits or is dropped. -/
theorem closedByLapse_placed {s u : State} {r : SpillRecord} {totals : Totals}
    (records : totals.droppedRecords = s.counter.totals.droppedRecords)
    (blocks : totals.droppedBlocks = s.counter.totals.droppedBlocks)
    (hu : u = placeRecord r (closedByLapse totals s)) :
    (∃ flag, recordPlaced r flag s u ∧
      u.port = s.port.withEvents (s.port.flags ||| BitVec.twoPow 15 flag) s.port.mask) ∧
    u = { closedByLapse totals s with
      counter := { (closedByLapse totals s).counter with
        log := u.counter.log, pendingRecords := u.counter.pendingRecords
        totals := { totals with
          droppedRecords := u.counter.totals.droppedRecords, droppedBlocks := u.counter.totals.droppedBlocks } }
      port := u.port } := by
  obtain ⟨flag, placed, eq⟩ := placeRecord_placed r (closedByLapse totals s)
  have before : logPart s.counter = logPart (closedByLapse totals s).counter := by
    unfold logPart closedByLapse; dsimp only; rw [records, blocks]
  rw [← hu] at placed eq
  have port : u.port = s.port.withEvents (s.port.flags ||| BitVec.twoPow 15 flag) s.port.mask := congrArg State.port eq
  refine ⟨⟨flag, recordPlaced_congr placed before rfl id, port⟩, ?_⟩
  rw [port]
  exact eq

/-- R166, R167 b: the deferred block counted by a lapse. -/
def lapseCounted (ev : SpillEvent) (d : Block) (s : State) : State := { s with
  counter := { s.counter with
    spill := .clear, deferred := none, summary := noSummary
    event := some { ev with entries := ev.entries ++ [d.entry] }
    totals := { s.counter.totals with
      counted := (s.counter.totals.counted + 1) % 2 ^ 32
      seconds := (s.counter.totals.seconds + d.entry.seconds) % 2 ^ 32 } } }

theorem lapseCounted_full (ev : SpillEvent) (d : Block) (s : State) :
    eventFull (lapseCounted ev d s) = decide (60 ≤ ev.entries.length + 1) := by
  rw [eventFull_open (ev := { ev with entries := ev.entries ++ [d.entry] }) rfl, List.length_append]
  rfl

/-- R167 b: a deferred block that contains spill is counted, and the event is split where that gives it its 60th entry. -/
theorem lapse_deferred {s : State} {ev : SpillEvent} {d : Block} (held : s.counter.spill = .onset)
    (state : s.spill.state = .clear) (open_ : s.counter.event = some ev) (deferred : s.counter.deferred = some d)
    (spill : d.containsSpill = true) : counterTakesSpillState s = if eventFull (lapseCounted ev d s)
      then splitEvent s.now 0 (lapseCounted ev d s) else lapseCounted ev d s := by
  rw [counterTakesSpillState_lapse held state]
  unfold counterLapses clearSummary countBlock onEvent
  dsimp only
  rw [open_, deferred]
  dsimp only
  rw [if_pos spill]
  rfl

theorem lapse_counts {s : State} {ev : SpillEvent} {d : Block} (held : s.counter.spill = .onset)
    (state : s.spill.state = .clear) (open_ : s.counter.event = some ev) (deferred : s.counter.deferred = some d)
    (spill : d.containsSpill = true) (few : ev.entries.length < 59) : counterTakesSpillState s = lapseCounted ev d s := by
  have room : ¬ decide (60 ≤ ev.entries.length + 1) = true := by rw [decide_eq_true_eq]; omega
  rw [lapse_deferred held state open_ deferred spill, lapseCounted_full, if_neg room]

/-- R167 b, R170: the 60th entry closes the event with SPLIT, at the end of its last interval. -/
theorem lapse_splits {s : State} {ev : SpillEvent} {d : Block} (held : s.counter.spill = .onset)
    (state : s.spill.state = .clear) (open_ : s.counter.event = some ev) (deferred : s.counter.deferred = some d)
    (spill : d.containsSpill = true) (last : ev.entries.length = 59) : counterTakesSpillState s =
      placeRecord (composeRecord { ev with entries := ev.entries ++ [d.entry] } ev.intervalEnd { ev.flags with split := true }
        s.rain.total) (closedByLapse (lapseCounted ev d s).counter.totals s) := by
  rw [lapse_deferred held state open_ deferred spill, lapseCounted_full, if_pos (decide_eq_true (by omega)),
    splitEvent_ends (s := lapseCounted ev d s) rfl rfl]
  rfl

/-- R167 b: with a deferred block without spill the event closes at the end of its last interval (log 31). -/
theorem lapse_closes {s : State} {ev : SpillEvent} {d : Block} (held : s.counter.spill = .onset)
    (state : s.spill.state = .clear) (open_ : s.counter.event = some ev) (deferred : s.counter.deferred = some d)
    (spill : d.containsSpill = false) : counterTakesSpillState s =
      placeRecord (composeRecord ev ev.intervalEnd ev.flags s.rain.total) (closedByLapse s.counter.totals s) := by
  rw [counterTakesSpillState_lapse held state]
  unfold counterLapses
  have open' : (clearSummary { s with counter.spill := .clear }).counter.event = some ev := open_
  have deferred' : (clearSummary { s with counter.spill := .clear }).counter.deferred = some d := deferred
  dsimp only
  rw [open', deferred']
  dsimp only
  rw [if_neg (by rw [spill]; decide), closeEvent_open open']
  rfl

end Sys2Proof.Machine
end

section
/-! SUPPORT. The debounces of the spill state machine (O46): a spell confirmed at the end of the start debounce, a spill
ended at the end of the stop debounce, and a spell that lapses with a block deferred. -/

namespace Sys2Proof.Machine

/-! ### The change notified -/

/-- What the notices of a changed spill state leave of the blocks that take none. -/
theorem notifySpill_leaves (s : State) : (notifySpill s).peers = s.peers ∧ (notifySpill s).time = s.time ∧
    (notifySpill s).elapsed = s.elapsed ∧ (notifySpill s).input.gauges = s.input.gauges ∧
    (notifySpill s).input.digital = s.input.digital := by
  obtain ⟨elapsed, peers, time, _, _, _, input, _⟩ := outsideControl_fields (notifySpill_control s)
  exact ⟨peers, time, elapsed, by rw [input], by rw [input]⟩

theorem notifySpill_claimSpilling (s : State) : (notifySpill s).drain.claim.spilling = s.spill.state.inSpill := by
  have formed : (notifySpill s).drain.claim = claimNow (notifySpill s) := notifySpill_formed s
  rw [formed, claimNow, notifySpill_spill]

/-- R139, R140: a change of the spill state has the claim formed anew, measured from any state with the same claim. -/
theorem notifySpill_claimReformed {s u : State} (cfg : u.cfg = s.cfg) (claim : u.drain.claim = s.drain.claim)
    (slot : u.trunk.slots.claim = s.trunk.slots.claim) : claimReformed s (notifySpill u) :=
  claimReformed_of (notifySpill_formed u) ((Claims.of_same cfg claim slot).trans (notifySpill_claims u))

theorem openingFlags_eq (s : State) : openingFlags s =
    { noFlags with timeUnset := decide (s.time.clock = .unset), gateFault := decide (s.tank.gate = some .fault) } := by
  have gate : (s.tank.gate == some .fault) = decide (s.tank.gate = some .fault) := by
    cases s.tank.gate with
    | none => rfl
    | some g => cases g <;> rfl
  unfold openingFlags
  rw [gate]
  rfl

theorem hours_eq (n : Nat) : hours n = 3600000 * n := Nat.mul_comm n 3600000

/-! ### The start debounce -/

/-- R112 a: the Spill Monitor at the end of the start debounce. -/
def spellConfirmed (s : State) : State := raise .spillStart { s with spill := { s.spill with
  state := .spilling, stateInstant := some s.now, debounce := none
  confirmed := saturate maxU32 (s.spill.confirmed + s.spill.provisional) } }

theorem startDebounceExpiry_confirms {s : State} {x : Nat} (state : s.spill.state = .onset)
    (timer : s.spill.debounce = some x) (due : x ≤ s.elapsed) :
    exec .startDebounceExpiry s = .next (notifySpill (spellConfirmed s)) := by
  have ready : s.due s.spill.debounce = true := by rw [timer]; exact due_some due
  exact congrArg _ (if_pos ⟨state, ready⟩)

/-- The state that the Counter confirms the spell in. -/
def spellTaken (s : State) : State := { spellConfirmed s with counter.spill := .spilling }

theorem spellConfirmed_counted {s : State} (held : s.counter.spill = .onset) :
    counterTakesSpillState (spellConfirmed s) = counterConfirms (spellTaken s) := by
  unfold counterTakesSpillState
  rw [show (spellConfirmed s).counter.spill = .onset from held]
  rfl

theorem spellConfirmed_noted {s : State} (held : s.counter.spill = .onset) :
    AlertNoted (counterConfirms (spellTaken s)) (notifySpill (spellConfirmed s)) := by
  rw [← spellConfirmed_counted held]
  exact notifySpill_noted _

/-- R170, R176: the record of an event split by the confirmation, after the notices. -/
theorem spellConfirmed_placed {s : State} {r : SpillRecord} {flag : Nat} (held : s.counter.spill = .onset)
    (placed : recordPlaced r flag (spellTaken s) (counterConfirms (spellTaken s))) :
    recordPlaced r flag s (notifySpill (spellConfirmed s)) := by
  refine recordPlaced_congr placed rfl ?_ ?_
  · rw [(spellConfirmed_noted held).counter]; rfl
  · rw [← spellConfirmed_counted held]; exact notifySpill_flags

/-! ### The stop debounce -/

/-- R113 c: the Spill Monitor at the end of the stop debounce. -/
def spillEnded (s : State) : State := raise .spillEnd { s with spill := { s.spill with
  state := .clear, stateInstant := s.spill.subsiding, debounce := none, remainder := 0 } }

theorem stopDebounceExpiry_ends {s : State} {x : Nat} (state : s.spill.state = .subsiding)
    (timer : s.spill.debounce = some x) (due : x ≤ s.elapsed) :
    exec .stopDebounceExpiry s = .next (notifySpill (spillEnded s)) := by
  have ready : s.due s.spill.debounce = true := by rw [timer]; exact due_some due
  exact congrArg _ (if_pos ⟨state, ready⟩)

theorem spillEnded_counted {s : State} (held : s.counter.spill = .subsiding) :
    counterTakesSpillState (spillEnded s) = counterEndsInterval { spillEnded s with counter.spill := .clear } := by
  unfold counterTakesSpillState
  rw [show (spillEnded s).counter.spill = .subsiding from held]
  rfl

/-! ### The obligation -/

/-- R174: the spill seconds of a record with one entry more. -/
theorem entries_seconds (es : List BlockEntry) (e : BlockEntry) :
    ((es ++ [e]).map BlockEntry.seconds).sum = (es.map BlockEntry.seconds).sum + e.seconds := by
  rw [List.map_append, List.sum_append]
  exact congrArg _ (Nat.add_zero _)

/-- Settles O46: each debounce's end notifies the Spill Counter first, whose account is written out
(`counterConfirms_opens`, `counterConfirms_within`, `counterConfirms_counts`, `counterConfirms_splits`,
`counterEndsInterval_within`), and of which the later notices change the peak alert alone (`AlertNoted`); a lapse with a block
deferred counts it or closes the event (`lapse_counts`, `lapse_splits`, `lapse_closes`). -/
theorem debouncesConfirmAndEndSpills : Obligations.DebouncesConfirmAndEndSpills := by
  refine ⟨fun s x o state timer due onset => ?_, fun s ev d counted held state open_ deferred entry => ?_,
    fun s x state timer due => ?_⟩
  · have spilling : (spellConfirmed s).spill.state = .spilling := rfl
    have spill := notifySpill_spill (spellConfirmed s)
    have raised := (notifySpill_evolves (spellConfirmed s)).flags 0 (raise_flag_self .spillStart _)
    refine ⟨_, startDebounceExpiry_confirms state timer due, spill, raised, ?_, notifySpill_counterSpill _,
      notifySpill_claimSpilling _, notifySpill_claimReformed rfl rfl rfl, notifySpill_watch spilling, fun held none_ => ?_,
      fun ev c since held open_ current deferred from_ => ?_,
      fun ev c d since counted flags held open_ current deferred from_ entry marks => ?_, notifySpill_leaves _⟩
    · rw [notifySpill_lamp, lampCondition, spill]
      exact Bool.or_true _
    · obtain ⟨alert, rises, counter⟩ := (spellConfirmed_noted held).counter_eq
        (counterConfirms_opens (s := spellTaken s) onset none_) rfl
      rw [openingFlags_eq, hours_eq] at counter
      rw [counter]
      exact ⟨rfl, rfl, rfl, rfl, rfl, _, rfl, rfl, rfl, rfl, rfl, rfl, rises, rfl⟩
    · obtain ⟨alert, _, counter⟩ := (spellConfirmed_noted held).counter_eq
        (counterConfirms_within (s := spellTaken s) onset open_ current deferred) rfl
      rw [counter, from_]
      exact ⟨rfl, rfl, rfl, rfl, rfl, rfl, alert, rfl⟩
    · subst from_ entry marks
      by_cases few : ev.entries.length < 59
      · have counted := counterConfirms_counts (s := spellTaken s) onset open_ current deferred few
        obtain ⟨alert, _, counter⟩ := (spellConfirmed_noted held).counter_eq (congrArg State.counter counted) rfl
        rw [counter]
        exact ⟨rfl, rfl, rfl, rfl, rfl, fun _ => ⟨rfl, rfl, rfl, alert, rfl⟩, fun last => by omega⟩
      · obtain ⟨⟨flag, placed⟩, counted⟩ :=
          counterConfirms_splits (s := spellTaken s) onset open_ current deferred (not_lt.mp few) rfl
        obtain ⟨alert, rises, counter⟩ := (spellConfirmed_noted held).counter_eq counted rfl
        have record := spellConfirmed_placed held placed
        rw [continuedFlags, openingFlags_eq, hours_eq] at counter
        rw [counter]
        exact ⟨rfl, rfl, rfl, rfl, rfl, fun few' => absurd few' few, fun _ =>
          ⟨⟨_, flag, record, rfl, rfl, rfl, rfl, rfl, rfl, rfl⟩, rfl, rfl, rfl, rfl, alert, rises, rfl⟩⟩
  · subst entry
    refine ⟨fun spill few => ?_, fun t ht => ⟨fun spill last => ?_, fun dry => ?_⟩⟩
    · exact lapse_counts held state open_ deferred spill few
    · rw [lapse_splits held state open_ deferred spill last] at ht
      rw [← entries_seconds]
      exact closedByLapse_placed (totals := (lapseCounted ev d s).counter.totals) rfl rfl ht
    · rw [lapse_closes held state open_ deferred dry] at ht
      exact closedByLapse_placed rfl rfl ht
  · have spill := notifySpill_spill (spillEnded s)
    have raised := (notifySpill_evolves (spillEnded s)).flags 1 (raise_flag_self .spillEnd _)
    refine ⟨_, stopDebounceExpiry_ends state timer due, spill, raised, ?_, notifySpill_counterSpill _,
      notifySpill_claimSpilling _, notifySpill_claimReformed rfl rfl rfl,
      fun ev b since sub held open_ current from_ subsided => ?_, notifySpill_leaves _⟩
    · rw [notifySpill_lamp, lampCondition, spill]
      exact Bool.or_false _
    · have noted := notifySpill_noted (spillEnded s)
      rw [spillEnded_counted held] at noted
      obtain ⟨alert, _, counter⟩ := noted.counter_eq (counterEndsInterval_within
        (s := { spillEnded s with counter.spill := .clear }) open_ current from_ subsided) rfl
      rw [counter]
      exact ⟨rfl, rfl, alert, rfl⟩

end Sys2Proof.Machine
end
